-- ==== Sys2Proof/Word.lean ====
section
/-! DEFINITION. The word types of the model and the numbering of nodes and drive units. -/

namespace Sys2Proof

/-- One byte of a frame, a packet, a page or a descriptor. -/
abbrev Byte := BitVec 8

/-- A value of the 32-bit timebase, a record sequence number or a wrapper field. -/
abbrev Word32 := BitVec 32

/-- The four server nodes N0 to N3 (section 1.5 of the scope). -/
abbrev Node := Fin 4

/-- A drive slot of a node: LUN 0 or LUN 1. -/
abbrev Lun := Fin 2

end Sys2Proof
end

