-- ==== Sys2Proof/Syntax.lean ====
section
/-! DEFINITION. The commands of the block: one constructor for each row of spec/opcode_table.json, with the row's
operands. A row that is a frame of the management link carries the frame's fields as the host sends them (its tag
and its raw payload, of any length), so that every wrong length, code and index of R196 is a command too; a row
that is a packet of a node's USB bus carries the address it names, its toggle and its data. -/

namespace Sys2Proof

/-- The two inputs of a node line unit (5.1). -/
inductive Input where
  | pgood | auxin
  deriving DecidableEq, Repr

/-- The four outputs of a node line unit (5.1), in the order R113 releases them. -/
inductive Output where
  | pwrbtn | rstbtn | cut | nmi
  deriving DecidableEq, Repr

/-- The recipient a SETUP packet addresses (section 7.9). -/
inductive Recipient where
  | device | iface | endpoint | other
  deriving DecidableEq, Repr

/-- The type of request a SETUP packet makes (section 7.9): a standard one, a class request, or one of neither type. -/
inductive RequestType where
  | standard | classRequest | other
  deriving DecidableEq, Repr

/-- The fields of a SETUP packet but for the type and the code of its request, which a row of the table that is one
request fixes: the direction bit of its data stage, its recipient, its value, index and length. -/
structure SetupFields where
  dirIn : Bool
  recipient : Recipient
  value : BitVec 16
  index : BitVec 16
  length : BitVec 16
  deriving DecidableEq, Repr

/-- The fields of an 8-byte SETUP packet (section 7.9): the direction bit of its data stage, the type of its request and
its recipient, its request code, value, index and length. -/
structure Setup where
  dirIn : Bool
  type : RequestType
  recipient : Recipient
  code : Byte
  value : BitVec 16
  index : BitVec 16
  length : BitVec 16
  deriving DecidableEq, Repr

/-- The fields of a 31-byte command wrapper (section 11.8) but for the operation code, which is the first byte of
its block field: `rest` is the block field's other 15 bytes. -/
structure Wrapper where
  tag : Word32
  expected : Word32
  flags : Byte
  lun : Byte
  blockLen : Byte
  rest : Vector Byte 15
  deriving DecidableEq, Repr

/-- The commands, operations and events of the part, one constructor for each row of spec/opcode_table.json. -/
inductive Instr where
  -- the management link (Chapter 1)
  | porstAsserted
  | powerOnReset
  | timebaseIncrement
  | transactionStart
  | transactionEnd (tail : List Byte)
  | badLength (kind tag : Byte) (declared : BitVec 16)
  | badCheck (kind tag : Byte) (payload : List Byte) (check : BitVec 16)
  | badKind (kind tag : Byte) (payload : List Byte)
  | unknownKind (kind tag : Byte) (payload : List Byte)
  | headFrameLeaves
  | silenceTimerExpiry
  | nop (tag : Byte) (payload : List Byte)
  | partInfo (tag : Byte) (payload : List Byte)
  | linkConfig (tag : Byte) (payload : List Byte)
  | partReset (tag : Byte) (payload : List Byte)
  -- buffer memory (Chapter 2)
  | poolConfig (tag : Byte) (payload : List Byte)
  | poolState (tag : Byte) (payload : List Byte)
  | waitingAllocationRetry
  | allocationWaitTimeout (n : Node)
  -- console capture and history (Chapter 3)
  | conConfig (tag : Byte) (payload : List Byte)
  | characterReceived (n : Node) (data : Byte) (framing parity : Bool)
  | breakStart (n : Node) (parity : Bool)
  | breakEnd (n : Node)
  | idleGapExpiry (n : Node)
  | histRead (tag : Byte) (payload : List Byte)
  | streamSet (tag : Byte) (payload : List Byte)
  -- console injection and watching (Chapter 4)
  | conInject (tag : Byte) (payload : List Byte)
  | conBreak (tag : Byte) (payload : List Byte)
  | conFlush (tag : Byte) (payload : List Byte)
  | txItemBegin (n : Node)
  | byteSent (n : Node)
  | breakSent (n : Node)
  | waitingQueueRetry (n : Node)
  | textLoad (tag : Byte) (payload : List Byte)
  | patLoad (tag : Byte) (payload : List Byte)
  | patArm (tag : Byte) (payload : List Byte)
  | patState (tag : Byte) (payload : List Byte)
  -- node control lines and power view (Chapter 5)
  | lineConfig (tag : Byte) (payload : List Byte)
  | inputPinChange (n : Node) (i : Input) (high : Bool)
  | debounceExpiry (n : Node) (i : Input)
  | lineSet (tag : Byte) (payload : List Byte)
  | pulseExpiry (n : Node) (o : Output)
  | cutSettleExpiry (n : Node)
  | nodeState (tag : Byte) (payload : List Byte)
  -- reboot plans (Chapter 6)
  | planLoad (tag : Byte) (payload : List Byte)
  | planStart (tag : Byte) (payload : List Byte)
  | planAbort (tag : Byte) (payload : List Byte)
  | planState (tag : Byte) (payload : List Byte)
  | inrushConfig (tag : Byte) (payload : List Byte)
  | stepTimeout (n : Node)
  | delayExpiry (n : Node)
  | slotHoldExpiry (n : Node)
  -- node USB ports (Chapter 7)
  | portConfig (tag : Byte) (payload : List Byte)
  | connectTimerExpiry (n : Node)
  | descLoad (tag : Byte) (payload : List Byte)
  | busReset (n : Node) (answered : Bool)
  | suspend (n : Node)
  | resume (n : Node)
  | bulkInToken (n : Node) (addr : BitVec 7)
  | bulkInAck (n : Node)
  | bulkOutPacket (n : Node) (addr : BitVec 7) (toggle : Bool) (data : List Byte)
  | ping (n : Node) (addr : BitVec 7)
  | controlInToken (n : Node) (addr : BitVec 7)
  | controlInAck (n : Node)
  | controlOutToken (n : Node) (addr : BitVec 7)
  | controlRequestStalled (n : Node) (addr : BitVec 7) (setup : Setup)
  | getDescriptor (n : Node) (addr : BitVec 7) (setup : SetupFields)
  | setAddress (n : Node) (addr : BitVec 7) (setup : SetupFields)
  | setConfiguration (n : Node) (addr : BitVec 7) (setup : SetupFields)
  | getConfiguration (n : Node) (addr : BitVec 7) (setup : SetupFields)
  | getStatus (n : Node) (addr : BitVec 7) (setup : SetupFields)
  | setFeature (n : Node) (addr : BitVec 7) (setup : SetupFields)
  | clearFeature (n : Node) (addr : BitVec 7) (setup : SetupFields)
  | bulkReset (n : Node) (addr : BitVec 7) (setup : SetupFields)
  | getMaxLun (n : Node) (addr : BitVec 7) (setup : SetupFields)
  | portState (tag : Byte) (payload : List Byte)
  -- virtual drives and block commands (Chapter 8)
  | driveInsert (tag : Byte) (payload : List Byte)
  | driveEject (tag : Byte) (payload : List Byte)
  | driveState (tag : Byte) (payload : List Byte)
  | invalidWrapper (n : Node) (addr : BitVec 7) (toggle : Bool) (data : List Byte)
  | testUnitReady (n : Node) (addr : BitVec 7) (toggle : Bool) (w : Wrapper)
  | requestSense (n : Node) (addr : BitVec 7) (toggle : Bool) (w : Wrapper)
  | inquiry (n : Node) (addr : BitVec 7) (toggle : Bool) (w : Wrapper)
  | readCapacity (n : Node) (addr : BitVec 7) (toggle : Bool) (w : Wrapper)
  | read10 (n : Node) (addr : BitVec 7) (toggle : Bool) (w : Wrapper)
  | write10 (n : Node) (addr : BitVec 7) (toggle : Bool) (w : Wrapper)
  | forwardedCommand (n : Node) (addr : BitVec 7) (toggle : Bool) (op : Byte) (w : Wrapper)
  | fwdResult (tag : Byte) (payload : List Byte)
  | fwdTimeout (n : Node)
  -- media cache and fetching (Chapter 9)
  | slotWaitGrant
  | slotWaitTimeout (n : Node)
  | fetchData (tag : Byte) (payload : List Byte)
  | fetchFail (tag : Byte) (payload : List Byte)
  | fetchTimeout (slot : Fin 16)
  | cacheDrop (tag : Byte) (payload : List Byte)
  | writeDone (tag : Byte) (payload : List Byte)
  | writeTimeout (entry : Fin 32)
  | cacheConfig (tag : Byte) (payload : List Byte)
  | cacheState (tag : Byte) (payload : List Byte)
  -- events and attention (Chapter 10)
  | eventConfig (tag : Byte) (payload : List Byte)
  | eventTake (tag : Byte) (payload : List Byte)
  -- the USB bus (R129)
  | busActivity (n : Node)
  deriving DecidableEq, Repr

end Sys2Proof
end

