-- ==== Sys2Proof/Config.lean ====
section
/-! DEFINITION. What the part fixes once for all: the sizes, limits and identity codes the rules give as plain
numbers. The spec leaves no value of a result open (see INVENTORY.md, "What the manual leaves open"), so no free
value stands here. -/

namespace Sys2Proof.Config

/-- Pages of the pool (R22). -/
def poolPages : Nat := 1024
/-- Bytes of one page (R22). -/
def pageBytes : Nat := 512
/-- Pages of one cache line (R22, R29). -/
def linePages : Nat := 8
/-- Bytes of one cache line (R171). -/
def lineBytes : Nat := 4096
/-- Bytes of one chunk of a cache line, and of one staging unit (R160, R171). -/
def chunkBytes : Nat := 512
/-- Entries of the outbound queue (R9). -/
def queueEntries : Nat := 32
/-- Free entries an EVENT_SUMMARY needs (R9). -/
def summaryRoom : Nat := 2
/-- Free entries a media notice needs (R9). -/
def mediaRoom : Nat := 4
/-- Free entries a CON_DATA notice needs (R9). -/
def streamRoom : Nat := 12
/-- Largest payload of a frame (R2). -/
def maxPayload : Nat := 600
/-- Items a TX queue holds (R58). -/
def txItems : Nat := 256
/-- Bytes the match window holds (R72). -/
def windowBytes : Nat := 32
/-- Steps one execution may start (R98). -/
def stepBudget : Nat := 64
/-- Staging pages one port may hold (R33). -/
def stagingPages : Nat := 8
/-- Sum the four reserves may not exceed (R26). -/
def reserveSum : Nat := 512
/-- Free fetch slots below which prefetch stops (R182). -/
def prefetchSlots : Nat := 5
/-- Idle time of the USB bus after which a port suspends, in ms (R129). -/
def suspendMs : Nat := 3
/-- The family code (R18). -/
def family : Byte := 0x44
/-- The revision code (R18). -/
def revision : Byte := 0x01

end Sys2Proof.Config
end

