-- ==== Sys2Proof/Machine/State.lean ====
section
/-! DEFINITION. The state of the part as plain data, and State.reset, the part right after a power-on reset. -/

namespace Sys2Proof.Machine

open Sys2Proof

/-! ## Why a step can stop -/

/-- The faults of the part. The spec gives every command of the table an effect in every state, so no command of
this model stops with a fault and the type has no constructor. -/
inductive Fault where
  deriving DecidableEq, Repr

/-- The refusals of the model. -/
inductive Refusal where
  /-- Raised by an arm of exec whose command has no meaning yet. Safe: the step stops. No arm raises it. -/
  | notModelled (mnemonic : String)
  deriving DecidableEq, Repr

/-! ## The management link (Chapter 1) -/

/-- The two link states (R15). -/
inductive LinkState where
  | online | autonomous
  deriving DecidableEq, Repr

/-- CSN as the part sees it: high; low in a transaction the part ignores because PORST was asserted during it
(R21); or low in a transaction the part takes part in. -/
inductive Txn where
  | idle | ignored | active
  deriving DecidableEq, Repr

/-- The inbound assembly of R4 with the bytes it holds. In `body`, `left` payload bytes are still to come. -/
inductive Inbound where
  | ignore
  | header (held : List Byte)
  | body (kind tag : Byte) (left : Nat) (payload : List Byte)
  | check (kind tag : Byte) (payload : List Byte) (held : List Byte)
  deriving DecidableEq, Repr

/-- The six counts of the link error record (R6), each 0 to 65535. -/
structure LinkErrors where
  cutFrame : Nat
  badLength : Nat
  badCheck : Nat
  overrun : Nat
  badKind : Nat
  answerLength : Nat
  deriving DecidableEq, Repr

/-- A frame of the outbound queue: kind, tag and payload (R2). Its length field and its check follow from them. -/
structure Frame where
  kind : Byte
  tag : Byte
  payload : List Byte
  deriving DecidableEq, Repr

/-- The owner of a media notice that waits for admission (R9, R10). -/
inductive MediaOwner where
  | fetch (slot : Fin 16)
  | write (entry : Fin 32)
  | forward (n : Node)
  deriving DecidableEq, Repr

/-- The link interface: link state and silence timer (R15), attention threshold (R19), link error record (R6),
notice count (R13), outbound queue (R9), waiting media notices in the order in which each was first refused (R10),
the transaction in progress (R1, R4, R11) and the tag of a PART_RESET that waits for its rise of CSN (R20). -/
structure Link where
  online : LinkState
  silenceTimeout : Nat
  /-- the timebase at the taking of the last frame, from which the silence timer runs -/
  silenceStart : Word32
  /-- whole milliseconds spent in AUTONOMOUS so far, held at 65535 seconds (R17) -/
  autonomousMs : Nat
  threshold : Nat
  errors : LinkErrors
  noticeCount : Byte
  queue : List Frame
  waiting : List MediaOwner
  /-- set only inside the taking of a frame that ends AUTONOMOUS: notices wait until its reply is queued (R17) -/
  held : Bool
  txn : Txn
  inbound : Inbound
  /-- the head frame is being shifted out in this transaction (R11) -/
  shifting : Bool
  resetPending : Option Byte
  deriving DecidableEq, Repr

/-! ## Events (Chapter 10) -/

/-- One source record (R189). -/
structure EventRec where
  level : Nat
  count : Nat
  lastDetail : Nat
  firstTime : Option Word32
  deriving DecidableEq, Repr

/-- The event table: 52 source records and the summary-owed flag (R189). -/
structure EventTable where
  recs : Vector EventRec 52
  owed : Bool
  deriving DecidableEq, Repr

/-! ## Console capture and history (Chapters 2 and 3) -/

/-- The flags of a text record (R43). -/
structure RecFlags where
  framing : Bool
  parity : Bool
  brk : Bool
  gap : Bool
  full : Bool
  line : Bool
  deriving DecidableEq, Repr

/-- What a closed record holds beside its seq and timestamp (R43). -/
inductive RecBody where
  | text (flags : RecFlags) (payload : List Byte)
  | marker (code : Nat) (detail : Nat)
  deriving DecidableEq, Repr

/-- A closed record (R43). -/
structure Rec where
  seq : Word32
  timestamp : Word32
  body : RecBody
  deriving DecidableEq, Repr

/-- The open record of a node (R43): `lastByte` is the timebase at the arrival of its last byte, from which its
idle gap runs. -/
structure OpenRec where
  timestamp : Word32
  lastByte : Word32
  flags : RecFlags
  payload : List Byte
  deriving DecidableEq, Repr

/-- The parity settings (R37). -/
inductive Parity where
  | none | even | odd
  deriving DecidableEq, Repr

/-- The settings of a node's receiver and transmitter (R37). -/
structure Settings where
  rate : Nat
  parity : Parity
  recMax : Nat
  idleGap : Nat
  lineMode : Bool
  echo : Bool
  pacing : Nat
  deriving DecidableEq, Repr

/-- The console receiver of a node: its settings, whether it is in BREAK (R42), and its open record. -/
structure Receiver where
  settings : Settings
  inBreak : Bool
  opened : Option OpenRec
  deriving DecidableEq, Repr

/-- The history ring of a node (R23, R49, R53): its filled pages oldest first, its current page, the number of its
spare pages, its reserve and maximum, its sequence numbers and its stream cursor. A page is the list of the
records written into it. -/
structure History where
  filled : List (List Rec)
  current : List Rec
  spare : Nat
  reserve : Nat
  maximum : Nat
  oldest : Word32
  next : Word32
  cursor : Word32
  streaming : Bool
  deriving DecidableEq, Repr

/-! ## Console injection and watching (Chapter 4) -/

/-- An item of the TX queue (R58): a byte, which may carry a message-end mark with a count, or a break. -/
inductive TxItem where
  | byte (b : Byte) (mark : Option Nat)
  | brk (ms : Nat)
  deriving DecidableEq, Repr

/-- The item in progress (R58, R59): the timebase at which it began, and the rate code and parity with which it began,
which a character keeps to its end. -/
structure TxProgress where
  item : TxItem
  start : Word32
  rate : Nat
  parity : Parity
  deriving DecidableEq, Repr

/-- The console transmitter of a node (R58). `breakEnd` is the timebase at which the line last returned high from a
break, from which the character time of R59 runs. -/
structure Transmitter where
  queue : List TxItem
  inProgress : Option TxProgress
  lastByteEnd : Word32
  breakEnd : Word32
  lastWasByte : Bool
  deriving DecidableEq, Repr

/-- The action of a pattern (R68). -/
inductive PatAction where
  | none
  | event
  | startPlan (plan : Fin 16)
  deriving DecidableEq, Repr

/-- A pattern record that is not empty (R68). Bit i of `wild` is the wildcard flag of position i + 1. -/
structure Pattern where
  bytes : List Byte
  wild : BitVec 32
  fold : Bool
  rep : Bool
  armed : Bool
  action : PatAction
  hits : Nat
  deriving DecidableEq, Repr

/-! ## Control lines and power view (Chapter 5) -/

/-- Who drives a pulse (R83). -/
inductive PulseSource where
  | host | plan
  deriving DecidableEq, Repr

/-- A pulse record that is not NONE (R83): its source, the timebase at its start and its length in ms. -/
structure Pulse where
  source : PulseSource
  start : Word32
  ms : Nat
  deriving DecidableEq, Repr

/-- An output line (R78, R83). -/
structure OutLine where
  active : Bool
  openDrain : Bool
  activeHigh : Bool
  pulse : Option Pulse
  deriving DecidableEq, Repr

/-- An input line (R79, R80): the level of its pin, its accepted level, its configuration, and the start of its
candidate. A candidate's level is the opposite of the accepted level. -/
structure InLine where
  pin : Bool
  accepted : Bool
  activeHigh : Bool
  debounce : Nat
  candidate : Option Word32
  deriving DecidableEq, Repr

/-- The power view of a node (R85). -/
inductive View where
  | cutOff | standby | running
  deriving DecidableEq, Repr

/-- A node line unit (R78 to R92). -/
structure LineUnit where
  outputs : Vector OutLine 4
  pgood : InLine
  auxin : InLine
  cutSettle : Nat
  settleStart : Option Word32
  cutFault : Bool
  view : View
  deriving DecidableEq, Repr

/-! ## Reboot plans (Chapter 6) -/

/-- The kind of a step with the operands of that kind (R94). -/
inductive StepKind where
  | setLine (o : Output) (active : Bool)
  | pulseLine (o : Output) (ms : Nat)
  | waitLine (i : Input) (active : Bool)
  | waitPower (v : View)
  | waitMatch (p : Fin 8)
  | delay (ms : Nat)
  | takeSlot (hold : Nat)
  | sendText (t : Fin 16)
  | sendBreak (ms : Nat)
  | media (l : Lun) (reinsert : Bool)
  | notify (code : Nat)
  deriving DecidableEq, Repr

/-- The on-fail action of a step (R94). -/
inductive OnFail where
  | abort
  | goto (target : Nat)
  deriving DecidableEq, Repr

/-- A step record (R94). -/
structure PlanStep where
  kind : StepKind
  timeout : Nat
  onFail : OnFail
  deriving DecidableEq, Repr

/-- A plan that is not empty (R93). -/
structure Plan where
  priority : Nat
  steps : List PlanStep
  deriving DecidableEq, Repr

/-- The states of an executor other than IDLE (R97). -/
inductive ExecState where
  | runningStep | pulsing | waitingLine | waitingPower | waitingMatch | delaying | waitingSlot | waitingQueue
  deriving DecidableEq, Repr

/-- What started an execution (R97). -/
inductive Origin where
  | host | matched
  deriving DecidableEq, Repr

/-- The five results of an execution (section 6.6). -/
inductive PlanResult where
  | ok | failed | aborted | preempted | loopLimit
  deriving DecidableEq, Repr

/-- A last ending that is not NONE (R97). -/
structure Ending where
  result : PlanResult
  plan : Fin 16
  step : Nat
  time : Word32
  deriving DecidableEq, Repr

/-- The execution in progress (R97), held while the executor is not IDLE. -/
structure Run where
  state : ExecState
  plan : Fin 16
  priority : Nat
  origin : Origin
  step : Nat
  stepStart : Word32
  started : Nat
  touched : Vector Bool 4
  deriving DecidableEq, Repr

/-- A node's executor: its execution record (R97), IDLE when `run` is none. -/
structure Executor where
  run : Option Run
  last : Option Ending
  deriving DecidableEq, Repr

/-- A held inrush slot (R115): its holder, the timebase at which the hold began, and its length. -/
structure Hold where
  node : Node
  start : Word32
  ms : Nat
  deriving DecidableEq, Repr

/-- A node on the inrush waiting list with the hold time of its step (R115). -/
structure SlotWaiter where
  node : Node
  hold : Nat
  deriving DecidableEq, Repr

/-- The inrush arbiter (R115). -/
structure Arbiter where
  count : Nat
  holds : List Hold
  waiting : List SlotWaiter
  deriving DecidableEq, Repr

/-! ## USB ports (Chapter 7) -/

/-- The states of a port (R120). -/
inductive PortState where
  | disabled | disconnected | connecting | defaulted | addressed | configured | suspended
  deriving DecidableEq, Repr

/-- The bulk endpoints: 81H (IN) and 02H (OUT). -/
inductive Endpoint where
  | bulkIn | bulkOut
  deriving DecidableEq, Repr

/-- A packet sent to the node: its toggle (false DATA0, true DATA1) and its bytes. -/
structure Packet where
  toggle : Bool
  data : List Byte
  deriving DecidableEq, Repr

/-- The port's answer to the last packet on its bus: nothing, a handshake, or a data packet. This field is the
model's own: it is how the answer, which the node sees, can be observed. -/
inductive UsbAnswer where
  | silent | ack | nak | stall
  | data (p : Packet)
  deriving DecidableEq, Repr

/-- The stage of a control transfer (R135). -/
inductive ControlStage where
  | data | status | stalled
  deriving DecidableEq, Repr

/-- The control transfer in progress on endpoint 0 (R135): the fields of its SETUP packet, the stage, the bytes to be sent and
the number sent, whether a closing zero-length packet is owed, the endpoint 0 toggle, and the packet sent and not
yet acknowledged. -/
structure Control where
  setup : Setup
  stage : ControlStage
  bytes : List Byte
  sent : Nat
  zlp : Bool
  toggle : Bool
  inFlight : Option Packet
  deriving DecidableEq, Repr

/-- The entries of a descriptor set (R125). An absent string is the empty list. -/
structure DescSet where
  device : List Byte
  config : List Byte
  strings : Vector (List Byte) 4
  inquiry : Vector (List Byte) 2
  deriving DecidableEq, Repr

/-- The port record (R120). `idleSince` is the timebase at the last bus activity (R129); `stagingBlocked` is the
flag of R33; `answer` is the model's own. Whether the pull-up is applied follows from the state. -/
structure Port where
  state : PortState
  remembered : Option PortState
  enabled : Bool
  always : Bool
  delay : Nat
  fullSpeedOnly : Bool
  connectStart : Option Word32
  high : Bool
  address : BitVec 7
  configuration : Bool
  pendingAddress : Option (BitVec 7)
  toggleIn : Bool
  toggleOut : Bool
  haltIn : Bool
  haltOut : Bool
  recovery : Bool
  resetSeen : Bool
  pendingIn : Option Packet
  control : Option Control
  desc : Option DescSet
  idleSince : Word32
  stagingBlocked : Bool
  answer : UsbAnswer
  deriving DecidableEq, Repr

/-! ## Drives and command contexts (Chapter 8) -/

/-- An image as the host inserts it (R143). -/
structure Image where
  handle : Word32
  size : Nat
  block : Nat
  writable : Bool
  deriving DecidableEq, Repr

/-- Sense data: key, additional code and qualifier. -/
structure Sense where
  key : Byte
  code : Byte
  qualifier : Byte
  deriving DecidableEq, Repr

/-- A drive record (R143) with its last-read line (R182). The slot is PRESENT while `image` is some; its capacity
follows from the image (R144). -/
structure Drive where
  image : Option Image
  generation : Byte
  unitAttention : Bool
  sense : Option Sense
  remembered : Option Image
  blocksRead : Nat
  hits : Nat
  misses : Nat
  lastRead : Option Nat
  deriving DecidableEq, Repr

/-- The phases of a command context (R148). -/
inductive Phase where
  | expectCommand | dataIn | dataOut | awaitHost | status | haltThenStatus | recovery
  deriving DecidableEq, Repr

/-- The command of a context (R148): the wrapper's fields and the command block. -/
structure Command where
  tag : Word32
  expected : Nat
  dirIn : Bool
  lun : Lun
  block : List Byte
  deriving DecidableEq, Repr

/-- The result of a command (R148). -/
inductive CmdResult where
  | passed
  | failed (sense : Sense)
  | phaseError
  deriving DecidableEq, Repr

/-- The state of a forward (R148). -/
inductive FwdState where
  | none | offered | sent
  deriving DecidableEq, Repr

/-- How the data phase is being run: a READ(10) from the cache (R158), composed or forwarded bytes (R158), one
closing zero-length packet (R153, R158, R159), a WRITE(10) (R160), the discard of a command decided at its start
(R153), or the collection of a forward's data (R165). -/
inductive DataMode where
  | none | read | composed | forwarded | zlp | write | discard | forward
  deriving DecidableEq, Repr

/-- Where a read stands with the line it asked for last (R174, R176): attached to it, on the slot-wait list, or on
the pool's waiting list. -/
inductive AskState where
  | attached | waitingSlot | waitingPages
  deriving DecidableEq, Repr

/-- The line a read asked for last: its index, and the generation of the line it is attached to. -/
structure Ask where
  index : Nat
  generation : Byte
  state : AskState
  deriving DecidableEq, Repr

/-- A command context (R148). The last fields are what a running command needs from one packet to the next:
`running` says that decision 7 of R157 let a READ(10) or WRITE(10) run; `startByte`, `lastLine` and `sequential`
are the S, the last line (R157) and the sequential mark (R182) of a read; `ask` the line it asked for last;
`filling` the staging unit being filled with its number; `statusBytes` the composed status wrapper. -/
structure Context where
  phase : Phase
  command : Option Command
  dn : Nat
  moved : Nat
  result : CmdResult
  halted : Option Endpoint
  fwdBuffer : List Byte
  fwdTicket : Byte
  fwdState : FwdState
  fwdStart : Word32
  fwdTimeout : Nat
  mode : DataMode
  running : Bool
  composed : List Byte
  blockSize : Nat
  startByte : Nat
  lastLine : Nat
  sequential : Bool
  ask : Option Ask
  filling : Option (Nat × List Byte)
  statusBytes : List Byte
  deriving DecidableEq, Repr

/-! ## Buffer memory and media cache (Chapters 2 and 9) -/

/-- An entry of the pool's waiting list (R31) or of the slot-wait list (R176): the port whose read waits, the
timebase at which it joined, and the fetch timeout then in force. -/
structure Waiter where
  node : Node
  start : Word32
  timeout : Nat
  deriving DecidableEq, Repr

/-- The page pool: the number of free pages (R22) and the list of waiting allocations (R31). The pages of every
other state are counted with their owners. -/
structure Pool where
  free : Nat
  waiting : List Waiter
  deriving DecidableEq, Repr

/-- The state of a cache line (R170). A FETCHING or DOOMED line names the fetch slot it belongs to (R175). -/
inductive LineState where
  | fetching (slot : Fin 16)
  | valid
  | doomed (slot : Fin 16)
  deriving DecidableEq, Repr

/-- A cache line (R170). A chunk is some once its data has been received; the place of a line in the cache's list
is its place in the order of use. -/
structure Line where
  node : Node
  lun : Lun
  generation : Byte
  index : Nat
  state : LineState
  chunks : Vector (Option (List Byte)) 8
  pins : Nat
  deriving DecidableEq, Repr

/-- The state of a fetch slot with what it holds beside its line (R175). -/
inductive SlotUse where
  | free
  | reserved (n : Node)
  | offered (start : Word32) (timeout : Nat)
  | sent (start : Word32) (timeout : Nat)
  deriving DecidableEq, Repr

/-- A fetch slot (R175). -/
structure FetchSlot where
  ticket : Byte
  use : SlotUse
  deriving DecidableEq, Repr

/-- A write-table entry in use (R184). `sent` tells SENT from OFFERED; `data` is its staging page. -/
structure WriteUse where
  sent : Bool
  node : Node
  lun : Lun
  handle : Word32
  offset : Nat
  data : List Byte
  start : Word32
  timeout : Nat
  cancelled : Bool
  deriving DecidableEq, Repr

/-- A write-table entry (R184), FREE when `use` is none. -/
structure WriteEntry where
  ticket : Byte
  use : Option WriteUse
  deriving DecidableEq, Repr

/-- The media cache (R170, R175, R176, R184, R187). `lines` stands in the order of use, least recently used
first. -/
structure Cache where
  limit : Nat
  depth : Nat
  timeout : Nat
  lines : List Line
  slots : Vector FetchSlot 16
  slotWait : List Waiter
  writes : Vector WriteEntry 32
  deriving DecidableEq, Repr

/-! ## The whole -/

/-- The timers whose expiry is a command of the table (R14). -/
inductive Timer where
  | silence
  | allocationWait (n : Node)
  | idleGap (n : Node)
  | breakSent (n : Node)
  | debounce (n : Node) (i : Input)
  | pulse (n : Node) (o : Output)
  | cutSettle (n : Node)
  | step (n : Node)
  | delay (n : Node)
  | slotHold (n : Node)
  | connect (n : Node)
  | suspend (n : Node)
  | forward (n : Node)
  | slotWait (n : Node)
  | fetch (slot : Fin 16)
  | write (entry : Fin 32)
  deriving DecidableEq, Repr

/-- What each of the four node columns holds (section 1.2 of the scope). -/
structure NodeState where
  rx : Receiver
  hist : History
  tx : Transmitter
  patterns : Vector (Option Pattern) 8
  window : List Byte
  lines : LineUnit
  exec : Executor
  port : Port
  ctx : Context
  drives : Vector Drive 2
  deriving DecidableEq, Repr

/-- The state of the part. `pending` is the queue of commands that wait for the part, first in, first out; `due`
lists the timers that expired at the increment that made the present timebase value and whose expiry has not been
carried out yet (R14). Both are the model's own. -/
structure State where
  pending : List Instr
  porst : Bool
  timebase : Word32
  due : List Timer
  link : Link
  events : EventTable
  pool : Pool
  lastServed : Node
  texts : Vector (List Byte) 16
  plans : Vector (Option Plan) 16
  arbiter : Arbiter
  cache : Cache
  nodes : Vector NodeState 4
  deriving DecidableEq, Repr

/-! ## The values after a part reset -/

/-- No flag set. -/
def RecFlags.none : RecFlags :=
  { framing := false, parity := false, brk := false, gap := false, full := false, line := false }

/-- The link interface after a part reset (R21): PART_STARTED with tag 0 stands in the queue. -/
def Link.reset (reason : Byte) : Link :=
  { online := .online, silenceTimeout := 0, silenceStart := 0, autonomousMs := 0, threshold := 1,
    errors := { cutFrame := 0, badLength := 0, badCheck := 0, overrun := 0, badKind := 0, answerLength := 0 },
    noticeCount := 1,
    queue := [{ kind := 0xE0, tag := 0, payload := [reason, Config.family, Config.revision] }],
    waiting := [], held := false, txn := .idle, inbound := .ignore, shifting := false, resetPending := none }

/-- The event table after a part reset (R189). -/
def EventTable.reset : EventTable :=
  { recs := Vector.replicate 52 { level := 1, count := 0, lastDetail := 0, firstTime := none }, owed := false }

/-- The receiver after a part reset (R37, R57). -/
def Receiver.reset : Receiver :=
  { settings := { rate := 4, parity := .none, recMax := 120, idleGap := 50, lineMode := true, echo := false, pacing := 0 },
    inBreak := false, opened := none }

/-- The history ring after a part reset (R36, R57): one empty current page and 15 spare pages. -/
def History.reset : History :=
  { filled := [], current := [], spare := 15, reserve := 16, maximum := 64, oldest := 0, next := 0, cursor := 0, streaming := false }

/-- The transmitter after a part reset (R58): the last item sent is recorded as a break, taken to have ended at the
reset (DESIGN CHOICE, log entry 43). -/
def Transmitter.reset : Transmitter :=
  { queue := [], inProgress := none, lastByteEnd := 0, breakEnd := 0, lastWasByte := false }

/-- An output with a configuration, IDLE and without a pulse (R78, R92). -/
def OutLine.idle (openDrain activeHigh : Bool) : OutLine :=
  { active := false, openDrain := openDrain, activeHigh := activeHigh, pulse := none }

/-- An input after a part reset (R80): its pin's level is accepted at once. -/
def InLine.reset (pin : Bool) : InLine :=
  { pin := pin, accepted := pin, activeHigh := true, debounce := 10, candidate := none }

/-- The line unit after a part reset (R92), from the sampled levels of PGOOD and AUXIN. -/
def LineUnit.reset (pgood auxin : Bool) : LineUnit :=
  { outputs := #v[OutLine.idle true false, OutLine.idle true false, OutLine.idle false true, OutLine.idle true false],
    pgood := InLine.reset pgood, auxin := InLine.reset auxin,
    cutSettle := 2000, settleStart := none, cutFault := false,
    view := if pgood then .running else .standby }

/-- The port record after a part reset (R120). -/
def Port.reset : Port :=
  { state := .disabled, remembered := none, enabled := false, always := false, delay := 1500, fullSpeedOnly := false,
    connectStart := none, high := false, address := 0, configuration := false, pendingAddress := none,
    toggleIn := false, toggleOut := false, haltIn := false, haltOut := false, recovery := false, resetSeen := false,
    pendingIn := none, control := none, desc := none, idleSince := 0, stagingBlocked := false, answer := .silent }

/-- The context after a part reset (R148). -/
def Context.reset : Context :=
  { phase := .expectCommand, command := none, dn := 0, moved := 0, result := .passed, halted := none,
    fwdBuffer := [], fwdTicket := 0, fwdState := .none, fwdStart := 0, fwdTimeout := 0,
    mode := .none, running := false, composed := [], blockSize := 0, startByte := 0, lastLine := 0, sequential := false,
    ask := none, filling := none, statusBytes := [] }

/-- A drive record after a part reset (R143, R182). -/
def Drive.reset : Drive :=
  { image := none, generation := 0, unitAttention := false, sense := none, remembered := none,
    blocksRead := 0, hits := 0, misses := 0, lastRead := none }

/-- The media cache after a part reset (R170, R187, R188). -/
def Cache.reset : Cache :=
  { limit := 64, depth := 2, timeout := 3000, lines := [],
    slots := Vector.replicate 16 { ticket := 0, use := .free }, slotWait := [],
    writes := Vector.replicate 32 { ticket := 0, use := none } }

/-- A node column after a part reset, from the sampled levels of its two input pins. -/
def NodeState.reset (pgood auxin : Bool) : NodeState :=
  { rx := Receiver.reset, hist := History.reset, tx := Transmitter.reset,
    patterns := Vector.replicate 8 none, window := [],
    lines := LineUnit.reset pgood auxin, exec := { run := none, last := none },
    port := Port.reset, ctx := Context.reset, drives := Vector.replicate 2 Drive.reset }

/-- The part right after a power-on reset, with nothing waiting. The input pins, which the part samples at that
moment (R80), are taken to be low (DESIGN CHOICE, log entry 2). -/
def State.reset : State :=
  { pending := [], porst := false, timebase := 0, due := [],
    link := Link.reset 0, events := EventTable.reset,
    pool := { free := 960, waiting := [] }, lastServed := 3,
    texts := Vector.replicate 16 [], plans := Vector.replicate 16 none,
    arbiter := { count := 1, holds := [], waiting := [] },
    cache := Cache.reset,
    nodes := Vector.replicate 4 (NodeState.reset false false) }

end Sys2Proof.Machine
end

