-- ==== Sys2Proof/Machine/Operands.lean ====
section
/-! DEFINITION. Bytes and fields: byte orders (section 11.1), the frame check (R3), frames as bytes (R2), the
fields of payloads and packets, and the numbers that stand for the enumerated values (section 11.1). -/

namespace Sys2Proof.Machine

open Sys2Proof

/-! ## Byte orders -/

/-- The low k bytes of a number, least significant first (section 11.1). -/
def le : Nat → Nat → List Byte
  | 0, _ => []
  | k + 1, v => BitVec.ofNat 8 v :: le k (v / 256)

/-- The number a list of bytes spells, least significant first. -/
def leNat : List Byte → Nat
  | [] => 0
  | b :: bs => b.toNat + 256 * leNat bs

/-- The low k bytes of a number, most significant first. -/
def be (k v : Nat) : List Byte := (le k v).reverse

/-- The number a list of bytes spells, most significant first. -/
def beNat (bs : List Byte) : Nat := leNat bs.reverse

/-- The k bytes of a list from place i on. -/
def bytesAt (p : List Byte) (i k : Nat) : List Byte := (p.drop i).take k

/-- The k-byte little-endian field at place i. -/
def fieldAt (p : List Byte) (i k : Nat) : Nat := leNat (bytesAt p i k)

/-- The one-byte field at place i. -/
def u8 (p : List Byte) (i : Nat) : Nat := (p.getD i 0).toNat

/-- The two-byte little-endian field at place i. -/
def u16 (p : List Byte) (i : Nat) : Nat := fieldAt p i 2

/-- The four-byte little-endian field at place i, as a 32-bit word. -/
def w32 (p : List Byte) (i : Nat) : Word32 := BitVec.ofNat 32 (fieldAt p i 4)

/-- A byte of a reply. -/
def byteOf (v : Nat) : Byte := BitVec.ofNat 8 v

/-- ON and OFF as a byte of a reply (section 11.1). -/
def byteOfBool (b : Bool) : Byte := if b then 1 else 0

/-- An ON/OFF field (section 11.1): none where the byte has no code. -/
def onOff (v : Nat) : Option Bool :=
  if v = 0 then some false else if v = 1 then some true else none

/-- A node number field: none where it is over 3. -/
def nodeOf (v : Nat) : Option Node := if h : v < 4 then some ⟨v, h⟩ else none

/-- A LUN field: none where it is over 1. -/
def lunOf (v : Nat) : Option Lun := if h : v < 2 then some ⟨v, h⟩ else none

/-- An index field below k. -/
def indexOf (k v : Nat) : Option (Fin k) := if h : v < k then some ⟨v, h⟩ else none

/-- A value moved to the nearest limit of its range (section 1.5 of the scope). -/
def clamp (lo hi v : Nat) : Nat := if v < lo then lo else if hi < v then hi else v

/-! ## The frame check and the bytes of a frame -/

/-- One bit of the check (R3): the bit is combined with the register's top bit, the register is shifted left, and
8005H is combined into it if the combined bit was 1. -/
def crcBit (r : BitVec 16) (b : Bool) : BitVec 16 :=
  if xor r.msb b then (r <<< 1) ^^^ 0x8005#16 else r <<< 1

/-- One byte of the check, most significant bit first (R3). -/
def crcByte (r : BitVec 16) (b : Byte) : BitVec 16 :=
  [7, 6, 5, 4, 3, 2, 1, 0].foldl (fun acc i => crcBit acc (b.getLsbD i)) r

/-- The check of a header and payload (R3): the register starts at FFFFH and is not inverted at the end. -/
def crc (bs : List Byte) : BitVec 16 := bs.foldl crcByte 0xFFFF#16

/-- The four header bytes of a frame (R2). -/
def headerBytes (kind tag : Byte) (len : Nat) : List Byte := [kind, tag] ++ le 2 len

/-- The check bytes of a frame, low byte first (R2, R3). -/
def checkBytes (kind tag : Byte) (payload : List Byte) : List Byte :=
  le 2 (crc (headerBytes kind tag payload.length ++ payload)).toNat

/-- A whole frame as the bytes sent (R2). -/
def frameBytes (kind tag : Byte) (payload : List Byte) : List Byte :=
  headerBytes kind tag payload.length ++ payload ++ checkBytes kind tag payload

/-- A frame of the outbound queue as the bytes the part shifts on MISO (R2, R11). -/
def Frame.bytes (f : Frame) : List Byte := frameBytes f.kind f.tag f.payload

/-! ## Characters of a console -/

/-- The bits per second of a rate code (R37). -/
def baudOf (rate : Nat) : Nat := [9600, 19200, 38400, 57600, 115200, 230400, 460800].getD rate 921600

/-- The bits of one character, start and stop bit included (R37, R59). -/
def Parity.charBits : Parity → Nat
  | .none => 10
  | _ => 11

/-- The parity bit of a byte under a setting: with EVEN the data bits and the parity bit hold an even number of ones,
with ODD an odd number (PRESUMED, log entry 44: the spec names the settings). -/
def parityBit (p : Parity) (b : Byte) : List Bool :=
  let ones := ((List.range 8).filter fun i => b.getLsbD i).length
  match p with
  | .none => []
  | .even => [ones % 2 == 1]
  | .odd => [ones % 2 == 0]

/-- A byte as one character, the line's levels bit by bit (R59): a low start bit, eight data bits least significant
first, a parity bit when parity is EVEN or ODD, and one high stop bit. -/
def charLevels (p : Parity) (b : Byte) : List Bool :=
  [false] ++ ((List.range 8).map fun i => b.getLsbD i) ++ parityBit p b ++ [true]

/-- The whole milliseconds in the time of one character (R59). -/
def charMillis (c : Settings) : Nat := c.parity.charBits * 1000 / baudOf c.rate

/-! ## Enumerated values (section 11.1) -/

/-- The reply status codes. -/
inductive Status where
  | ok | busy | full | badArg | badState | noSpace | unknownKind | badLength
  deriving DecidableEq, Repr

/-- The number of a reply status. -/
def Status.num : Status → Nat
  | .ok => 0 | .busy => 1 | .full => 2 | .badArg => 3 | .badState => 4 | .noSpace => 5 | .unknownKind => 6 | .badLength => 7

/-- The number of a parity setting. -/
def Parity.num : Parity → Nat
  | .none => 0 | .even => 1 | .odd => 2

/-- A parity field. -/
def parityOf (v : Nat) : Option Parity :=
  if v = 0 then some .none else if v = 1 then some .even else if v = 2 then some .odd else none

/-- The place of an output among the four. -/
def outIdx : Output → Fin 4
  | .pwrbtn => 0 | .rstbtn => 1 | .cut => 2 | .nmi => 3

/-- A line field: an output, an input, or none where it is not one of the six. -/
def lineOf (v : Nat) : Option (Output ⊕ Input) :=
  if v = 0 then some (.inl .pwrbtn) else if v = 1 then some (.inl .rstbtn) else if v = 2 then some (.inl .cut)
  else if v = 3 then some (.inl .nmi) else if v = 4 then some (.inr .pgood) else if v = 5 then some (.inr .auxin) else none

/-- The number of a pulse source; 0 is NONE. -/
def pulseSourceNum : Option Pulse → Nat
  | none => 0
  | some p => match p.source with
    | .host => 1
    | .plan => 2

/-- The number of a power view. -/
def View.num : View → Nat
  | .cutOff => 0 | .standby => 1 | .running => 2

/-- A power view operand. -/
def viewOf (v : Nat) : Option View :=
  if v = 0 then some .cutOff else if v = 1 then some .standby else if v = 2 then some .running else none

/-- The number of a pattern action. -/
def PatAction.num : PatAction → Nat
  | .none => 0 | .event => 1 | .startPlan _ => 2

/-- The number of an executor state other than IDLE, which is 0. -/
def ExecState.num : ExecState → Nat
  | .runningStep => 1 | .pulsing => 2 | .waitingLine => 3 | .waitingPower => 4 | .waitingMatch => 5 | .delaying => 6
  | .waitingSlot => 7 | .waitingQueue => 8

/-- The number of an origin. -/
def Origin.num : Origin → Nat
  | .host => 0 | .matched => 1

/-- The number of a plan result; FFH stands for NONE. -/
def PlanResult.num : PlanResult → Nat
  | .ok => 0 | .failed => 1 | .aborted => 2 | .preempted => 3 | .loopLimit => 4

/-- The number of a step kind. -/
def StepKind.num : StepKind → Nat
  | .setLine _ _ => 1 | .pulseLine _ _ => 2 | .waitLine _ _ => 3 | .waitPower _ => 4 | .waitMatch _ => 5 | .delay _ => 6
  | .takeSlot _ => 7 | .sendText _ => 8 | .sendBreak _ => 9 | .media _ _ => 10 | .notify _ => 11

/-- The number of a port state. -/
def PortState.num : PortState → Nat
  | .disabled => 0 | .disconnected => 1 | .connecting => 2 | .defaulted => 3 | .addressed => 4 | .configured => 5 | .suspended => 6

/-- The number of a context phase. -/
def Phase.num : Phase → Nat
  | .expectCommand => 0 | .dataIn => 1 | .dataOut => 2 | .awaitHost => 3 | .status => 4 | .haltThenStatus => 5 | .recovery => 6

/-- The number of a fetch slot's state. -/
def SlotUse.num : SlotUse → Nat
  | .free => 0 | .reserved _ => 1 | .offered _ _ => 2 | .sent _ _ => 3

/-- The number of a control stage; 0 is none. -/
def ControlStage.num : ControlStage → Nat
  | .data => 1 | .status => 2 | .stalled => 3

/-! ## Packets of the USB side -/

/-- The control requests that have a row of the table of their own (R137 to R141). -/
inductive ControlRequest where
  | getStatus | clearFeature | setFeature | setAddress | getDescriptor | getConfiguration | setConfiguration | getMaxLun | bulkReset
  deriving DecidableEq, Repr

/-- The control requests in ascending code. -/
def allRequests : List ControlRequest :=
  [.getStatus, .clearFeature, .setFeature, .setAddress, .getDescriptor, .getConfiguration, .setConfiguration, .getMaxLun, .bulkReset]

/-- The type of a control request: the two of R141 are class requests, the others standard ones. -/
def ControlRequest.type : ControlRequest → RequestType
  | .getMaxLun => .classRequest
  | .bulkReset => .classRequest
  | _ => .standard

/-- The code of a control request (PRESUMED, log entry 21: the spec names the requests and gives no code). -/
def ControlRequest.code : ControlRequest → Byte
  | .getStatus => 0x00 | .clearFeature => 0x01 | .setFeature => 0x03 | .setAddress => 0x05 | .getDescriptor => 0x06
  | .getConfiguration => 0x08 | .setConfiguration => 0x09 | .getMaxLun => 0xFE | .bulkReset => 0xFF

/-- The SETUP packet that makes a control request with given fields (section 7.9). -/
def ControlRequest.setup (r : ControlRequest) (u : SetupFields) : Setup :=
  { dirIn := u.dirIn, type := r.type, recipient := u.recipient, code := r.code, value := u.value, index := u.index, length := u.length }

/-- The control request a SETUP packet makes, none for a request that no rule serves (R135). -/
def requestOf (u : Setup) : Option ControlRequest := allRequests.find? fun r => decide (r.type = u.type ∧ r.code = u.code)

/-- The 31 bytes of a command wrapper (section 11.8) whose operation code is `op`. -/
def wrapperBytes (w : Wrapper) (op : Byte) : List Byte :=
  le 4 0x43425355 ++ le 4 w.tag.toNat ++ le 4 w.expected.toNat ++ [w.flags, w.lun, w.blockLen, op] ++ w.rest.toList

/-- Whether a packet is a valid wrapper (R150). -/
def validWrapper (d : List Byte) : Bool :=
  d.length == 31 && fieldAt d 0 4 == 0x43425355 && decide (u8 d 13 < 2) && decide (1 ≤ u8 d 14) && decide (u8 d 14 ≤ 16)

/-- The LUN a wrapper names, 0 where its LUN field is not 0 or 1 (R150). -/
def wrapperLun (d : List Byte) : Lun := if u8 d 13 = 1 then 1 else 0

/-- The command a valid wrapper becomes (R150). -/
def commandOf (d : List Byte) : Command :=
  { tag := w32 d 4, expected := fieldAt d 8 4, dirIn := (d.getD 12 0).msb, lun := wrapperLun d, block := bytesAt d 15 (u8 d 14) }

/-- The operation code of a command: the first byte of its block (R152). -/
def Command.op (c : Command) : Byte := c.block.headD 0

/-- The operation codes the part executes (R152). -/
def executedOps : List Byte := [0x00, 0x03, 0x12, 0x25, 0x28, 0x2A]

/-- The status wrapper (section 11.8). -/
def statusWrapper (tag : Word32) (residue status : Nat) : List Byte :=
  le 4 0x53425355 ++ le 4 tag.toNat ++ le 4 residue ++ [byteOf status]

/-- The 18 bytes of fixed-format sense (section 11.8). -/
def senseBytes (s : Option Sense) : List Byte :=
  let x := s.getD { key := 0, code := 0, qualifier := 0 }
  [0x70, 0, x.key, 0, 0, 0, 0, 10, 0, 0, 0, 0, x.code, x.qualifier, 0, 0, 0, 0]

end Sys2Proof.Machine
end

