-- ==== Sys2Proof/Machine/Ops.lean ====
section
/-! DEFINITION. Named operations over the state: the node columns, the clock, what the outside sees of the pins, and
the outbound queue with the admission of its frames (R9 to R13, R193). -/

namespace Sys2Proof.Machine

open Sys2Proof

/-! ## Reading and changing the parts of the state -/

/-- The column of a node. -/
def State.node (s : State) (n : Node) : NodeState := s.nodes[n]

/-- Change the column of one node. -/
def State.updNode (s : State) (n : Node) (f : NodeState → NodeState) : State :=
  { s with nodes := s.nodes.set n (f s.nodes[n]) }

/-- Change the link interface. -/
def State.updLink (s : State) (f : Link → Link) : State := { s with link := f s.link }

/-- Change the media cache. -/
def State.updCache (s : State) (f : Cache → Cache) : State := { s with cache := f s.cache }

/-- Change the page pool. -/
def State.updPool (s : State) (f : Pool → Pool) : State := { s with pool := f s.pool }

/-- Change a node's receiver. -/
def State.updRx (s : State) (n : Node) (f : Receiver → Receiver) : State := s.updNode n fun c => { c with rx := f c.rx }

/-- Change a node's history ring. -/
def State.updHist (s : State) (n : Node) (f : History → History) : State := s.updNode n fun c => { c with hist := f c.hist }

/-- Change a node's transmitter. -/
def State.updTx (s : State) (n : Node) (f : Transmitter → Transmitter) : State := s.updNode n fun c => { c with tx := f c.tx }

/-- Change a node's line unit. -/
def State.updLines (s : State) (n : Node) (f : LineUnit → LineUnit) : State := s.updNode n fun c => { c with lines := f c.lines }

/-- Change a node's executor. -/
def State.updExec (s : State) (n : Node) (f : Executor → Executor) : State := s.updNode n fun c => { c with exec := f c.exec }

/-- Change a node's USB port. -/
def State.updPort (s : State) (n : Node) (f : Port → Port) : State := s.updNode n fun c => { c with port := f c.port }

/-- Change a node's command context. -/
def State.updCtx (s : State) (n : Node) (f : Context → Context) : State := s.updNode n fun c => { c with ctx := f c.ctx }

/-- A drive slot. -/
def State.drive (s : State) (n : Node) (l : Lun) : Drive := (s.node n).drives[l]

/-- Change a drive slot. -/
def State.updDrive (s : State) (n : Node) (l : Lun) (f : Drive → Drive) : State :=
  s.updNode n fun c => { c with drives := c.drives.set l (f c.drives[l]) }

/-- Change a fetch slot. -/
def State.updSlot (s : State) (i : Fin 16) (f : FetchSlot → FetchSlot) : State :=
  s.updCache fun c => { c with slots := c.slots.set i (f c.slots[i]) }

/-- Change a write-table entry. -/
def State.updEntry (s : State) (i : Fin 32) (f : WriteEntry → WriteEntry) : State :=
  s.updCache fun c => { c with writes := c.writes.set i (f c.writes[i]) }

/-- A node's output line. -/
def State.output (s : State) (n : Node) (o : Output) : OutLine := (s.node n).lines.outputs[outIdx o]

/-- Change a node's output line. -/
def State.updOutput (s : State) (n : Node) (o : Output) (f : OutLine → OutLine) : State :=
  s.updLines n fun u => { u with outputs := u.outputs.set (outIdx o) (f u.outputs[outIdx o]) }

/-- A node's input line. -/
def LineUnit.input (u : LineUnit) : Input → InLine
  | .pgood => u.pgood
  | .auxin => u.auxin

/-- Change a node's input line. -/
def State.updInput (s : State) (n : Node) (i : Input) (f : InLine → InLine) : State :=
  s.updLines n fun u => match i with
    | .pgood => { u with pgood := f u.pgood }
    | .auxin => { u with auxin := f u.auxin }

/-- Whether an input's logical level is ACTIVE (R80). -/
def InLine.active (l : InLine) : Bool := l.accepted == l.activeHigh

/-- The nodes in ascending order. -/
def allNodes : List Node := [0, 1, 2, 3]

/-- The fetch slots in ascending order. -/
def allSlots : List (Fin 16) := List.finRange 16

/-- The write-table entries in ascending order. -/
def allEntries : List (Fin 32) := List.finRange 32

/-- The outputs in the order PWRBTN, RSTBTN, CUT, NMI. -/
def allOutputs : List Output := [.pwrbtn, .rstbtn, .cut, .nmi]

/-! ## The clock -/

/-- The milliseconds that have passed since a timebase value, modulo 2^32 (R14). -/
def State.elapsed (s : State) (start : Word32) : Nat := (s.timebase - start).toNat

/-- The time left of a duration that began at a timebase value. -/
def State.timeLeft (s : State) (start : Word32) (ms : Nat) : Nat := ms - s.elapsed start

/-- Forget that a timer expired at the present timebase value. -/
def State.clearDue (s : State) (t : Timer) : State := { s with due := s.due.filter (· ≠ t) }

/-! ## The pins -/

/-- How the part drives a pin. -/
inductive PinDrive where
  | released | low | high
  deriving DecidableEq, Repr

/-- How an output's pin is driven (R78): the active level while ACTIVE; while IDLE the opposite level for PUSH_PULL
and nothing for OPEN_DRAIN. -/
def OutLine.pin (o : OutLine) : PinDrive :=
  if o.active then (if o.activeHigh then .high else .low)
  else if o.openDrain then .released
  else if o.activeHigh then .low else .high

/-- A node's output pin: released while PORST is asserted (R78). -/
def State.outputPin (s : State) (n : Node) (o : Output) : PinDrive :=
  if s.porst then .released else (s.output n o).pin

/-- ATTN is asserted while the outbound queue holds a frame, and released while PORST is asserted (R12, R21). -/
def State.attn (s : State) : Bool := !s.porst && !s.link.queue.isEmpty

/-- How the part drives MISO: not at all, with 00H byte after byte, or with a frame from its first byte and 00H behind it
(R1, R11). -/
inductive MisoDrive where
  | released | zeros
  | frame (f : Frame)
  deriving DecidableEq, Repr

/-- The byte shifted at a place of the transaction under such a drive, none while MISO is released (R1, R11). -/
def MisoDrive.byteAt : MisoDrive → Nat → Option Byte
  | .released, _ => none
  | .zeros, _ => some 0
  | .frame f, k => some (f.bytes.getD k 0)

/-- How the part drives MISO now (R1, R11, R21): released while CSN is high and while PORST is asserted; in a transaction,
the head frame if one stood there when CSN fell and has not left, and otherwise 00H. In a transaction that is ignored,
because PORST was asserted during it, MISO stays released to its end, after PORST is released too (DESIGN CHOICE, log
entry 50: R21 says only that both directions are ignored). -/
def State.miso (s : State) : MisoDrive :=
  if s.porst = true ∨ s.link.txn ≠ .active then .released
  else if s.link.shifting then
    match s.link.queue.head? with
    | none => .zeros
    | some f => .frame f
  else .zeros

/-- The frame the part shifts on MISO, if it shifts one (R11). -/
def State.misoFrame (s : State) : Option Frame :=
  match s.miso with
  | .frame f => some f
  | _ => none

/-- Whether a node's console line to its serial input is low for a sent break (R60), under PORST too (DESIGN CHOICE, log
entry 53). -/
def State.breakOnLine (s : State) (n : Node) : Bool :=
  match (s.node n).tx.inProgress with
  | some ⟨.brk _, _, _, _⟩ => true
  | _ => false

/-- The levels a node's console line to its serial input takes, in order, while the item in progress is sent (R59, R60): a
byte's character at the parity with which it began, each level for one bit time at its rate; low for a break; high
while nothing is sent. PORST does not act on it: an item in progress keeps its levels until POWER_ON_RESET (DESIGN
CHOICE, log entry 53). -/
def State.lineLevels (s : State) (n : Node) : List Bool :=
  match (s.node n).tx.inProgress with
  | none => [true]
  | some p =>
    match p.item with
    | .byte b _ => charLevels p.parity b
    | .brk _ => [false]

/-- The bits per second at which a node's console line is driven (R37, R59): the rate of the item in progress, otherwise
the rate in force; under PORST too (DESIGN CHOICE, log entry 53). -/
def State.lineRate (s : State) (n : Node) : Nat :=
  baudOf (match (s.node n).tx.inProgress with
    | none => (s.node n).rx.settings.rate
    | some p => p.rate)

/-- Whether any output of any node is at its active level (R20). -/
def State.anyOutputActive (s : State) : Bool :=
  allNodes.any fun n => allOutputs.any fun o => (s.output n o).active

/-! ## The outbound queue -/

/-- The free entries of the outbound queue (R9). -/
def State.freeEntries (s : State) : Nat := Config.queueEntries - s.link.queue.length

/-- Place a frame at the end of the outbound queue. -/
def State.enqueue (s : State) (f : Frame) : State := s.updLink fun l => { l with queue := l.queue ++ [f] }

/-- Place a notice at the end of the outbound queue: it takes the notice count as its tag, and the count increases
by one, wrapping from 255 to 0 (R13). -/
def State.enqueueNotice (s : State) (kind : Byte) (payload : List Byte) : State :=
  s.updLink fun l =>
    { l with queue := l.queue ++ [{ kind := kind, tag := l.noticeCount, payload := payload }], noticeCount := l.noticeCount + 1 }

/-- Whether a notice that needs `room` free entries is admitted at this moment (R9, R16, R17). -/
def State.admits (s : State) (room : Nat) : Bool :=
  decide (s.link.online = .online) && !s.link.held && decide (room ≤ s.freeEntries)

/-- The pending mask of a list of source records as a number: bit i for the i-th (R189). -/
def maskOf : List EventRec → Nat
  | [] => 0
  | r :: rs => (if 0 < r.count then 1 else 0) + 2 * maskOf rs

/-- The pending mask (R189). -/
def State.pendingMask (s : State) : Nat := maskOf s.events.recs.toList

/-- Offer an EVENT_SUMMARY (R193): it needs the flag set, the link ONLINE, no EVENT_SUMMARY in the queue and two free
entries. It carries the pending mask, and the flag is cleared. -/
def offerSummary (s : State) : State :=
  if s.events.owed && !(s.link.queue.any fun f => f.kind == 0xE5) && s.admits Config.summaryRoom then
    let t := s.enqueueNotice 0xE5 (le 8 s.pendingMask)
    { t with events := { t.events with owed := false } }
  else s

/-! ## Media notices -/

/-- The length of a drive's data region in bytes (R144). -/
def Image.region (i : Image) : Nat := i.size / i.block * i.block

/-- The capacity C of a drive in blocks (R143, R144). -/
def Drive.capacity (d : Drive) : Nat :=
  match d.image with
  | none => 0
  | some i => i.size / i.block

/-- The line count of a drive (R171). -/
def Drive.lineCount (d : Drive) : Nat :=
  match d.image with
  | none => 0
  | some i => (i.region + Config.lineBytes - 1) / Config.lineBytes

/-- The length of line i of a drive (R171). -/
def Drive.lineLength (d : Drive) (i : Nat) : Nat :=
  match d.image with
  | none => 0
  | some im => min Config.lineBytes (im.region - Config.lineBytes * i)

/-- The chunk count of a line of that length (R171). -/
def chunkCount (len : Nat) : Nat := (len + Config.chunkBytes - 1) / Config.chunkBytes

/-- The length of chunk k of a line of that length (R171). -/
def chunkLength (len k : Nat) : Nat := min Config.chunkBytes (len - Config.chunkBytes * k)

/-- Whether a line belongs to an occupied fetch slot (R175). -/
def Line.inSlot (l : Line) (i : Fin 16) : Bool :=
  match l.state with
  | .fetching j => j == i
  | .doomed j => j == i
  | .valid => false

/-- The line of an occupied fetch slot (R175). -/
def State.slotLine (s : State) (i : Fin 16) : Option Line := s.cache.lines.find? (·.inSlot i)

/-- The payload of a FETCH_REQ (R177, section 11.4). -/
def fetchReq (s : State) (i : Fin 16) (l : Line) : List Byte :=
  let d := s.drive l.node l.lun
  [byteOf i, s.cache.slots[i].ticket, byteOf l.node, byteOf l.lun, l.generation]
    ++ le 4 ((d.image.map Image.handle).getD 0).toNat ++ le 6 (Config.lineBytes * l.index) ++ le 2 (d.lineLength l.index)

/-- The payload of a WRITE_THRU (R184, section 11.4). -/
def writeThru (i : Fin 32) (ticket : Byte) (w : WriteUse) : List Byte :=
  [byteOf i, ticket, byteOf w.node, byteOf w.lun] ++ le 4 w.handle.toNat ++ le 6 w.offset ++ w.data

/-- The payload of an FWD_CMD (R165, section 11.4): the block stands in 16 bytes, filled with zero bytes. -/
def fwdCmd (n : Node) (ticket : Byte) (c : Command) (buffer : List Byte) : List Byte :=
  [byteOf n, byteOf c.lun, ticket, byteOf c.block.length]
    ++ (c.block ++ List.replicate 16 0).take 16 ++ le 4 c.expected ++ [byteOfBool c.dirIn]
    ++ le 2 buffer.length ++ buffer

/-- Admit a media notice: it is composed at this moment and its owner becomes SENT (R165, R177, R184). -/
def sendMedia (o : MediaOwner) (s : State) : State :=
  match o with
  | .fetch i =>
    match s.slotLine i, s.cache.slots[i].use with
    | some l, .offered start ms =>
      (s.enqueueNotice 0xE2 (fetchReq s i l)).updSlot i fun x => { x with use := .sent start ms }
    | _, _ => s
  | .write i =>
    match s.cache.writes[i].use with
    | some w =>
      (s.enqueueNotice 0xE3 (writeThru i s.cache.writes[i].ticket w)).updEntry i fun x => { x with use := some { w with sent := true } }
    | none => s
  | .forward n =>
    match (s.node n).ctx.command with
    | some c =>
      (s.enqueueNotice 0xE4 (fwdCmd n (s.node n).ctx.fwdTicket c (s.node n).ctx.fwdBuffer)).updCtx n fun x => { x with fwdState := .sent }
    | none => s

/-- The first offer of a media notice (R9, R10): admitted if no other waits and four entries are free; otherwise it
takes its place behind those that wait. -/
def offerMedia (o : MediaOwner) (s : State) : State :=
  if s.link.waiting.isEmpty && s.admits Config.mediaRoom then sendMedia o s
  else s.updLink fun l => { l with waiting := l.waiting ++ [o] }

/-- Offer the waiting media notices again, in the order in which each was first refused (R10). -/
def offerWaiting : List MediaOwner → State → State
  | [], s => s
  | o :: os, s =>
    if s.admits Config.mediaRoom then offerWaiting os (sendMedia o (s.updLink fun l => { l with waiting := os })) else s

/-- A media notice leaves the waiting order because its owner withdraws it (R10). -/
def withdraw (o : MediaOwner) (s : State) : State :=
  s.updLink fun l => { l with waiting := l.waiting.filter (· ≠ o) }

/-! ## Replies -/

/-- What a request answers: a status, the ADJUSTED flag and the fields of an OK reply (R8). -/
structure Reply where
  status : Status
  adjusted : Bool
  fields : List Byte
  deriving DecidableEq, Repr

/-- A refusal: a status other than OK and no field (R8, R197). -/
def Reply.refuse (st : Status) : Reply := { status := st, adjusted := false, fields := [] }

/-- An OK reply. -/
def Reply.okay (adjusted : Bool) (fields : List Byte) : Reply := { status := .ok, adjusted := adjusted, fields := fields }

/-- Queue the reply to a request: the request's kind plus 80H, its tag, the status and the flags (R8, section 11.2). -/
def State.enqueueReply (s : State) (kind tag : Byte) (r : Reply) : State :=
  s.enqueue { kind := kind + 0x80, tag := tag, payload := [byteOf r.status.num, byteOfBool r.adjusted] ++ r.fields }

end Sys2Proof.Machine
end

