-- ==== Sys2Proof/Machine/Flags.lean ====
section
/-! DEFINITION. Events and flags: the sources of the event table and their details (R189, R190, section 11.5),
latching (R191), the link error counts (R5, R6), and the flags of a text record. -/

namespace Sys2Proof.Machine

open Sys2Proof

/-! ## The sources -/

/-- The twelve kinds of node source (R190). -/
inductive NodeKind where
  | conMatch | conLineError | conBreakIn | streamGap | powerChange | powerFault | auxChange | planEnd | planNote
  | matchSuppressed | portChange | mediaError
  deriving DecidableEq, Repr

/-- The number k of a node source (R190). -/
def NodeKind.idx : NodeKind → Fin 12
  | .conMatch => 0 | .conLineError => 1 | .conBreakIn => 2 | .streamGap => 3 | .powerChange => 4 | .powerFault => 5
  | .auxChange => 6 | .planEnd => 7 | .planNote => 8 | .matchSuppressed => 9 | .portChange => 10 | .mediaError => 11

/-- An event source: one of twelve of a node, or one of the part's four (R189, R190). -/
inductive Source where
  | node (n : Node) (k : NodeKind)
  | linkError | linkResumed | staleAnswer | poolPressure
  deriving DecidableEq, Repr

/-- The source id (R189): 12n + k for kind k of node n, and 48 to 51 for the part's own. -/
def Source.id : Source → Fin 52
  | .node n k => ⟨12 * n + k.idx, by omega⟩
  | .linkError => 48
  | .linkResumed => 49
  | .staleAnswer => 50
  | .poolPressure => 51

/-! ## Latching -/

/-- A source record after a latch (R191). -/
def EventRec.latched (r : EventRec) (now : Word32) (detail : Nat) : EventRec :=
  { r with firstTime := if r.count = 0 then some now else r.firstTime, count := min 255 (r.count + 1), lastDetail := detail }

/-- Latch a source with a detail (R191): nothing at level 0; otherwise the record counts, and a summary is owed and
offered if the level is at or above the attention threshold. -/
def latch (src : Source) (detail : Nat) (s : State) : State :=
  let r := s.events.recs[src.id]
  if r.level = 0 then s
  else
    let recs := s.events.recs.set src.id (r.latched s.timebase detail)
    if s.link.threshold ≤ r.level then offerSummary { s with events := { recs := recs, owed := true } }
    else { s with events := { s.events with recs := recs } }

/-- The causes of LINK_ERROR (R190). -/
inductive LinkCause where
  | cutFrame | badLength | badCheck | overrun | badKind | answerLength
  deriving DecidableEq, Repr

/-- The number of a LINK_ERROR cause (R190). -/
def LinkCause.num : LinkCause → Nat
  | .cutFrame => 1 | .badLength => 2 | .badCheck => 3 | .overrun => 4 | .badKind => 5 | .answerLength => 6

/-- A count of the link error record one higher, staying at 65535 (R6). -/
def bump (c : Nat) : Nat := min 65535 (c + 1)

/-- The link error record with the count of a cause increased (R6). -/
def LinkErrors.count (e : LinkErrors) : LinkCause → LinkErrors
  | .cutFrame => { e with cutFrame := bump e.cutFrame }
  | .badLength => { e with badLength := bump e.badLength }
  | .badCheck => { e with badCheck := bump e.badCheck }
  | .overrun => { e with overrun := bump e.overrun }
  | .badKind => { e with badKind := bump e.badKind }
  | .answerLength => { e with answerLength := bump e.answerLength }

/-- A frame is discarded for a cause: its count increases and LINK_ERROR is latched (R5, R7). -/
def discardFrame (c : LinkCause) (s : State) : State :=
  latch .linkError c.num (s.updLink fun l => { l with errors := l.errors.count c })

/-- The causes of MEDIA_ERROR (R190). -/
inductive MediaCause where
  | wrapperInvalid | phase | fwdTimeout | fetchReadError | fetchGone | badChunk | fetchTimeout | fetchLost
  | writeFailed | writeTimeout | writeLost
  deriving DecidableEq, Repr

/-- The number of a MEDIA_ERROR cause (R190). -/
def MediaCause.num : MediaCause → Nat
  | .wrapperInvalid => 1 | .phase => 2 | .fwdTimeout => 3 | .fetchReadError => 4 | .fetchGone => 5 | .badChunk => 6
  | .fetchTimeout => 7 | .fetchLost => 8 | .writeFailed => 9 | .writeTimeout => 10 | .writeLost => 11

/-- Latch MEDIA_ERROR of a node: the cause in the low byte and the LUN in the high byte (section 11.5). -/
def mediaError (n : Node) (c : MediaCause) (l : Lun) (s : State) : State :=
  latch (.node n .mediaError) (c.num + 256 * l) s

/-- The causes of PORT_CHANGE (R130). -/
inductive PortCause where
  | connected | disconnected | busReset | suspended | resumed | configured | unconfigured
  deriving DecidableEq, Repr

/-- The number of a PORT_CHANGE cause (section 11.1). -/
def PortCause.num : PortCause → Nat
  | .connected => 1 | .disconnected => 2 | .busReset => 3 | .suspended => 4 | .resumed => 5 | .configured => 6 | .unconfigured => 7

/-- Latch PORT_CHANGE of a node: the cause in the low byte, the port's speed after it in the high byte (R130,
section 11.5). -/
def portChange (n : Node) (c : PortCause) (s : State) : State :=
  latch (.node n .portChange) (c.num + 256 * (if (s.node n).port.high then 1 else 0)) s

/-- Latch POOL_PRESSURE with detail TRIM (R30): the high byte is 0. -/
def pressureTrim (s : State) : State := latch .poolPressure 1 s

/-- Latch POOL_PRESSURE with detail WAIT and the node whose port asked (R31, section 11.5). -/
def pressureWait (n : Node) (s : State) : State := latch .poolPressure (2 + 256 * n) s

/-- Latch POOL_PRESSURE with detail STAGE and the node whose port asked (R33, section 11.5). -/
def pressureStage (n : Node) (s : State) : State := latch .poolPressure (3 + 256 * n) s

/-- A stale answer: STALE_ANSWER is latched with the answer's kind (R166, R178, R185). -/
def staleAnswer (kind : Byte) (s : State) : State := latch .staleAnswer kind.toNat s

/-! ## The flags of a text record -/

/-- The flags byte of a record (section 11.5). -/
def RecFlags.num (f : RecFlags) : Nat :=
  (if f.framing then 1 else 0) + (if f.parity then 2 else 0) + (if f.brk then 4 else 0)
    + (if f.gap then 8 else 0) + (if f.full then 16 else 0) + (if f.line then 32 else 0)

/-- The flags of either set. -/
def RecFlags.or (a b : RecFlags) : RecFlags :=
  { framing := a.framing || b.framing, parity := a.parity || b.parity, brk := a.brk || b.brk,
    gap := a.gap || b.gap, full := a.full || b.full, line := a.line || b.line }

end Sys2Proof.Machine
end

