-- ==== Sys2Proof/Machine/History.lean ====
section
/-! DEFINITION. History rings and streaming: the ring's pages (R23 to R25), closing records and appending markers
(R45, R46), eviction (R50), reading (R49, R51, R52) and the stream arbiter (R54, R55). -/

namespace Sys2Proof.Machine

open Sys2Proof

/-! ## Records as bytes -/

/-- A record's stored size (R48): 12 header bytes and its payload, rounded up to a multiple of 4. -/
def Rec.size (r : Rec) : Nat :=
  match r.body with
  | .text _ p => (12 + p.length + 3) / 4 * 4
  | .marker _ _ => 16

/-- The bytes of a record: header, payload and pad bytes (section 11.5). -/
def Rec.bytes (r : Rec) : List Byte :=
  let raw := le 4 r.seq.toNat ++ le 4 r.timestamp.toNat ++
    match r.body with
    | .text f p => [0, byteOf f.num] ++ le 2 p.length ++ p
    | .marker code detail => [1, 0] ++ le 2 3 ++ [byteOf code] ++ le 2 detail
  raw ++ List.replicate (r.size - raw.length) 0

/-- The bytes of the current page that records use (R24, R48). -/
def pageUsed (p : List Rec) : Nat := (p.map Rec.size).sum

/-- The ring's holding: its filled pages, its current page and its spare pages (R23). -/
def History.holding (h : History) : Nat := h.filled.length + 1 + h.spare

/-- The ring's surplus: its holding less its reserve (R23). -/
def History.surplus (h : History) : Nat := h.holding - h.reserve

/-- The records in history, oldest first. -/
def History.records (h : History) : List Rec := h.filled.flatten ++ h.current

/-- The number of records in history by the sequence numbers (R49). -/
def History.size (h : History) : Nat := (h.next - h.oldest).toNat

/-! ## Sequence numbers -/

/-- How a sequence number stands to a history (R49). -/
inductive SeqClass where
  | inHistory | atOrAfter | before
  deriving DecidableEq, Repr

/-- Class a sequence number (R49). -/
def History.classify (h : History) (q : Word32) : SeqClass :=
  if (q - h.oldest).toNat < h.size then .inHistory
  else if (q - h.next).toNat < 2 ^ 31 then .atOrAfter
  else .before

/-- The records of a history from a sequence number on. -/
def History.from (h : History) (q : Word32) : List Rec := h.records.drop (q - h.oldest).toNat

/-- Records in order for as long as their stored sizes together come to no more than `room` (R52). -/
def takeRecords : Nat → List Rec → List Rec
  | _, [] => []
  | room, r :: rs => if r.size ≤ room then r :: takeRecords (room - r.size) rs else []

/-! ## Streaming -/

/-- Whether a node wants to send (R54). -/
def State.wantsToSend (s : State) (n : Node) : Bool :=
  (s.node n).hist.streaming && decide (s.link.online = .online) && !decide ((s.node n).hist.cursor = (s.node n).hist.next)

/-- The nodes in the order following the one served last, ending with that node itself (R55). -/
def arbiterOrder (last : Node) : List Node := [last + 1, last + 2, last + 3, last]

/-- The payload of a CON_DATA notice (R54, section 11.4). -/
def conData (n : Node) (first : Word32) (rs : List Rec) : List Byte :=
  [byteOf n] ++ le 4 first.toNat ++ [byteOf rs.length] ++ (rs.map Rec.bytes).flatten

/-- One offer of the stream arbiter (R55): a CON_DATA notice for the first node in turn that wants to send, admitted
if 12 entries are free; the cursor then moves past the records carried (R54). -/
def streamOffer (s : State) : State :=
  match (arbiterOrder s.lastServed).find? s.wantsToSend with
  | none => s
  | some n =>
    if s.admits Config.streamRoom then
      let h := (s.node n).hist
      let rs := takeRecords 512 (h.from h.cursor)
      let t := (s.enqueueNotice 0xE1 (conData n h.cursor rs)).updHist n fun h => { h with cursor := h.cursor + BitVec.ofNat 32 rs.length }
      { t with lastServed := n }
    else s

/-! ## Pages given up and obtained -/

/-- The records of a page are evicted (R50): oldest_seq moves past the last of them, a cursor left behind moves to it,
and STREAM_GAP is latched if streaming is ON. -/
def evictRecords (n : Node) (page : List Rec) (s : State) : State :=
  match page.getLast? with
  | none => s
  | some r =>
    let h := (s.node n).hist
    let newOldest := r.seq + 1
    if (h.cursor - h.oldest).toNat < (newOldest - h.oldest).toNat then
      let t := s.updHist n fun h => { h with oldest := newOldest, cursor := newOldest }
      if h.streaming then latch (.node n .streamGap) (min 65535 (newOldest - h.cursor).toNat) t else t
    else s.updHist n fun h => { h with oldest := newOldest }

/-- The ring gives up a page for trimming or for a lowered maximum (R25): a spare page if it has one, otherwise its
oldest filled page, whose records are evicted. -/
def giveUpPage (n : Node) (s : State) : State :=
  let h := (s.node n).hist
  if 0 < h.spare then s.updHist n fun h => { h with spare := h.spare - 1 }
  else match h.filled with
    | [] => s
    | p :: ps => evictRecords n p (s.updHist n fun h => { h with filled := ps })

/-- The ring obtains a new current page (R24): a spare page; or a free page while its holding is below its maximum;
or its own oldest filled page, recycled. The page it leaves becomes the newest filled page. -/
def obtainPage (n : Node) (s : State) : State :=
  let h := (s.node n).hist
  if 0 < h.spare then
    s.updHist n fun h => { h with filled := h.filled ++ [h.current], current := [], spare := h.spare - 1 }
  else if h.holding < h.maximum ∧ 0 < s.pool.free then
    (s.updHist n fun h => { h with filled := h.filled ++ [h.current], current := [] }).updPool fun p => { p with free := p.free - 1 }
  else match h.filled ++ [h.current] with
    | [] => s
    | p :: ps => evictRecords n p (s.updHist n fun h => { h with filled := ps, current := [] })

/-! ## Records and markers -/

/-- A record closes or a marker is created (R45): it takes next_seq, it is written at the end of the current page,
or of a new one where the rest of the page is too small (R24, R48), and the stream arbiter makes an offer (R55). -/
def appendRec (n : Node) (timestamp : Word32) (body : RecBody) (s : State) : State :=
  let r : Rec := { seq := (s.node n).hist.next, timestamp := timestamp, body := body }
  let s1 := s.updHist n fun h => { h with next := h.next + 1 }
  let s2 := if pageUsed (s1.node n).hist.current + r.size ≤ Config.pageBytes then s1 else obtainPage n s1
  streamOffer (s2.updHist n fun h => { h with current := h.current ++ [r] })

/-- The open record, if there is one, closes with the given flags added (R44, R45). -/
def closeOpen (n : Node) (flags : RecFlags) (s : State) : State :=
  match (s.node n).rx.opened with
  | none => s
  | some o => appendRec n o.timestamp (.text (o.flags.or flags) o.payload) (s.updRx n fun r => { r with opened := none })

/-- Append a marker (R46): the open record closes first, without a flag. -/
def appendMarker (n : Node) (code detail : Nat) (s : State) : State :=
  let s1 := closeOpen n RecFlags.none s
  appendRec n s1.timebase (.marker code detail) s1

end Sys2Proof.Machine
end

