-- ==== Sys2Proof/Machine/Status.lean ====
section
/-! DEFINITION. The end of a command: residue and status wrapper with its effect on the drive record (R162, R164),
and the closing of a data phase (R153, R158, R159). -/

namespace Sys2Proof.Machine

open Sys2Proof

/-- The bulk maximum packet size in force (R128). -/
def Port.maxPacket (p : Port) : Nat := if p.high then 512 else 64

/-- The bulk maximum packet size of a node's port. -/
def State.maxPacket (s : State) (n : Node) : Nat := (s.node n).port.maxPacket

/-- The sense values the part produces (R164). -/
def Sense.of (key code qualifier : Nat) : Sense := { key := byteOf key, code := byteOf code, qualifier := byteOf qualifier }

/-- 02/3A/00, medium not present. -/
def senseNoMedium : Sense := Sense.of 0x02 0x3A 0
/-- 06/28/00, medium changed. -/
def senseChanged : Sense := Sense.of 0x06 0x28 0
/-- 05/21/00, LBA out of range. -/
def senseRange : Sense := Sense.of 0x05 0x21 0
/-- 05/20/00, invalid command. -/
def senseInvalid : Sense := Sense.of 0x05 0x20 0
/-- 07/27/00, write protected. -/
def senseProtected : Sense := Sense.of 0x07 0x27 0
/-- 03/11/00, read error. -/
def senseRead : Sense := Sense.of 0x03 0x11 0
/-- 03/0C/00, write error. -/
def senseWrite : Sense := Sense.of 0x03 0x0C 0
/-- 02/04/00, not ready. -/
def senseNotReady : Sense := Sense.of 0x02 0x04 0
/-- 0B/4B/00, data phase error. -/
def sensePhase : Sense := Sense.of 0x0B 0x4B 0

/-- The expected length of the context's command, 0 where it holds none. -/
def Context.expected (c : Context) : Nat :=
  match c.command with
  | none => 0
  | some k => k.expected

/-- The status number of a result (section 11.8). -/
def CmdResult.num : CmdResult → Nat
  | .passed => 0 | .failed _ => 1 | .phaseError => 2

/-- A drive record after a command's status is composed (R162): a FAILED result sets the pending sense, a PASSED one
makes it none except for REQUEST_SENSE, and a READ(10) adds the whole blocks it moved to blocks read. One refused on an
EMPTY slot has no block size: it is held as 0 and adds no block, whatever it discarded (DESIGN CHOICE, log entry 48). -/
def Drive.afterStatus (d : Drive) (op : Byte) (blockSize moved : Nat) (r : CmdResult) : Drive :=
  { d with
    sense := match r with
      | .failed x => some x
      | .passed => if op = 0x03 then d.sense else none
      | .phaseError => d.sense,
    blocksRead := if op = 0x28 then min 65535 (d.blocksRead + moved / blockSize) else d.blocksRead }

/-- The context enters STATUS (R162): the status wrapper is composed with residue E less moved, and the command's
effect is applied to the drive record. -/
def enterStatus (n : Node) (s : State) : State :=
  let x := (s.node n).ctx
  match x.command with
  | none => s
  | some c =>
    (s.updDrive n c.lun fun d => d.afterStatus c.op x.blockSize x.moved x.result).updCtx n fun x =>
      { x with phase := .status, mode := .none, statusBytes := statusWrapper c.tag (c.expected - x.moved) x.result.num }

/-- A READ(10) that has failed, with nothing pending at the port (R159): one zero-length packet closes the data phase
if moved is less than E and a multiple of the packet size; otherwise the data phase ends at once. -/
def closeFailed (n : Node) (s : State) : State :=
  let x := (s.node n).ctx
  if x.moved < x.expected ∧ x.moved % s.maxPacket n = 0 then s.updCtx n fun x => { x with mode := .zlp }
  else enterStatus n s

/-- The closing of the data phase of a command decided at its start (R153): STATUS at once for E of 0, one zero-length
packet for IN, the taking and discarding of E bytes for OUT. -/
def closeAtStart (n : Node) (c : Command) (s : State) : State :=
  if c.expected = 0 then enterStatus n s
  else if c.dirIn then s.updCtx n fun x => { x with phase := .dataIn, mode := .zlp }
  else s.updCtx n fun x => { x with phase := .dataOut, mode := .discard }

/-- A command is refused at its start with a sense (R153). -/
def refuseAtStart (n : Node) (c : Command) (x : Sense) (s : State) : State :=
  closeAtStart n c (s.updCtx n fun k => { k with result := .failed x })

/-- A running READ(10) in DATA_IN fails with a sense (R159). A failure after the first changes nothing; a packet
pending at the port is sent on until it is delivered. -/
def readFails (n : Node) (sense : Sense) (s : State) : State :=
  let x := (s.node n).ctx
  if x.phase = .dataIn ∧ x.running = true ∧ x.result = .passed then
    let t := s.updCtx n fun x => { x with result := .failed sense }
    if x.mode = .read ∧ (s.node n).port.pendingIn = none then closeFailed n t else t
  else s

end Sys2Proof.Machine
end

