-- ==== Sys2Proof/Machine/Cache.lean ====
section
/-! DEFINITION. Page allocation and the media cache: demand and prefetch allocation, trimming and waiting
allocations (R29 to R32), lookups, misses and the fetch table (R172 to R179), generations (R180), prefetch (R182),
staging pages and the write table (R33, R183 to R185). Where one event frees several things, all of them change
first and the occasions they make follow in the order of the rule's text (log entry 9). -/

namespace Sys2Proof.Machine

open Sys2Proof

/-! ## Pages for a cache line -/

/-- Whether a line is VALID and not pinned, and so may be evicted (R29, R173). -/
def Line.evictable (l : Line) : Bool := decide (l.state = .valid) && l.pins == 0

/-- Evict the least recently used unpinned VALID line, if there is one; its pages are the caller's (R29). -/
def evictLine (s : State) : Option State :=
  if s.cache.lines.any Line.evictable then some (s.updCache fun c => { c with lines := c.lines.eraseP Line.evictable }) else none

/-- The surplus of all four rings (R29). -/
def State.totalSurplus (s : State) : Nat := (allNodes.map fun n => (s.node n).hist.surplus).sum

/-- The node whose ring has the greatest surplus, the lowest-numbered of equals (R30). -/
def State.richest (s : State) : Node :=
  [1, 2, 3].foldl (fun best n => if (s.node best).hist.surplus < (s.node n).hist.surplus then n else best) (0 : Node)

/-- Trimming takes pages from the rings one at a time, each from the ring whose surplus is then greatest (R30). -/
def trimPages : Nat → State → State
  | 0, s => s
  | k + 1, s => trimPages k (giveUpPage s.richest s)

/-- The line of an occupied fetch slot is freed: its eight pages join the free list (R175, R178, R179). The occasion this
makes for R31 is the caller's. -/
def freeSlotLine (i : Fin 16) (s : State) : State :=
  (s.updCache fun c => { c with lines := c.lines.eraseP fun x => x.inSlot i }).updPool fun p => { p with free := p.free + Config.linePages }

/-- What a demand allocation comes to: the pages are had in the new state, it must wait, or it fails at once. -/
inductive Alloc where
  | got (s : State)
  | waits
  | fails

/-- A demand allocation of eight pages (R29): free pages, an evicted line, trimming, or waiting. With a line limit of
0 it does not wait (R31). -/
def demandAlloc (s : State) : Alloc :=
  if s.cache.lines.length < s.cache.limit ∧ Config.linePages ≤ s.pool.free then
    .got (s.updPool fun p => { p with free := p.free - Config.linePages })
  else match evictLine s with
    | some t => .got t
    | none =>
      if s.cache.lines.length < s.cache.limit ∧ Config.linePages ≤ s.pool.free + s.totalSurplus then
        .got (pressureTrim (trimPages (Config.linePages - s.pool.free) (s.updPool fun p => { p with free := 0 })))
      else if s.cache.limit = 0 then .fails else .waits

/-- A prefetch allocation: cases 1 and 2 of R29 alone (R32). -/
def prefetchAlloc (s : State) : Option State :=
  if s.cache.lines.length < s.cache.limit ∧ Config.linePages ≤ s.pool.free then
    some (s.updPool fun p => { p with free := p.free - Config.linePages })
  else evictLine s

/-! ## Lines and slots -/

/-- Whether a line is the one a lookup asks for: its drive, generation and index, in FETCHING or VALID (R172). -/
def Line.isFor (l : Line) (n : Node) (u : Lun) (generation : Byte) (index : Nat) : Bool :=
  l.node == n && l.lun == u && l.generation == generation && l.index == index &&
    match l.state with
    | .doomed _ => false
    | _ => true

/-- A lookup (R172). -/
def State.findLine (s : State) (n : Node) (u : Lun) (generation : Byte) (index : Nat) : Option Line :=
  s.cache.lines.find? fun l => l.isFor n u generation index

/-- The lowest-numbered FREE slot (R175). -/
def State.lowestFreeSlot (s : State) : Option (Fin 16) := allSlots.find? fun i => decide (s.cache.slots[i].use = .free)

/-- The number of FREE slots (R175). -/
def State.freeSlots (s : State) : Nat := (allSlots.filter fun i => decide (s.cache.slots[i].use = .free)).length

/-- Set what a fetch slot is used for. -/
def State.setSlotUse (s : State) (i : Fin 16) (u : SlotUse) : State := s.updSlot i fun x => { x with use := u }

/-- A line is created FETCHING, most recently used; its slot becomes OFFERED with its next ticket, and its FETCH_REQ is
offered (R176 step 4, R177, R182 step 5). -/
def createLine (n : Node) (u : Lun) (index pins : Nat) (i : Fin 16) (s : State) : State :=
  let l : Line :=
    { node := n, lun := u, generation := (s.drive n u).generation, index := index, state := .fetching i,
      chunks := Vector.replicate 8 none, pins := pins }
  let t := (s.updCache fun c => { c with lines := c.lines ++ [l] }).updSlot i fun x =>
    { ticket := x.ticket + 1, use := .offered s.timebase s.cache.timeout }
  offerMedia (.fetch i) t

/-- The LUN of a node's command, 0 where it holds none. -/
def State.cmdLun (s : State) (n : Node) : Lun :=
  match (s.node n).ctx.command with
  | none => 0
  | some c => c.lun

/-- The index of the line a node's read asked for last. -/
def State.askIndex (s : State) (n : Node) : Nat :=
  match (s.node n).ctx.ask with
  | none => 0
  | some a => a.index

/-- The line a read waits for is created with its reserved slot, and the read attaches to it (R176 step 4). -/
def attachNew (n : Node) (i : Fin 16) (s : State) : State :=
  let u := s.cmdLun n
  let index := s.askIndex n
  createLine n u index 1 i
    (s.updCtx n fun x => { x with ask := some { index := index, generation := (s.drive n u).generation, state := .attached } })

/-- The slot reserved for a port (R176). -/
def State.reservedSlot (s : State) (n : Node) : Option (Fin 16) := allSlots.find? fun i => decide (s.cache.slots[i].use = .reserved n)

/-- A waiting allocation obtains its pages: its line is created with its reserved slot (R31, R176). Every waiting
allocation holds one; where none is reserved the pages stay free. -/
def grantPages (n : Node) (s : State) : State :=
  match s.reservedSlot n with
  | none => s.updPool fun p => { p with free := p.free + Config.linePages }
  | some i => attachNew n i s

/-- The waiting allocations are tried from the head of the list until one must go on waiting (R31). -/
def retryList : List Waiter → State → State
  | [], s => s
  | w :: ws, s =>
    match demandAlloc s with
    | .got t => retryList ws (grantPages w.node (t.updPool fun p => { p with waiting := ws }))
    | _ => s

/-- An occasion on which the waiting allocations are tried again (R31). -/
def retryWaiting (s : State) : State := retryList s.pool.waiting s

/-- Pages join the free list, which is such an occasion (R31). -/
def pagesJoin (k : Nat) (s : State) : State := retryWaiting (s.updPool fun p => { p with free := p.free + k })

/-- A read detaches from the line it holds (R173, R174). Where the line is VALID and no read is left, it ceases to be
pinned, which is an occasion for R31. -/
def detach (n : Node) (s : State) : State :=
  match (s.node n).ctx.ask with
  | none => s
  | some a =>
    if a.state = .attached then
      let u := s.cmdLun n
      let t := (s.updCtx n fun x => { x with ask := none }).updCache fun c =>
        { c with lines := c.lines.map fun l => if l.isFor n u a.generation a.index then { l with pins := l.pins - 1 } else l }
      match t.findLine n u a.generation a.index with
      | none => t
      | some l => if l.evictable then retryWaiting t else t
    else s

/-- A node's read fails with a sense (R159) and detaches; it is told of no further line. -/
def failRead (n : Node) (sense : Sense) (s : State) : State :=
  (detach n (readFails n sense s)).updCtx n fun x => { x with ask := none }

/-! ## Demand misses -/

/-- Step 3 of a demand miss with its reserved slot (R176): the line is created, or the allocation waits and latches
POOL_PRESSURE, or it fails at once and frees the slot. -/
def allocateFor (n : Node) (i : Fin 16) (s : State) : State :=
  match demandAlloc s with
  | .got t => attachNew n i t
  | .waits =>
    pressureWait n
      ((s.updPool fun p => { p with waiting := p.waiting ++ [{ node := n, start := s.timebase, timeout := s.cache.timeout }] }).updCtx n
        fun x => { x with ask := x.ask.map fun a => { a with state := .waitingPages } })
  | .fails => mediaError n .fetchTimeout (s.cmdLun n) (failRead n senseRead (s.setSlotUse i .free))

/-- Free slots are reserved for the reads on the slot-wait list, from its head (R176). -/
def grantList : List Waiter → State → State
  | [], s => s
  | w :: ws, s =>
    match s.lowestFreeSlot with
    | none => s
    | some i => grantList ws (allocateFor w.node i ((s.updCache fun c => { c with slotWait := ws }).setSlotUse i (.reserved w.node)))

/-- An occasion on which a FREE slot passes to the slot-wait list (R176). -/
def grantSlots (s : State) : State := grantList s.cache.slotWait s

/-- A demand miss of a node's read for the line it asked for (R176). -/
def demandMiss (n : Node) (s : State) : State :=
  if s.link.online = .autonomous then failRead n senseNotReady s
  else match s.lowestFreeSlot with
    | some i => grantSlots (allocateFor n i (s.setSlotUse i (.reserved n)))
    | none =>
      s.updCache fun c => { c with slotWait := c.slotWait ++ [{ node := n, start := s.timebase, timeout := s.cache.timeout }] }

/-- A node's read leaves the slot-wait list and the pool's waiting list, and the slot reserved for it becomes FREE
(R31, R176); no waiting read has been granted it yet. -/
def dropWaits (n : Node) (s : State) : State :=
  let t := (s.updCache fun c => { c with slotWait := c.slotWait.filter (·.node ≠ n) }).updPool fun p =>
    { p with waiting := p.waiting.filter (·.node ≠ n) }
  match t.reservedSlot n with
  | none => t
  | some i => t.setSlotUse i .free

/-- A node's read leaves the lists it waits on, and a slot that this frees passes to the slot-wait list (R31, R176). -/
def leaveLists (n : Node) (s : State) : State :=
  match s.reservedSlot n with
  | none => dropWaits n s
  | some _ => grantSlots (dropWaits n s)

/-! ## Prefetch -/

/-- A prefetch run over `k` line indices from `index` on (R182). -/
def prefetchRun (n : Node) (u : Lun) : Nat → Nat → State → State
  | 0, _, s => s
  | k + 1, index, s =>
    let d := s.drive n u
    if d.lineCount ≤ index then s
    else if (s.findLine n u d.generation index).isSome then prefetchRun n u k (index + 1) s
    else if s.freeSlots < Config.prefetchSlots ∨ (s.node n).port.state = .suspended ∨ s.link.online = .autonomous then s
    else match prefetchAlloc s, s.lowestFreeSlot with
      | some t, some i => prefetchRun n u k (index + 1) (createLine n u index 0 i t)
      | _, _ => s

/-! ## Lookups for a read -/

/-- A running READ(10) asks for a line (R172, R174): a hit attaches it, most recently used; no match is a demand miss.
A sequential read that has asked for its last line makes a prefetch run (R182). -/
def askLine (n : Node) (index : Nat) (s : State) : State :=
  let u := s.cmdLun n
  let d := s.drive n u
  let t := match s.findLine n u d.generation index with
    | some l =>
      ((s.updDrive n u fun d => { d with hits := min 65535 (d.hits + 1) }).updCache fun c =>
        { c with lines := c.lines.eraseP (fun x => x.isFor n u d.generation index) ++ [{ l with pins := l.pins + 1 }] }).updCtx n fun x =>
          { x with ask := some { index := index, generation := d.generation, state := .attached } }
    | none =>
      demandMiss n ((s.updDrive n u fun d => { d with misses := min 65535 (d.misses + 1) }).updCtx n fun x =>
        { x with ask := some { index := index, generation := d.generation, state := .waitingSlot } })
  if (s.node n).ctx.sequential ∧ index = (s.node n).ctx.lastLine then prefetchRun n u t.cache.depth (index + 1) t else t

/-- The VALID line a read is attached to (R174). -/
def State.readyLine (s : State) (n : Node) : Option Line :=
  match (s.node n).ctx.ask with
  | none => none
  | some a =>
    if a.state = .attached then
      (s.findLine n (s.cmdLun n) a.generation a.index).filter fun l => decide (l.state = .valid)
    else none

/-- The bytes a VALID line holds, its chunks in order (R171). -/
def Line.content (l : Line) : List Byte := (l.chunks.toList.map fun c => c.getD []).flatten

/-! ## The course of a fetch -/

/-- Whether a line of that length is complete (R171). -/
def Line.complete (l : Line) (len : Nat) : Bool :=
  (List.range (chunkCount len)).all fun k => ((l.chunks.toList.getD k none).isSome)

/-- A fetch fails (R179, R186): its FETCH_REQ is withdrawn, its line freed and its slot FREE. For a FETCHING line
MEDIA_ERROR is latched with the cause, and a read attached to it fails with the sense. An occupied slot always has its
line (R175); without one nothing else is left to fail. -/
def fetchFails (i : Fin 16) (cause : MediaCause) (sense : Sense) (s : State) : State :=
  match s.slotLine i with
  | none => (withdraw (.fetch i) s).setSlotUse i .free
  | some l =>
    let t := grantSlots (retryWaiting ((freeSlotLine i (withdraw (.fetch i) s)).setSlotUse i .free))
    match l.state with
    | .fetching _ =>
      let t := mediaError l.node cause l.lun t
      if 0 < l.pins then failRead l.node sense t else t
    | _ => t

/-- The last chunk of a line has been received (R178): the slot becomes FREE; a FETCHING line becomes VALID and a DOOMED
one is freed. -/
def fetchCompletes (i : Fin 16) (l : Line) (s : State) : State :=
  match l.state with
  | .doomed _ => retryWaiting (grantSlots ((freeSlotLine i s).setSlotUse i .free))
  | _ =>
    let t := grantSlots ((s.updCache fun c => { c with lines := c.lines.map fun x => if x.inSlot i then { x with state := .valid } else x }).setSlotUse i .free)
    if l.pins = 0 then retryWaiting t else t

/-- A good chunk is written into the line of a slot and its flag set (R178 step 4). -/
def storeChunk (i : Fin 16) (k : Fin 8) (data : List Byte) (s : State) : State :=
  let t := s.updCache fun c => { c with lines := c.lines.map fun x => if x.inSlot i then { x with chunks := x.chunks.set k (some data) } else x }
  match t.slotLine i with
  | none => t
  | some l => if l.complete ((t.drive l.node l.lun).lineLength l.index) then fetchCompletes i l t else t

/-- Whether an answer to a fetch is current (R178 step 1): its slot is SENT and its ticket and generation agree. -/
def fetchCurrent (s : State) (slot ticket generation : Nat) : Option (Fin 16 × Line) :=
  match indexOf 16 slot with
  | none => none
  | some i =>
    match s.cache.slots[i].use, s.slotLine i with
    | .sent _ _, some l => if s.cache.slots[i].ticket.toNat = ticket ∧ l.generation.toNat = generation then some (i, l) else none
    | _, _ => none

/-! ## Generations -/

/-- Whether a line belongs to a drive slot. -/
def Line.ofDrive (l : Line) (n : Node) (u : Lun) : Bool := l.node == n && l.lun == u

/-- Whether a fetch slot belongs to a line of a drive. -/
def State.slotOfDrive (s : State) (n : Node) (u : Lun) (i : Fin 16) : Bool :=
  match s.slotLine i with
  | none => false
  | some l => l.ofDrive n u

/-- The cache at an eject of a PRESENT slot (R180): every line of the drive is freed, the slots of those being fetched
become FREE with their FETCH_REQs withdrawn, and the waiting read of the drive's command leaves its list, with its
reserved slot. Only then are the waiting allocations retried, and after them the slots granted (DESIGN CHOICE, log entry
9: R180 gives no order). -/
def cacheEject (n : Node) (u : Lun) (s : State) : State :=
  let mine := allSlots.filter (s.slotOfDrive n u)
  let t := mine.foldl (fun t i => (withdraw (.fetch i) t).setSlotUse i .free) s
  let t := (t.updCache fun c => { c with lines := c.lines.filter fun l => !l.ofDrive n u }).updPool fun p =>
    { p with free := p.free + Config.linePages * (s.cache.lines.filter fun l => l.ofDrive n u).length }
  let t := if (s.node n).ctx.command.isSome ∧ s.cmdLun n = u then dropWaits n t else t
  grantSlots (retryWaiting t)

/-- A FETCHING line becomes DOOMED and keeps its slot (R170). -/
def Line.doom (l : Line) : Line :=
  match l.state with
  | .fetching i => { l with state := .doomed i }
  | _ => l

/-- VALID lines that a test picks are freed, and FETCHING ones become DOOMED and keep their slots (R180, R183). -/
def doomLines (p : Line → Bool) (s : State) : State :=
  let gone := s.cache.lines.filter fun l => p l && decide (l.state = .valid)
  let t := s.updCache fun c =>
    { c with lines := (c.lines.filter fun l => !(p l && decide (l.state = .valid))).map fun l => if p l then l.doom else l }
  if gone.isEmpty then t else pagesJoin (Config.linePages * gone.length) t

/-- The place of the next byte a running read has to supply (R180). -/
def Context.nextByte (x : Context) (pendingIn : Option Packet) : Nat :=
  x.moved + match pendingIn with
    | none => 0
    | some p => p.data.length

/-- CACHE_DROP for a PRESENT drive (R180, R181): its generation increases by one and its last-read line becomes none;
the old generation's lines are freed or become DOOMED; a read attached to one of them detaches and asks again, at once,
for the line that holds its next byte. It asks after the lines are freed and the waiting allocations have been retried
with their pages (DESIGN CHOICE, log entry 18: R180 gives no order). -/
def cacheDropOp (n : Node) (u : Lun) (s : State) : State :=
  let x := (s.node n).ctx
  let attached := x.command.isSome ∧ s.cmdLun n = u ∧ (x.ask.map Ask.state) = some .attached
  let t := if attached then
      (s.updCtx n fun x => { x with ask := none }).updCache fun c =>
        { c with lines := c.lines.map fun l => if l.ofDrive n u then { l with pins := 0 } else l }
    else s
  let t := t.updDrive n u fun d => { d with generation := d.generation + 1, lastRead := none }
  let t := doomLines (fun l => l.ofDrive n u) t
  let next := x.nextByte (s.node n).port.pendingIn
  if attached ∧ next < x.dn then askLine n ((x.startByte + next) / Config.lineBytes) t else t

/-- The cache at an accepted WRITE(10) (R183): the lines of the drive's present generation whose index lies from the
write's first line to its last are freed or become DOOMED. -/
def cacheOverlap (n : Node) (u : Lun) (first last : Nat) (s : State) : State :=
  let g := (s.drive n u).generation
  doomLines (fun l => l.ofDrive n u && l.generation == g && decide (first ≤ l.index) && decide (l.index ≤ last)) s

/-! ## Staging pages and the write table -/

/-- Whether a write-table entry is in use for a port. -/
def WriteEntry.ofNode (e : WriteEntry) (n : Node) : Bool :=
  match e.use with
  | none => false
  | some w => w.node == n

/-- Whether a write-table entry is owned by the command in a node's context (R184). -/
def WriteEntry.owned (e : WriteEntry) (n : Node) : Bool :=
  match e.use with
  | none => false
  | some w => w.node == n && !w.cancelled

/-- The staging pages a port holds (R33): one for each of its entries in use and one for a unit being filled. -/
def State.stagingPages (s : State) (n : Node) : Nat :=
  (s.cache.writes.toList.filter fun e => e.ofNode n).length + (if (s.node n).ctx.filling.isSome then 1 else 0)

/-- Whether R33 would grant a staging page at this moment (R133). -/
def stagingAvailable (s : State) (n : Node) : Bool :=
  decide (s.stagingPages n < Config.stagingPages) && (decide (0 < s.pool.free) || s.cache.lines.any Line.evictable)

/-- A port asks for a staging page (R33). Where it is not granted for want of a page, the staging-blocked flag is set
and POOL_PRESSURE latched if it was clear. -/
def requestStaging (n : Node) (s : State) : Bool × State :=
  if Config.stagingPages ≤ s.stagingPages n then (false, s)
  else if 0 < s.pool.free then
    (true, (s.updPool fun p => { p with free := p.free - 1 }).updPort n fun p => { p with stagingBlocked := false })
  else match evictLine s with
    | some t => (true, pagesJoin (Config.linePages - 1) (t.updPort n fun p => { p with stagingBlocked := false }))
    | none =>
      let t := s.updPort n fun p => { p with stagingBlocked := true }
      (false, if (s.node n).port.stagingBlocked then t else pressureStage n t)

/-- A staging unit that is not sent is discarded and its page freed (R33, R160). -/
def discardUnit (n : Node) (s : State) : State :=
  if (s.node n).ctx.filling.isSome then pagesJoin 1 (s.updCtx n fun x => { x with filling := none }) else s

/-- A write-table entry ends (R185): a WRITE_THRU still waiting is withdrawn, the entry becomes FREE, and its staging
page joins the free list. -/
def endEntry (i : Fin 32) (s : State) : State :=
  pagesJoin 1 ((withdraw (.write i) s).updEntry i fun e => { e with use := none })

/-- The entries of a node's command that a test picks. -/
def State.ownedEntries (s : State) (n : Node) (p : WriteUse → Bool) : List (Fin 32) :=
  allEntries.filter fun i =>
    match s.cache.writes[i].use with
    | none => false
    | some w => w.node == n && !w.cancelled && p w

/-- A WRITE(10) in AWAIT_HOST enters STATUS once none of its entries is in use (R161). -/
def checkAwait (n : Node) (s : State) : State :=
  if (s.node n).ctx.phase = .awaitHost ∧ (s.node n).ctx.running = true ∧ (s.ownedEntries n fun _ => true) = [] then enterStatus n s
  else s

/-- A running WRITE(10) fails with a sense (R161): its entries still OFFERED are withdrawn (R185), its unit not handed
over is discarded (R160), and it enters STATUS if it waits for nothing more. A later failure changes nothing. Each entry
that ends, in ascending order, and then the unit is an occasion of its own for the waiting allocations (DESIGN CHOICE, log
entry 56: R185 gives the occasion for an entry and not for several that end at one moment). -/
def failWrite (n : Node) (sense : Sense) (s : State) : State :=
  let x := (s.node n).ctx
  if (x.phase = .dataOut ∨ x.phase = .awaitHost) ∧ x.running = true ∧ x.result = .passed then
    let t := s.updCtx n fun x => { x with result := .failed sense }
    let t := (t.ownedEntries n fun w => !w.sent).foldl (fun t i => endEntry i t) t
    checkAwait n (discardUnit n t)
  else s

/-- A full staging unit k of a node's write is handed to the cache (R184): the lowest-numbered FREE entry is taken with
its next ticket, and its WRITE_THRU is offered; while the link is AUTONOMOUS the entry ends at once and its command
fails (R186). The unit's page passes to the entry. -/
def handOver (n : Node) (k : Nat) (data : List Byte) (s : State) : State :=
  match allEntries.find? fun i => decide (s.cache.writes[i].use = none) with
  | none => s
  | some i =>
    let u := s.cmdLun n
    let x := (s.node n).ctx
    let t := (s.updCtx n fun x => { x with filling := none }).updEntry i fun e =>
      { ticket := e.ticket + 1,
        use := some { sent := false, node := n, lun := u, handle := ((s.drive n u).image.map Image.handle).getD 0,
                      offset := x.startByte + Config.chunkBytes * k, data := data, start := s.timebase,
                      timeout := s.cache.timeout, cancelled := false } }
    if s.link.online = .autonomous then failWrite n senseNotReady (mediaError n .writeLost u (endEntry i t))
    else offerMedia (.write i) t

end Sys2Proof.Machine
end

