-- ==== Sys2Proof/Machine/Context.lean ====
section
/-! DEFINITION. The command context: dispatch (R150, R152 to R157), the data phases (R158, R160), forwarding (R165 to
R167), clearing (R151) and what ejects do to a command (R146, R168). -/

namespace Sys2Proof.Machine

open Sys2Proof

/-- A context in EXPECT_COMMAND with no command (R151, R162). The forward ticket is kept; and so is a staging unit, whose
page only its discard or its handing over takes away (R22): every way to this state has discarded it first. -/
def Context.idle (x : Context) : Context := { Context.reset with fwdTicket := x.fwdTicket, filling := x.filling }

/-! ## Forwarding -/

/-- A forward fails with a sense (R167): a waiting FWD_CMD is withdrawn and the data phase is closed. -/
def failForward (n : Node) (sense : Sense) (s : State) : State :=
  let x := (s.node n).ctx
  let t := (withdraw (.forward n) s).updCtx n fun x => { x with fwdState := .none, result := .failed sense }
  match x.command with
  | none => t
  | some c => if c.dirIn ∧ 0 < c.expected then t.updCtx n fun x => { x with phase := .dataIn, mode := .zlp } else enterStatus n t

/-- A forward begins (R165): the next ticket, the start time, AWAIT_HOST, and the offer of its FWD_CMD; while the link
is AUTONOMOUS it fails at once (R167). -/
def beginForward (n : Node) (s : State) : State :=
  let t := s.updCtx n fun x =>
    { x with phase := .awaitHost, mode := .none, fwdTicket := x.fwdTicket + 1, fwdStart := s.timebase, fwdTimeout := s.cache.timeout,
             fwdState := .offered }
  if s.link.online = .autonomous then failForward n senseNotReady t else offerMedia (.forward n) t

/-- A forwarded command that has passed R152 (R165). -/
def startForward (n : Node) (c : Command) (s : State) : State :=
  if c.expected = 0 ∨ c.dirIn then beginForward n s
  else s.updCtx n fun x => { x with phase := .dataOut, mode := .forward }

/-- The data of a read leaves DATA_IN when moved has reached Dn (R158): one zero-length packet first where Dn is less
than E and a multiple of the packet size. -/
def finishIn (n : Node) (s : State) : State :=
  let x := (s.node n).ctx
  if x.dn < x.expected ∧ x.dn % s.maxPacket n = 0 then s.updCtx n fun x => { x with mode := .zlp } else enterStatus n (detach n s)

/-- A forward ends with the host's answer (R166). -/
def endForward (n : Node) (result : CmdResult) (data : List Byte) (s : State) : State :=
  match (s.node n).ctx.command with
  | none => s
  | some c =>
    if c.dirIn ∧ 0 < c.expected then
      let d := data.take (min data.length c.expected)
      let t := s.updCtx n fun x =>
        { x with fwdState := .none, result := result, phase := .dataIn, mode := .forwarded, fwdBuffer := d, dn := d.length }
      if d.isEmpty then finishIn n t else t
    else enterStatus n (s.updCtx n fun x => { x with fwdState := .none, result := result })

/-! ## Executed commands -/

/-- The direction an executed command needs: none for TEST_UNIT_READY (R154). -/
def opDirection (op : Byte) : Option Bool :=
  if op = 0x00 then none else some (op ≠ 0x2A)

/-- The LBA of a READ(10) or WRITE(10) (R154). -/
def Command.lba (c : Command) : Nat := beNat (bytesAt c.block 2 4)

/-- The block count of a READ(10) or WRITE(10) (R154). -/
def Command.blocks (c : Command) : Nat := beNat (bytesAt c.block 7 2)

/-- The block size of a drive, 0 where it is EMPTY. -/
def Drive.blockSize (d : Drive) : Nat :=
  match d.image with
  | none => 0
  | some i => i.block

/-- The device length Dn of an executed command (R154). -/
def deviceLength (c : Command) (d : Drive) : Nat :=
  if c.op = 0x03 then min 18 (u8 c.block 4)
  else if c.op = 0x12 then min 36 (beNat (bytesAt c.block 3 2))
  else if c.op = 0x25 then 8
  else if c.op = 0x28 ∨ c.op = 0x2A then c.blocks * d.blockSize
  else 0

/-- The data READ_CAPACITY returns (R163, section 11.8). -/
def capacityBytes (d : Drive) : List Byte := be 4 (d.capacity - 1) ++ be 4 d.blockSize

/-- The inquiry record of a LUN in the node's descriptor set (R163). -/
def inquiryRecord (s : State) (n : Node) (l : Lun) : List Byte :=
  match (s.node n).port.desc with
  | none => []
  | some d => d.inquiry[l]

/-- The effect of an executed command that has nothing to move (R155 decision 1, R163): REQUEST_SENSE takes the pending
sense; the others have none. -/
def runEmpty (n : Node) (c : Command) (s : State) : State :=
  if c.op = 0x03 then s.updDrive n c.lun fun d => { d with sense := none } else s

/-- A command enters DATA_IN with bytes composed at this moment (R157, R163). -/
def runComposed (n : Node) (data : List Byte) (s : State) : State :=
  s.updCtx n fun x => { x with phase := .dataIn, mode := .composed, composed := data }

/-- REQUEST_SENSE runs (R163): the sense data is composed, and the pending sense becomes none. -/
def runRequestSense (n : Node) (c : Command) (s : State) : State :=
  runComposed n ((senseBytes (s.drive n c.lun).sense).take (deviceLength c (s.drive n c.lun))) (s.updDrive n c.lun fun d => { d with sense := none })

/-- INQUIRY runs (R163): the first bytes of the LUN's inquiry record. -/
def runInquiry (n : Node) (c : Command) (s : State) : State :=
  runComposed n ((inquiryRecord s n c.lun).take (deviceLength c (s.drive n c.lun))) s

/-- READ_CAPACITY runs (R163). -/
def runReadCapacity (n : Node) (c : Command) (s : State) : State := runComposed n (capacityBytes (s.drive n c.lun)) s

/-- READ(10) runs (R157 decision 7): it enters DATA_IN, is sequential or not (R182), and asks for its first line
(R174). -/
def runRead (n : Node) (c : Command) (s : State) : State :=
  let d := s.drive n c.lun
  let start := c.lba * d.blockSize
  let first := start / Config.lineBytes
  let last := (start + deviceLength c d - 1) / Config.lineBytes
  let sequential := match d.lastRead with
    | none => false
    | some r => decide (first = r ∨ first = r + 1)
  askLine n first ((s.updDrive n c.lun fun d => { d with lastRead := some last }).updCtx n fun x =>
    { x with phase := .dataIn, mode := .read, running := true, startByte := start, lastLine := last, sequential := sequential })

/-- WRITE(10) runs (R157 decision 7): it enters DATA_OUT, and the cache acts on the lines it overlaps (R183). -/
def runWrite (n : Node) (c : Command) (s : State) : State :=
  let d := s.drive n c.lun
  let start := c.lba * d.blockSize
  cacheOverlap n c.lun (start / Config.lineBytes) ((start + deviceLength c d - 1) / Config.lineBytes)
    (s.updCtx n fun x => { x with phase := .dataOut, mode := .write, running := true, startByte := start })

/-- Decision 4 of R157: whether L + N, computed without wrap, exceeds C. -/
def outOfRange (c : Command) (d : Drive) : Bool := decide (d.capacity < c.lba + c.blocks)

/-- The decisions of R157 for a READ(10). -/
def decideRead (n : Node) (c : Command) (s : State) : State :=
  if outOfRange c (s.drive n c.lun) then refuseAtStart n c senseRange s else runRead n c s

/-- The decisions of R157 for a WRITE(10): range, write protection, link state. -/
def decideWrite (n : Node) (c : Command) (s : State) : State :=
  if outOfRange c (s.drive n c.lun) then refuseAtStart n c senseRange s
  else if ((s.drive n c.lun).image.map Image.writable) ≠ some true then refuseAtStart n c senseProtected s
  else if s.link.online = .autonomous then refuseAtStart n c senseNotReady s
  else runWrite n c s

/-- An executed command that R155 has not settled (R157, R163). -/
def runExecuted (n : Node) (c : Command) (s : State) : State :=
  if c.op = 0x03 then runRequestSense n c s
  else if c.op = 0x12 then runInquiry n c s
  else if c.op = 0x25 then runReadCapacity n c s
  else if c.op = 0x28 then decideRead n c s
  else if c.op = 0x2A then decideWrite n c s
  else s

/-- The endpoint a wrapper's direction names (R155). -/
def Command.endpoint (c : Command) : Endpoint := if c.dirIn then .bulkIn else .bulkOut

/-- Set the halt of a bulk endpoint (R134). -/
def setHalt (n : Node) (e : Endpoint) (v : Bool) (s : State) : State :=
  s.updPort n fun p => match e with
    | .bulkIn => { p with haltIn := v }
    | .bulkOut => { p with haltOut := v }

/-- The transfer decisions 1 to 3 of R155 for an executed command; what they do not settle goes on to R157. -/
def decideTransfer (n : Node) (c : Command) (s : State) : State :=
  let dn := deviceLength c (s.drive n c.lun)
  let t := s.updCtx n fun x => { x with dn := dn }
  if dn = 0 then closeAtStart n c (runEmpty n c t)
  else if c.expected = 0 then
    mediaError n .phase c.lun (enterStatus n (t.updCtx n fun x => { x with result := .phaseError }))
  else if opDirection c.op ≠ some c.dirIn ∨ c.expected < dn then
    mediaError n .phase c.lun (setHalt n c.endpoint true (t.updCtx n fun x =>
      { x with result := .phaseError, phase := .haltThenStatus, mode := .none, halted := some c.endpoint }))
  else runExecuted n c t

/-- The length an executed command's block needs (R152). -/
def requiredBlock (op : Byte) : Nat := if op = 0x00 ∨ op = 0x03 ∨ op = 0x12 then 6 else 10

/-- The context decides its command (R152). -/
def dispatch (n : Node) (c : Command) (s : State) : State :=
  let d := s.drive n c.lun
  let t := s.updCtx n fun x => { x with blockSize := d.blockSize }
  if c.op ∈ executedOps ∧ c.block.length < requiredBlock c.op then refuseAtStart n c senseInvalid t
  else if c.op ≠ 0x12 ∧ c.op ≠ 0x03 ∧ d.image = none then refuseAtStart n c senseNoMedium t
  else if c.op ≠ 0x12 ∧ c.op ≠ 0x03 ∧ d.unitAttention = true then
    refuseAtStart n c senseChanged (t.updDrive n c.lun fun d => { d with unitAttention := false })
  else if c.op ∈ executedOps then decideTransfer n c t
  else startForward n c t

/-- A packet taken in EXPECT_COMMAND (R150): a valid wrapper becomes the command and is dispatched; any other sets both
halts and the recovery flag, enters RECOVERY and latches MEDIA_ERROR. -/
def takeWrapper (n : Node) (d : List Byte) (s : State) : State :=
  if validWrapper d then dispatch n (commandOf d) (s.updCtx n fun x => { x.idle with command := some (commandOf d) })
  else
    mediaError n .wrapperInvalid (wrapperLun d)
      ((s.updPort n fun p => { p with haltIn := true, haltOut := true, recovery := true }).updCtx n fun x =>
        { x.idle with phase := .recovery })

/-! ## The data phases -/

/-- Let go of the line a read asked for last, so that it can ask for another. -/
def letGo (n : Node) (s : State) : State := (detach n (leaveLists n s)).updCtx n fun x => { x with ask := none }

/-- The port asks the context for a bulk IN packet (R149, R158): a running read first asks the cache for the line that
holds its next byte, if it has not asked for that line already (R174). Where its detachment from the line before makes that
line evictable, the waiting allocations are retried before it looks up the next line and makes its own demand (DESIGN
CHOICE, log entry 55: R31 and R174 put both at one moment). -/
def askForPacket (n : Node) (s : State) : State :=
  let x := (s.node n).ctx
  if x.phase = .dataIn ∧ x.mode = .read ∧ x.result = .passed then
    let index := (x.startByte + x.moved) / Config.lineBytes
    if x.ask.map Ask.index = some index then s else askLine n index (letGo n s)
  else s

/-- The packet the context supplies for a bulk IN token, if it has one (R149, R158). -/
def supplied (s : State) (n : Node) : Option (List Byte) :=
  let x := (s.node n).ctx
  let room := min (s.maxPacket n) (x.dn - x.moved)
  match x.phase with
  | .status => some x.statusBytes
  | .dataIn =>
    match x.mode with
    | .zlp => some []
    | .composed => some ((x.composed.drop x.moved).take room)
    | .forwarded => some ((x.fwdBuffer.drop x.moved).take room)
    | .read =>
      if x.result = .passed then
        (s.readyLine n).map fun l => (l.content.drop ((x.startByte + x.moved) % Config.lineBytes)).take room
      else none
    | _ => none
  | _ => none

/-- A bulk IN packet of `len` bytes has been delivered to the node (R132, R158, R159, R162). -/
def delivered (n : Node) (len : Nat) (s : State) : State :=
  let x := (s.node n).ctx
  match x.phase with
  | .status => s.updCtx n Context.idle
  | .dataIn =>
    let t := s.updCtx n fun x => { x with moved := x.moved + len }
    match x.mode with
    | .zlp => enterStatus n (detach n t)
    | .read => if x.result ≠ .passed then closeFailed n t else if x.moved + len = x.dn then finishIn n t else t
    | .composed => if x.moved + len = x.dn then finishIn n t else t
    | .forwarded => if x.moved + len = x.dn then finishIn n t else t
    | _ => t
  | _ => s

/-- A pending IN packet is handed back as not delivered (R132, R158): it is supplied again at the next IN, but for a
read that has failed, which then closes its data phase (R159). -/
def handedBack (n : Node) (s : State) : State :=
  let x := (s.node n).ctx
  if x.phase = .dataIn ∧ x.mode = .read ∧ x.result ≠ .passed then closeFailed n s else s

/-- The data phase of a WRITE(10) ends (R160, R161). -/
def endWriteData (n : Node) (s : State) : State :=
  checkAwait n (s.updCtx n fun x => { x with phase := .awaitHost, mode := .none })

/-- The bytes of a packet that fall inside the expected length and move the data phase on (R160). -/
def Context.movedAfter (x : Context) (len : Nat) : Nat := min x.expected (x.moved + len)

/-- A packet of a WRITE(10) in DATA_OUT (R160): its bytes below Dn go into staging units; a unit that is full is handed
to the cache; a packet that needs a page the pool does not grant is not taken. -/
def takeWriteData (n : Node) (d : List Byte) (s : State) : Bool × State :=
  let x := (s.node n).ctx
  let useful := if x.result = .passed then d.take (x.dn - x.moved) else []
  let after := x.movedAfter d.length
  let short := d.length < s.maxPacket n ∧ after < x.expected
  let fill : Bool × State := if useful ≠ [] ∧ x.filling = none then requestStaging n s else (true, s)
  if fill.1 then
    let k := x.moved / Config.chunkBytes
    let bytes := (match x.filling with
      | none => []
      | some u => u.2) ++ useful
    let t := fill.2.updCtx n fun x =>
      { x with moved := after, filling := if useful = [] then x.filling else some (k, bytes) }
    let t := if useful ≠ [] ∧ bytes.length = Config.chunkBytes then handOver n k bytes t else t
    let t := if short then failWrite n sensePhase t else t
    (true, if short ∨ after = x.expected then endWriteData n t else t)
  else fill

/-- The port offers the context a bulk OUT packet (R149): whether it is taken, and the state after. -/
def takeOut (n : Node) (d : List Byte) (s : State) : Bool × State :=
  let x := (s.node n).ctx
  match x.phase with
  | .expectCommand => (true, takeWrapper n d s)
  | .dataOut =>
    let after := x.movedAfter d.length
    let ends : Bool := decide (after = x.expected ∨ d.length < s.maxPacket n)
    match x.mode with
    | .write => takeWriteData n d s
    | .discard =>
      let t := s.updCtx n fun x => { x with moved := after }
      (true, if ends then enterStatus n t else t)
    | .forward =>
      let t := s.updCtx n fun x =>
        { x with moved := after, fwdBuffer := (x.fwdBuffer ++ d.take (x.expected - x.moved)).take 512 }
      (true, if ends then (if x.result = .passed then beginForward n t else enterStatus n t) else t)
    | _ => (false, s)
  | _ => (false, s)

/-- Whether the context would take a packet of the bulk maximum packet size at this moment (R133). -/
def wouldTake (s : State) (n : Node) : Bool :=
  let x := (s.node n).ctx
  match x.phase with
  | .expectCommand => true
  | .dataOut =>
    match x.mode with
    | .write => if x.result = .passed ∧ x.moved < x.dn ∧ x.filling = none then stagingAvailable s n else true
    | .discard => true
    | .forward => true
    | _ => false
  | _ => false

/-! ## Clearing and ejects -/

/-- The entries a context's command owns become CANCELLED (R151, R184). -/
def cancelEntries (n : Node) (s : State) : State :=
  s.updCache fun c =>
    { c with writes := c.writes.map fun e => { e with use := e.use.map fun w => if w.node = n then { w with cancelled := true } else w } }

/-- The context is cleared by a cancellation or a reset (R151). -/
def clearContext (n : Node) (s : State) : State :=
  let t := withdraw (.forward n) (letGo n s)
  let t := cancelEntries n (discardUnit n t)
  (t.updPort n fun p => { p with stagingBlocked := false }).updCtx n Context.idle

/-- A halt of a bulk endpoint has been cleared outside recovery (R134, R156). -/
def haltCleared (n : Node) (e : Endpoint) (s : State) : State :=
  let x := (s.node n).ctx
  if x.phase = .haltThenStatus ∧ x.halted = some e then enterStatus n s else s

/-- What an eject does to the command on the ejected LUN (R146 step 2). -/
def ejectCommand (n : Node) (u : Lun) (s : State) : State :=
  let x := (s.node n).ctx
  if x.command.isSome ∧ s.cmdLun n = u then
    if x.running = true ∧ x.phase = .dataIn then failRead n senseNoMedium s
    else if x.running = true then failWrite n senseNoMedium s
    else if x.phase = .dataOut ∧ x.mode = .forward ∧ x.result = .passed then
      s.updCtx n fun x => { x with result := .failed senseNoMedium }
    else if x.phase = .awaitHost ∧ x.fwdState ≠ .none then failForward n senseNoMedium s
    else s
  else s

end Sys2Proof.Machine
end

