-- ==== Sys2Proof/Machine/Port.lean ====
section
/-! DEFINITION. The USB port: its connection (R122 to R124), the checks and patches of its descriptor set (R125,
R126), bus reset, suspend and resume (R127 to R129), the answers to bulk packets (R131 to R133) and control
transfers (R135 to R141). -/

namespace Sys2Proof.Machine

open Sys2Proof

/-! ## Connecting and disconnecting -/

/-- Whether the pull-up is applied (R120). -/
def Port.pullUp (p : Port) : Bool :=
  match p.state with
  | .defaulted => true
  | .addressed => true
  | .configured => true
  | .suspended => true
  | _ => false

/-- The four connect conditions of a port, in the order of R122. -/
def connectConditions (s : State) (n : Node) : List Bool :=
  let c := s.node n
  [c.port.enabled, c.port.desc.isSome, decide (c.lines.view = .running),
   c.port.always || c.drives[0].image.isSome || c.drives[1].image.isSome]

/-- Whether the connect conditions hold (R122). -/
def connectHolds (s : State) (n : Node) : Bool := (connectConditions s n).all id

/-- A port record in a state it enters with nothing of a session left (R123, R124): no remembered state, timer stopped,
address 0, configuration 0, speed FULL, toggles DATA0, halts and flags clear, nothing pending. -/
def Port.fresh (p : Port) (st : PortState) : Port :=
  { p with
    state := st, remembered := none, connectStart := none, high := false, address := 0, configuration := false,
    pendingAddress := none, toggleIn := false, toggleOut := false, haltIn := false, haltOut := false, recovery := false,
    resetSeen := false, pendingIn := none, control := none }

/-- The state of a port that does not connect (R122, R124): DISCONNECTED while enabled, otherwise DISABLED. -/
def Port.restState (p : Port) : PortState := if p.enabled then .disconnected else .disabled

/-- The pull-up is applied (R123): DEFAULT, and PORT_CHANGE with cause CONNECTED. -/
def attach (n : Node) (s : State) : State := portChange n .connected (s.updPort n fun p => p.fresh .defaulted)

/-- A port enters CONNECTING, or DEFAULT at once with a connect delay of 0 (R123). -/
def startConnect (n : Node) (s : State) : State :=
  if (s.node n).port.delay = 0 then attach n s
  else s.updPort n fun p => { p with state := .connecting, connectStart := some s.timebase }

/-- A port whose pull-up is applied disconnects (R124). -/
def disconnect (n : Node) (s : State) : State :=
  let t := clearContext n (s.updPort n fun p => { p with control := none, pendingIn := none, pendingAddress := none })
  portChange n .disconnected (t.updPort n fun p => p.fresh p.restState)

/-- A test of the connect conditions (R122). -/
def connectTest (n : Node) (s : State) : State :=
  let p := (s.node n).port
  if p.pullUp then (if connectHolds s n then s else disconnect n s)
  else if p.state = .connecting then
    (if connectHolds s n then s else s.updPort n fun p => { p with state := p.restState, connectStart := none })
  else if connectHolds s n then startConnect n s
  else s.updPort n fun p => { p with state := p.restState }

/-- The connect timer has expired (R123). -/
def connectExpires (n : Node) (s : State) : State := attach n s

/-! ## Bus reset, suspend, resume -/

/-- A bus reset (R127, R128), which the node's controller answers at high speed or does not. -/
def busResetOp (n : Node) (answered : Bool) (s : State) : State :=
  if (s.node n).port.pullUp then
    let t := clearContext n (s.updPort n fun p => { p with control := none, pendingIn := none, pendingAddress := none })
    portChange n .busReset (t.updPort n fun p =>
      { p.fresh .defaulted with resetSeen := true, high := answered && !p.fullSpeedOnly, idleSince := s.timebase })
  else s

/-- The bus has been idle for 3 ms (R129). -/
def suspendExpires (n : Node) (s : State) : State :=
  portChange n .suspended (s.updPort n fun p => { p with state := .suspended, remembered := some p.state })

/-- Activity on the bus of a port whose pull-up is applied (R129): the idle time starts again, and a SUSPENDED port
returns to its remembered state. -/
def busActivityOp (n : Node) (s : State) : State :=
  let p := (s.node n).port
  if p.pullUp then
    let t := s.updPort n fun p => { p with idleSince := s.timebase }
    match p.state, p.remembered with
    | .suspended, some r => portChange n .resumed (t.updPort n fun p => { p with state := r, remembered := none })
    | _, _ => t
  else s

/-! ## Packets -/

/-- Set the port's answer. -/
def setAnswer (n : Node) (a : UsbAnswer) (s : State) : State := s.updPort n fun p => { p with answer := a }

/-- Whether the port answers a token that names an address (R131). -/
def State.hears (s : State) (n : Node) (addr : BitVec 7) : Bool :=
  let p := (s.node n).port
  (match p.state with
    | .defaulted => true
    | .addressed => true
    | .configured => true
    | _ => false) && p.resetSeen && decide (p.address = addr)

/-- A packet on the bus: activity first (R129), then the port's answer if it answers the token (R131). A packet that ends a
suspension is handled after the remembered state is cleared and RESUMED latched (DESIGN CHOICE, log entry 54: R129 gives
the handling after the return, and its place beside the latching is open). -/
def onPacket (n : Node) (addr : BitVec 7) (f : State → State) (s : State) : State :=
  if (s.node n).port.pullUp then
    let t := setAnswer n .silent (busActivityOp n s)
    if t.hears n addr then f t else t
  else s

/-- Whether a port is CONFIGURED. -/
def State.configured (s : State) (n : Node) : Bool := decide ((s.node n).port.state = .configured)

/-- An IN token to 81H (R132). -/
def answerBulkIn (n : Node) (s : State) : State :=
  let p := (s.node n).port
  if s.configured n then
    if p.haltIn ∨ p.recovery then setAnswer n .stall s
    else match p.pendingIn with
      | some k => setAnswer n (.data k) s
      | none =>
        let t := askForPacket n s
        match supplied t n with
        | some d =>
          let k : Packet := { toggle := (t.node n).port.toggleIn, data := d }
          setAnswer n (.data k) (t.updPort n fun p => { p with pendingIn := some k })
        | none => setAnswer n .nak t
  else s

/-- The pending IN packet is acknowledged (R132). -/
def ackBulkIn (n : Node) (s : State) : State :=
  match (s.node n).port.pendingIn with
  | none => s
  | some k =>
    delivered n k.data.length (setAnswer n .silent ((busActivityOp n s).updPort n fun p =>
      { p with pendingIn := none, toggleIn := !p.toggleIn }))

/-- An OUT token with its data packet to 02H (R131, R133). -/
def answerBulkOut (n : Node) (toggle : Bool) (data : List Byte) (s : State) : State :=
  let p := (s.node n).port
  if s.configured n ∧ data.length ≤ s.maxPacket n then
    if p.haltOut ∨ p.recovery then setAnswer n .stall s
    else if toggle ≠ p.toggleOut then setAnswer n .ack s
    else
      let r := takeOut n data s
      if r.1 then setAnswer n .ack (r.2.updPort n fun p => { p with toggleOut := !p.toggleOut }) else setAnswer n .nak r.2
  else s

/-- A bulk OUT packet to an address (R133). -/
def bulkOutOp (n : Node) (addr : BitVec 7) (toggle : Bool) (data : List Byte) (s : State) : State :=
  onPacket n addr (answerBulkOut n toggle data) s

/-- A PING token to 02H (R133). -/
def answerPing (n : Node) (s : State) : State :=
  let p := (s.node n).port
  if s.configured n then
    if p.haltOut ∨ p.recovery then setAnswer n .stall s
    else if wouldTake s n then setAnswer n .ack s else setAnswer n .nak s
  else s

/-! ## The descriptor set -/

/-- The entries of a configuration set, walked by their length bytes: none where one is below 2 or runs past the end
(R125). The number bounds the walk. -/
def walkEntries : Nat → List Byte → Option (List (List Byte))
  | _, [] => some []
  | 0, _ => none
  | k + 1, d =>
    let len := u8 d 0
    if len < 2 ∨ d.length < len then none else (walkEntries k (d.drop len)).map fun es => d.take len :: es

/-- Whether an entry is an endpoint entry (R125). -/
def isEndpoint (e : List Byte) : Bool := u8 e 1 == 5

/-- Whether an entry is a bulk endpoint entry for an address (section 11.7). -/
def isBulkFor (addr : Nat) (e : List Byte) : Bool := isEndpoint e && u8 e 2 == addr && u8 e 3 % 4 == 2

/-- The checks of a configuration set (R125). -/
def configOk (d : List Byte) : Bool :=
  decide (32 ≤ d.length) && decide (d.length ≤ 255) &&
    match walkEntries d.length d with
    | none => false
    | some [] => false
    | some (e :: es) =>
      u8 e 1 == 2 && decide (9 ≤ e.length) && u16 e 2 == d.length
        && ((e :: es).all fun x => !isEndpoint x || decide (7 ≤ x.length))
        && (e :: es).any (isBulkFor 0x81) && (e :: es).any (isBulkFor 0x02)

/-- Whether a string entry's length is allowed (R125): absent, or 2 to 255 bytes. -/
def stringOk (d : List Byte) : Bool := d.isEmpty || (decide (2 ≤ d.length) && decide (d.length ≤ 255))

/-- The checks of a descriptor set (R125). -/
def DescSet.ok (d : DescSet) : Bool :=
  d.device.length == 18 && configOk d.config && d.strings.toList.all stringOk
    && (d.inquiry.toList.all fun r => r.length == 36)
    && decide (d.device.length + d.config.length + (d.strings.toList.map List.length).sum + (d.inquiry.toList.map List.length).sum ≤ 512)

/-- The entry of that length at a place of the payload's entries (section 11.7). -/
def entryAt (lens : List Nat) (body : List Byte) (k : Nat) : List Byte :=
  bytesAt body ((lens.take k).sum) (lens.getD k 0)

/-- The descriptor set of a DESC_LOAD payload after its node number (section 11.7). -/
def descOf (p : List Byte) : DescSet :=
  let lens := (bytesAt p 1 8).map BitVec.toNat
  let body := p.drop 9
  { device := entryAt lens body 0, config := entryAt lens body 1,
    strings := #v[entryAt lens body 2, entryAt lens body 3, entryAt lens body 4, entryAt lens body 5],
    inquiry := #v[entryAt lens body 6, entryAt lens body 7] }

/-- The device entry as returned: the endpoint 0 maximum packet size reads 64 (R126). -/
def patchDevice (d : List Byte) : List Byte := d.set 7 64

/-- An entry of the configuration set as returned (R126). -/
def patchEntry (size : Nat) (e : List Byte) : List Byte :=
  if isEndpoint e ∧ (u8 e 2 = 0x81 ∨ u8 e 2 = 0x02) then
    (e.set 4 (byteOf size)).set 5 (byteOf (size / 256))
  else e

/-- The configuration set as returned at a maximum packet size (R126). -/
def patchConfig (size : Nat) (d : List Byte) : List Byte :=
  match walkEntries d.length d with
  | none => d
  | some es => (es.map (patchEntry size)).flatten

/-! ## Control transfers -/

/-- A transfer in stage STALLED (R135). -/
def stalledTransfer (u : Setup) : Control :=
  { setup := u, stage := .stalled, bytes := [], sent := 0, zlp := false, toggle := true, inFlight := none }

/-- A transfer that returns the first bytes of an entry (R135 to R137): with a length of 0 it has only its status
stage; otherwise the first packet carries DATA1, and a zero-length packet is owed where fewer bytes than the length
are returned and their number is a multiple of 64. The direction bit is not examined: a request for bytes is answered
as a control read even where it says OUT (DESIGN CHOICE, log entry 47). -/
def answeredTransfer (u : Setup) (entry : List Byte) : Control :=
  let len := u.length.toNat
  { setup := u, stage := if len = 0 then .status else .data, bytes := entry.take len, sent := 0,
    zlp := decide ((entry.take len).length < len ∧ (entry.take len).length % 64 = 0), toggle := true, inFlight := none }

/-- Set the control transfer held. -/
def setControl (n : Node) (c : Control) (s : State) : State := s.updPort n fun p => { p with control := some c }

/-- A SETUP packet that the port answers (R135): ACK; the transfer in progress and a pending address are abandoned; and
the request is decided. -/
def onSetup (n : Node) (addr : BitVec 7) (decideRequest : State → State) (s : State) : State :=
  onPacket n addr (fun t => decideRequest (setAnswer n .ack (t.updPort n fun p => { p with pendingAddress := none, control := none }))) s

/-- The request is answered with STALL (R135). -/
def stallRequest (n : Node) (u : Setup) (s : State) : State := setControl n (stalledTransfer u) s

/-- The request is answered with bytes, none of them where it has no data stage (R135, R136). -/
def answerRequest (n : Node) (u : Setup) (bytes : List Byte) (s : State) : State := setControl n (answeredTransfer u bytes) s

/-- Whether a request goes to an interface other than interface 0: it is not answered (R135). Of a request whose rule
names no recipient, no other recipient is examined (DESIGN CHOICE, log entry 22). -/
def otherInterface (u : Setup) : Bool := decide (u.recipient = .iface) && decide (u.index ≠ 0)

/-- The entry GET_DESCRIPTOR names (R137): the type in the high byte of the value, the index in the low byte. The index
field of a string request names a language and is not examined, whatever the recipient (DESIGN CHOICE, log entry 22); of
the other types, a request to another interface is not answered (R135). -/
def descriptorFor (p : Port) (u : Setup) : Option (List Byte) :=
  let ty := u.value.toNat / 256
  let ix := u.value.toNat % 256
  match p.desc with
  | none => none
  | some d =>
    if otherInterface u = true ∧ ty ≠ 3 then none
    else if ty = 1 ∧ ix = 0 then some (patchDevice d.device)
    else if ty = 2 ∧ ix = 0 then some (patchConfig p.maxPacket d.config)
    else if ty = 3 then
      match indexOf 4 ix with
      | none => none
      | some k => if d.strings[k] = [] then none else some d.strings[k]
    else none

/-- GET_DESCRIPTOR (R137). -/
def decideGetDescriptor (n : Node) (u : Setup) (s : State) : State :=
  match descriptorFor (s.node n).port u with
  | none => stallRequest n u s
  | some e => answerRequest n u e s

/-- SET_ADDRESS (R135, R138). -/
def decideSetAddress (n : Node) (u : Setup) (s : State) : State :=
  if otherInterface u = true ∨ 127 < u.value.toNat ∨ u.length ≠ 0 ∨ s.configured n then stallRequest n u s
  else answerRequest n u [] (s.updPort n fun p => { p with pendingAddress := some (BitVec.ofNat 7 u.value.toNat) })

/-- A port with both halts and the recovery flag clear and no pending IN packet (R139). -/
def Port.cleared (p : Port) : Port := { p with haltIn := false, haltOut := false, recovery := false, pendingIn := none }

/-- SET_CONFIGURATION with value 1 takes effect (R139). -/
def configure (n : Node) (s : State) : State :=
  portChange n .configured (clearContext n (s.updPort n fun p =>
    { p.cleared with state := .configured, configuration := true, toggleIn := false, toggleOut := false }))

/-- SET_CONFIGURATION with value 0 takes effect in CONFIGURED (R139). -/
def unconfigure (n : Node) (s : State) : State :=
  portChange n .unconfigured (clearContext n (s.updPort n fun p => { p.cleared with state := .addressed, configuration := false }))

/-- SET_CONFIGURATION (R135, R139). -/
def decideSetConfiguration (n : Node) (u : Setup) (s : State) : State :=
  if otherInterface u = true ∨ 1 < u.value.toNat ∨ u.length ≠ 0 ∨ (s.node n).port.state = .defaulted then stallRequest n u s
  else if u.value = 1 then answerRequest n u [] (configure n s)
  else if s.configured n then answerRequest n u [] (unconfigure n s)
  else answerRequest n u [] s

/-- GET_CONFIGURATION (R135, R139). -/
def decideGetConfiguration (n : Node) (u : Setup) (s : State) : State :=
  if otherInterface u = true ∨ (s.node n).port.state = .defaulted then stallRequest n u s
  else answerRequest n u [byteOfBool (s.node n).port.configuration] s

/-- The self-powered flag of the stored configuration entry (section 11.7). -/
def selfPowered (p : Port) : Bool :=
  match p.desc with
  | none => false
  | some d => (d.config.getD 7 0).getLsbD 6

/-- The bulk endpoint an index field names. -/
def endpointOf (index : BitVec 16) : Option Endpoint :=
  if index = 0x81 then some .bulkIn else if index = 0x02 then some .bulkOut else none

/-- The halt of a bulk endpoint. -/
def Port.halted (p : Port) : Endpoint → Bool
  | .bulkIn => p.haltIn
  | .bulkOut => p.haltOut

/-- The flag in the first of the two status bytes GET_STATUS returns, none where it is answered STALL (R139). Index 0
alone names endpoint 0: 80H is any other recipient (DESIGN CHOICE, log entry 46). -/
def statusFor (s : State) (n : Node) (u : Setup) : Option Bool :=
  let p := (s.node n).port
  match u.recipient with
  | .device => some (selfPowered p)
  | .iface => if u.index = 0 ∧ s.configured n then some false else none
  | .endpoint =>
    if u.index = 0 then some false
    else if s.configured n then (endpointOf u.index).map p.halted
    else none
  | .other => none

/-- GET_STATUS (R139). The flag stands in bit 0 of the first byte (PRESUMED, log entry 21: the spec names no bit). -/
def decideGetStatus (n : Node) (u : Setup) (s : State) : State :=
  match statusFor s n u with
  | none => stallRequest n u s
  | some b => answerRequest n u [byteOfBool b, 0] s

/-- The bulk endpoint whose halt a feature request names, none where the request is not answered (R140). The endpoint
halt feature is value 0 (PRESUMED, log entry 21: the spec names the feature and gives no number). -/
def featureTarget (s : State) (n : Node) (u : Setup) : Option Endpoint :=
  if u.recipient = .endpoint ∧ u.value = 0 ∧ s.configured n then endpointOf u.index else none

/-- SET_FEATURE (R140). -/
def decideSetFeature (n : Node) (u : Setup) (s : State) : State :=
  match featureTarget s n u with
  | none => stallRequest n u s
  | some e => answerRequest n u [] (setHalt n e true s)

/-- A halt is cleared by CLEAR_FEATURE outside recovery (R132, R140): the toggle becomes DATA0, a pending IN packet is
handed back for 81H, and the clearing is handed to the context. -/
def clearHalt (n : Node) (e : Endpoint) (s : State) : State :=
  match e with
  | .bulkIn =>
    let t := s.updPort n fun p => { p with haltIn := false, toggleIn := false, pendingIn := none }
    haltCleared n e (if (s.node n).port.pendingIn.isSome then handedBack n t else t)
  | .bulkOut => haltCleared n e (s.updPort n fun p => { p with haltOut := false, toggleOut := false })

/-- CLEAR_FEATURE (R140). -/
def decideClearFeature (n : Node) (u : Setup) (s : State) : State :=
  match featureTarget s n u with
  | none => stallRequest n u s
  | some e => answerRequest n u [] (if (s.node n).port.recovery then s else clearHalt n e s)

/-- Bulk reset (R141). -/
def decideBulkReset (n : Node) (u : Setup) (s : State) : State :=
  if s.configured n ∧ u.recipient = .iface ∧ u.index = 0 ∧ u.value = 0 ∧ u.length = 0 then
    answerRequest n u [] (clearContext n (s.updPort n fun p => { p with recovery := false, pendingIn := none }))
  else stallRequest n u s

/-- Get-max-LUN (R141). -/
def decideGetMaxLun (n : Node) (u : Setup) (s : State) : State :=
  if s.configured n ∧ u.recipient = .iface ∧ u.index = 0 ∧ u.value = 0 ∧ u.dirIn = true then answerRequest n u [1] s
  else stallRequest n u s

/-! ## Tokens to endpoint 0 -/

/-- The packet an IN token to endpoint 0 is answered with, none for STALL (R136). -/
def Control.nextPacket (c : Control) : Option Packet :=
  match c.stage with
  | .stalled => none
  | .status => some { toggle := true, data := [] }
  | .data =>
    match c.inFlight with
    | some k => some k
    | none =>
      if c.sent < c.bytes.length then some { toggle := c.toggle, data := (c.bytes.drop c.sent).take 64 }
      else if c.zlp then some { toggle := c.toggle, data := [] }
      else none

/-- An IN token to endpoint 0 (R136). -/
def answerControlIn (n : Node) (s : State) : State :=
  match (s.node n).port.control with
  | none => setAnswer n .stall s
  | some c =>
    match c.nextPacket with
    | none => setAnswer n .stall s
    | some k => setAnswer n (.data k) (setControl n { c with inFlight := some k } s)

/-- A pending address takes effect (R138). -/
def Port.takeAddress (p : Port) : Port :=
  match p.pendingAddress with
  | none => p
  | some a =>
    { p with
      address := a, pendingAddress := none,
      state := match p.state with
        | .defaulted => if a = 0 then .defaulted else .addressed
        | .addressed => if a = 0 then .defaulted else .addressed
        | st => st }

/-- A transfer whose packet in flight has been acknowledged in its data stage (R136). The stage stays DATA when nothing more
is owed, until the OUT token of the status stage completes the transfer (DESIGN CHOICE, log entry 49: the spec names no
moment at which the stage of a control read becomes STATUS). -/
def Control.acked (c : Control) (k : Packet) : Control :=
  { c with sent := c.sent + k.data.length, zlp := c.zlp && !k.data.isEmpty, toggle := !c.toggle, inFlight := none }

/-- An endpoint 0 IN packet is acknowledged (R136, R138). -/
def ackControlIn (n : Node) (s : State) : State :=
  match (s.node n).port.control with
  | none => s
  | some c =>
    match c.inFlight with
    | none => s
    | some k =>
      let t := setAnswer n .silent (busActivityOp n s)
      match c.stage with
      | .status => t.updPort n fun p => { p.takeAddress with control := none }
      | .data => setControl n (c.acked k) t
      | .stalled => t

/-- An OUT token to endpoint 0 (R136). -/
def answerControlOut (n : Node) (s : State) : State :=
  match (s.node n).port.control with
  | none => setAnswer n .stall s
  | some c =>
    match c.stage with
    | .data => setAnswer n .ack (s.updPort n fun p => { p with control := none })
    | _ => setAnswer n .stall s

end Sys2Proof.Machine
end

