-- ==== Sys2Proof/Machine/Drives.lean ====
section
/-! DEFINITION. Inserting and ejecting images (R145, R146), shared by the requests and the MEDIA plan step. -/

namespace Sys2Proof.Machine

open Sys2Proof

/-- A drive record after the first step of an eject (R146, R182). -/
def Drive.ejected (d : Drive) : Drive :=
  { d with image := none, generation := d.generation + 1, unitAttention := false, lastRead := none }

/-- Steps 1 to 3 of an eject of a PRESENT slot (R146). -/
def ejectSteps (n : Node) (u : Lun) (s : State) : State :=
  cacheEject n u (ejectCommand n u (s.updDrive n u Drive.ejected))

/-- Eject a drive slot: no effect on an EMPTY one (R146). -/
def ejectOp (n : Node) (u : Lun) (s : State) : State :=
  if (s.drive n u).image.isSome then connectTest n (ejectSteps n u s) else s

/-- A drive record after an insert (R145, R182). -/
def Drive.inserted (d : Drive) (i : Image) : Drive :=
  { image := some i, generation := d.generation + 1, unitAttention := true, sense := none, remembered := some i,
    blocksRead := 0, hits := 0, misses := 0, lastRead := none }

/-- Insert an image (R145). -/
def insertOp (n : Node) (u : Lun) (i : Image) (s : State) : State :=
  let t := if (s.drive n u).image.isSome then ejectSteps n u s else s
  connectTest n (t.updDrive n u fun d => d.inserted i)

end Sys2Proof.Machine
end

