-- ==== Sys2Proof/Machine/Tx.lean ====
section
/-! DEFINITION. The console transmitter (R58 to R66): appending items, beginning and ending them, and what a change
of power view removes. The retry of a waiting plan step (R64) stands with the executor. -/

namespace Sys2Proof.Machine

open Sys2Proof

/-- The fill of a TX queue (R58). -/
def Transmitter.fill (t : Transmitter) : Nat := t.queue.length

/-- The free items of a TX queue (R58). -/
def Transmitter.freeItems (t : Transmitter) : Nat := Config.txItems - t.fill

/-- Text as byte items, the last with a message-end mark of the byte count (R61). -/
def textItems (bytes : List Byte) : List TxItem :=
  match bytes.getLast? with
  | none => []
  | some b => (bytes.dropLast.map fun x => TxItem.byte x none) ++ [TxItem.byte b (some bytes.length)]

/-- Append items at the end of a TX queue. -/
def appendItems (n : Node) (items : List TxItem) (s : State) : State := s.updTx n fun t => { t with queue := t.queue ++ items }

/-- Whether the head item of a queue may begin as far as the gaps of R59 go: after a byte, a byte waits for the pacing gap
and a break for nothing; after a break, either waits until the line has been high for one character at the rate in
force. A character time is not measured on the timebase: the item may begin in the millisecond in which it ends (DESIGN
CHOICE, log entry 5). -/
def gapOver (s : State) (n : Node) : Bool :=
  let t := (s.node n).tx
  let c := (s.node n).rx.settings
  match t.queue with
  | [] => false
  | i :: _ =>
    if t.lastWasByte then
      (match i with
        | .byte _ _ => decide (c.pacing ≤ s.elapsed t.lastByteEnd)
        | .brk _ => true)
    else decide (charMillis c ≤ s.elapsed t.breakEnd)

/-- The head item leaves the queue and its sending begins at the present timebase value, at the rate code and parity in
force (R58, R59). -/
def takeHead (n : Node) (s : State) : State :=
  s.updTx n fun t =>
    match t.queue with
    | [] => t
    | i :: is =>
      let c := (s.node n).rx.settings
      { t with queue := is, inProgress := some { item := i, start := s.timebase, rate := c.rate, parity := c.parity } }

/-- The byte in progress has been sent (R59, R61): the last byte end is set, and an INJECTED marker is appended if the
byte carries a mark and echo injection is ON. -/
def byteEnds (n : Node) (s : State) : State :=
  match (s.node n).tx.inProgress with
  | some ⟨.byte _ mark, _, _, _⟩ =>
    let t := s.updTx n fun t => { t with inProgress := none, lastByteEnd := s.timebase, lastWasByte := true }
    match mark with
    | none => t
    | some k => if (s.node n).rx.settings.echo then appendMarker n 6 k t else t
  | _ => s

/-- The break in progress ends after a number of milliseconds (R60, R65): the line returns high at the present timebase
value, the item is recorded as the last sent, and a BREAK_SENT marker is appended. -/
def breakEnds (n : Node) (ms : Nat) (s : State) : State :=
  appendMarker n 5 ms (s.updTx n fun t => { t with inProgress := none, breakEnd := s.timebase, lastWasByte := false })

/-- The duration of a break in progress has expired (R60). -/
def breakExpires (n : Node) (s : State) : State :=
  match (s.node n).tx.inProgress with
  | some ⟨.brk ms, _, _, _⟩ => breakEnds n ms s
  | _ => s

/-- Every queued item is removed and a break in progress is cut short (R65). -/
def flushItems (n : Node) (s : State) : State :=
  let t := s.updTx n fun t => { t with queue := [] }
  match (s.node n).tx.inProgress with
  | some ⟨.brk _, start, _, _⟩ => breakEnds n (s.elapsed start) t
  | _ => t

/-- The power view leaves RUNNING at a timebase value (R66): queue and item in progress are dropped without a marker, the
line returns high, and the last item sent is recorded as a break, taken to have ended then (DESIGN CHOICE, log entry
43). -/
def Transmitter.dark (now : Word32) (t : Transmitter) : Transmitter :=
  { t with queue := [], inProgress := none, breakEnd := now, lastWasByte := false }

end Sys2Proof.Machine
end

