-- ==== Sys2Proof/Machine/Lines.lean ====
section
/-! DEFINITION. The node line unit (R78 to R92): the three drive actions, the cut-settle timer, and the power view with
the first four of its five deliveries (R86). The fifth, to the executor, stands with the executor. -/

namespace Sys2Proof.Machine

open Sys2Proof

/-- The power view the lines give (R85). -/
def LineUnit.computed (u : LineUnit) : View :=
  if (u.outputs[outIdx .cut]).active then .cutOff else if u.pgood.active then .running else .standby

/-- The marker of a change of view (R47). -/
def viewMarker (n : Node) (old new : View) (s : State) : State :=
  if old = .running then appendMarker n 2 new.num s
  else if new = .running then appendMarker n 1 old.num s
  else s

/-- A node goes dark (R66, R72): its transmitter drops what it holds and its match window is emptied. -/
def goDark (n : Node) (s : State) : State := s.updNode n fun c => { c with tx := c.tx.dark s.timebase, window := [] }

/-- The first four deliveries of a change of view (R86). -/
def deliverView (n : Node) (old new : View) (s : State) : State :=
  let t := viewMarker n old new s
  let t := if old = .running then goDark n t else t
  latch (.node n .powerChange) (new.num + 256 * old.num) (connectTest n t)

/-- The view is recomputed; a view that differs changes and is delivered, but for the executor (R85, R86). -/
def recomputeView (n : Node) (s : State) : State :=
  let u := (s.node n).lines
  if u.computed = u.view then s
  else deliverView n u.view u.computed (s.updLines n fun v => { v with view := u.computed })

/-- CUT has changed its level (R83, R87): the view is recomputed, and the cut-settle timer starts, or stops with the
cut-fault flag cleared. -/
def cutChanged (n : Node) (active : Bool) (s : State) : State :=
  (recomputeView n s).updLines n fun u =>
    if active then { u with settleStart := some s.timebase } else { u with settleStart := none, cutFault := false }

/-- Give an output a level and a pulse record (R83). A set and a release end any pulse; a pulse starts one. -/
def driveLine (n : Node) (o : Output) (active : Bool) (pulse : Option Pulse) (s : State) : State :=
  let t := s.updOutput n o fun l => { l with active := active, pulse := pulse }
  if o = .cut ∧ (s.output n o).active ≠ active then cutChanged n active t else t

/-- Set a line to a level (R83). -/
def setLine (n : Node) (o : Output) (active : Bool) (s : State) : State := driveLine n o active none s

/-- Start a pulse on a line (R83). -/
def pulseLine (n : Node) (o : Output) (source : PulseSource) (ms : Nat) (s : State) : State :=
  driveLine n o true (some { source := source, start := s.timebase, ms := ms }) s

/-- Release a line (R83). -/
def releaseLine (n : Node) (o : Output) (s : State) : State := driveLine n o false none s

/-- Whether a host pulse is in progress on a node (R83). -/
def State.hostPulse (s : State) (n : Node) : Bool :=
  allOutputs.any fun o =>
    match (s.output n o).pulse with
    | none => false
    | some p => decide (p.source = .host)

/-- The cut-settle timer expires (R87). -/
def cutSettleExpires (n : Node) (s : State) : State :=
  let u := (s.node n).lines
  if u.pgood.active then
    latch (.node n .powerFault) u.cutSettle (s.updLines n fun u => { u with settleStart := none, cutFault := true })
  else s.updLines n fun u => { u with settleStart := none }

end Sys2Proof.Machine
end

