-- ==== Sys2Proof/Machine/Executor.lean ====
section
/-! DEFINITION. The plan executor and the inrush arbiter (Chapter 6): steps, their beginning, completion and failure,
the start and the end of an execution, and what the other blocks hand the executor. -/

namespace Sys2Proof.Machine

open Sys2Proof

/-- Change the execution in progress on a node. -/
def State.updRun (s : State) (n : Node) (f : Run → Run) : State := s.updExec n fun e => { e with run := e.run.map f }

/-- Change the inrush arbiter. -/
def State.updArbiter (s : State) (f : Arbiter → Arbiter) : State := { s with arbiter := f s.arbiter }

/-- The steps of a plan, none for an empty one. -/
def State.planSteps (s : State) (p : Fin 16) : List PlanStep :=
  match s.plans[p] with
  | none => []
  | some pl => pl.steps

/-- The current step of a node's execution. -/
def State.currentStep (s : State) (n : Node) : Option PlanStep :=
  match (s.node n).exec.run with
  | none => none
  | some r => (s.planSteps r.plan)[r.step]?

/-- The kind of the current step while the executor stands in a given state. -/
def State.waitingOn (s : State) (n : Node) (st : ExecState) : Option StepKind :=
  match (s.node n).exec.run with
  | none => none
  | some r => if r.state = st then (s.currentStep n).map PlanStep.kind else none

/-- Enter a state of the executor. -/
def enterState (n : Node) (st : ExecState) (s : State) : State := s.updRun n fun r => { r with state := st }

/-- Add a line to the touched-lines set (R102, R103). -/
def touch (n : Node) (o : Output) (s : State) : State := s.updRun n fun r => { r with touched := r.touched.set (outIdx o) true }

/-! ## Ending an execution -/

/-- Step 2 of an ending (R113): a touched output that is ACTIVE or holds a pulse is released. -/
def releaseTouched (n : Node) (touched : Vector Bool 4) (s : State) : State :=
  allOutputs.foldl (fun t o =>
    if touched[outIdx o] ∧ ((t.output n o).active ∨ (t.output n o).pulse.isSome) then releaseLine n o t else t) s

/-- An execution ends with a result and the step reported (R113). -/
def endExec (n : Node) (result : PlanResult) (step : Nat) (s : State) : State :=
  match (s.node n).exec.run with
  | none => s
  | some r =>
    let t := s.updArbiter fun a => { a with waiting := a.waiting.filter fun w => decide (w.node ≠ n) }
    let t := if result = .ok then t else releaseTouched n r.touched t
    let t := appendMarker n 4 result.num t
    let t := latch (.node n .planEnd) (result.num + 256 * r.plan + 4096 * step) t
    t.updExec n fun _ => { run := none, last := some { result := result, plan := r.plan, step := step, time := s.timebase } }

/-! ## The steps -/

/-- What a step comes to at its beginning. -/
inductive StepOutcome where
  | completes | fails | waits
  deriving DecidableEq, Repr

/-- A step that appends items to the TX queue (R64, R108): it fails while the view is not RUNNING or where it has nothing
to append, appends if there is room, and otherwise waits. -/
def sendStep (n : Node) (items : List TxItem) (s : State) : StepOutcome × State :=
  if (s.node n).lines.view ≠ .running ∨ items = [] then (.fails, s)
  else if items.length ≤ (s.node n).tx.freeItems then (.completes, appendItems n items s)
  else (.waits, enterState n .waitingQueue s)

/-- The items a SEND_TEXT or SEND_BREAK step appends; none for the other kinds. -/
def stepItems (s : State) : StepKind → List TxItem
  | .sendText t => textItems s.texts[t]
  | .sendBreak ms => [.brk ms]
  | _ => []

/-- TAKE_SLOT (R116). -/
def takeSlotStep (n : Node) (hold : Nat) (s : State) : StepOutcome × State :=
  if s.arbiter.holds.length < s.arbiter.count then
    (.completes, s.updArbiter fun a => { a with holds := a.holds ++ [{ node := n, start := s.timebase, ms := hold }] })
  else
    (.waits, enterState n .waitingSlot (s.updArbiter fun a => { a with waiting := a.waiting ++ [{ node := n, hold := hold }] }))

/-- MEDIA (R109). -/
def mediaStep (n : Node) (u : Lun) (reinsert : Bool) (s : State) : StepOutcome × State :=
  if reinsert then
    match (s.drive n u).remembered with
    | none => (.fails, s)
    | some i => (.completes, insertOp n u i s)
  else (.completes, ejectOp n u s)

/-- Carry out a step that has begun (R102 to R109, R116). -/
def doStep (n : Node) (k : StepKind) (s : State) : StepOutcome × State :=
  match k with
  | .setLine o active => (.completes, touch n o (setLine n o active s))
  | .pulseLine o ms => (.waits, enterState n .pulsing (touch n o (pulseLine n o .plan ms s)))
  | .waitLine i active =>
    if ((s.node n).lines.input i).active = active then (.completes, s) else (.waits, enterState n .waitingLine s)
  | .waitPower v => if (s.node n).lines.view = v then (.completes, s) else (.waits, enterState n .waitingPower s)
  | .waitMatch _ => (.waits, enterState n .waitingMatch s)
  | .delay ms => if ms = 0 then (.completes, s) else (.waits, enterState n .delaying s)
  | .takeSlot hold => takeSlotStep n hold s
  | .sendText t => sendStep n (stepItems s (.sendText t)) s
  | .sendBreak ms => sendStep n (stepItems s (.sendBreak ms)) s
  | .media u reinsert => mediaStep n u reinsert s
  | .notify code => (.completes, latch (.node n .planNote) code s)

/-- Begin a step and run on, step after step at the same moment, until one waits or the execution ends (R98 to R100).
The number bounds the run: no execution starts more than 64 steps. -/
def runFrom : Nat → Node → Nat → State → State
  | 0, _, _, s => s
  | k + 1, n, idx, s =>
    match (s.node n).exec.run with
    | none => s
    | some r =>
      if Config.stepBudget ≤ r.started then endExec n .loopLimit idx s
      else
        match (s.planSteps r.plan)[idx]? with
        | none => endExec n .ok idx s
        | some st =>
          let t := s.updRun n fun r => { r with state := .runningStep, step := idx, stepStart := s.timebase, started := r.started + 1 }
          match doStep n st.kind t with
          | (.waits, t) => t
          | (.completes, t) =>
            if idx + 1 < (s.planSteps r.plan).length then runFrom k n (idx + 1) t else endExec n .ok idx t
          | (.fails, t) =>
            match st.onFail with
            | .abort => endExec n .failed idx t
            | .goto g => runFrom k n g t

/-- Enough for the longest run: 64 beginnings and the one the budget refuses. -/
def runFuel : Nat := Config.stepBudget + 1

/-- The current step completes (R99). -/
def completeStep (n : Node) (s : State) : State :=
  match (s.node n).exec.run with
  | none => s
  | some r =>
    if r.step + 1 < (s.planSteps r.plan).length then runFrom runFuel n (r.step + 1) s else endExec n .ok r.step s

/-- The current step fails (R100): a node in WAITING_SLOT leaves the inrush waiting list (R116), and the on-fail action
is followed. -/
def failStep (n : Node) (s : State) : State :=
  match (s.node n).exec.run, s.currentStep n with
  | some r, some st =>
    let t := s.updArbiter fun a => { a with waiting := a.waiting.filter fun w => decide (w.node ≠ n) }
    match st.onFail with
    | .abort => endExec n .failed r.step t
    | .goto g => runFrom runFuel n g t
  | _, _ => s

/-! ## Starting a plan -/

/-- A plan starts on a node whose executor is IDLE (R112). -/
def startExec (n : Node) (plan : Fin 16) (priority : Nat) (origin : Origin) (s : State) : State :=
  let t := s.updExec n fun e =>
    { e with run := some { state := .runningStep, plan := plan, priority := priority, origin := origin, step := 0,
                           stepStart := s.timebase, started := 0, touched := Vector.replicate 4 false } }
  runFrom runFuel n 0 (appendMarker n 3 (plan + 256 * origin.num) t)

/-- What the offer of a start comes to (R110, R111): the status of a refusal, or the state after the start with the
index of the plan it preempted. -/
inductive StartOutcome where
  | refused (st : Status)
  | started (s : State) (preempted : Option (Fin 16))

/-- The tests 2 to 6 of R110 and the start they allow. -/
def offerStart (n : Node) (plan : Fin 16) (origin : Origin) (s : State) : StartOutcome :=
  match s.plans[plan] with
  | none => .refused .badArg
  | some pl =>
    if s.hostPulse n then .refused .busy
    else match (s.node n).exec.run with
      | none => .started (startExec n plan pl.priority origin s) none
      | some r =>
        if r.priority < pl.priority then .started (startExec n plan pl.priority origin (endExec n .preempted r.step s)) (some r.plan)
        else .refused .busy

/-! ## What the other blocks hand the executor -/

/-- The fifth delivery of a change of view from `old` (R86, R104, R108). -/
def execOnView (n : Node) (old : View) (s : State) : State :=
  let new := (s.node n).lines.view
  if new = old then s
  else match s.waitingOn n .waitingPower with
    | some (.waitPower v) => if v = new then completeStep n s else s
    | _ =>
      match s.waitingOn n .waitingQueue with
      | some _ => if old = .running then failStep n s else s
      | none => s

/-- An action on the lines with its change of view delivered to the executor last (R86). -/
def withView (n : Node) (f : State → State) (s : State) : State := execOnView n (s.node n).lines.view (f s)

/-- An accepted change of an input reaches the executor (R104). -/
def execOnInput (n : Node) (i : Input) (s : State) : State :=
  match s.waitingOn n .waitingLine with
  | some (.waitLine j active) => if j = i ∧ ((s.node n).lines.input i).active = active then completeStep n s else s
  | _ => s

/-- An accepted change of an input (R80, R82, R88, R90). It is handed to the blocks in the order in which R80 lists them,
each with all that follows from its part before the next: a change of view is delivered whole, then the cut-fault flag is
cleared, and a WAIT_LINE step sees the change last (DESIGN CHOICE, log entry 57: R80 states no order). -/
def acceptedChange (n : Node) (i : Input) (s : State) : State :=
  let t := match i with
    | .pgood =>
      let t := withView n (recomputeView n) s
      if (s.node n).lines.pgood.active then t else t.updLines n fun u => { u with cutFault := false }
    | .auxin => latch (.node n .auxChange) (if (s.node n).lines.auxin.active then 1 else 0) s
  execOnInput n i t

/-- A pin level is accepted (R79). -/
def acceptLevel (n : Node) (i : Input) (level : Bool) (s : State) : State :=
  acceptedChange n i (s.updInput n i fun l => { l with accepted := level, candidate := none })

/-- An input pin takes a level (R79). -/
def pinChanges (n : Node) (i : Input) (high : Bool) (s : State) : State :=
  let l := (s.node n).lines.input i
  let t := s.updInput n i fun l => { l with pin := high }
  if high = l.accepted then t.updInput n i fun l => { l with candidate := none }
  else if l.candidate.isSome then t
  else if l.debounce = 0 then acceptLevel n i high t
  else t.updInput n i fun l => { l with candidate := some s.timebase }

/-- A candidate's debounce time expires (R79). -/
def debounceExpires (n : Node) (i : Input) (s : State) : State := acceptLevel n i (!((s.node n).lines.input i).accepted) s

/-- A pulse expires (R83): the line becomes IDLE, and a pulse of a plan completes the PULSE_LINE step that waits for it
(R103). -/
def pulseExpires (n : Node) (o : Output) (s : State) : State :=
  let byPlan : Bool := match (s.output n o).pulse with
    | none => false
    | some p => decide (p.source = .plan)
  let t := withView n (releaseLine n o) s
  if byPlan ∧ (t.waitingOn n .pulsing).isSome then completeStep n t else t

/-- A waiting SEND_TEXT or SEND_BREAK step retries its append (R64). -/
def retryQueue (n : Node) (s : State) : State :=
  match s.waitingOn n .waitingQueue with
  | none => s
  | some k =>
    let items := stepItems s k
    if (s.node n).lines.view = .running ∧ items ≠ [] ∧ items.length ≤ (s.node n).tx.freeItems then
      completeStep n (appendItems n items s)
    else s

/-- The head item of a TX queue begins, if none is in progress and the gap it waits for is over (R59); an item has then left the
queue, so a waiting step retries (R64). -/
def beginItem (n : Node) (s : State) : State :=
  if (s.node n).tx.inProgress = none ∧ gapOver s n then retryQueue n (takeHead n s) else s

/-- CON_FLUSH's action on a queue (R65): the items are removed and a break in progress is cut short, with its BREAK_SENT
marker, and then the emptying is an occasion for a retry (DESIGN CHOICE, log entry 52: R65 gives no order between the
marker and the retry). -/
def flushOp (n : Node) (s : State) : State := retryQueue n (flushItems n s)

/-- Whether a hold of a node has run its time (R115). -/
def Hold.over (h : Hold) (s : State) (n : Node) : Bool := decide (h.node = n) && decide (h.ms ≤ s.elapsed h.start)

/-- A hold of a node expires (R117): its slot passes to the node at the head of the waiting list, or becomes free. -/
def holdExpires (n : Node) (s : State) : State :=
  let t := s.updArbiter fun a => { a with holds := a.holds.eraseP fun h => h.over s n }
  match t.arbiter.waiting with
  | [] => t
  | w :: ws =>
    completeStep w.node (t.updArbiter fun a =>
      { a with holds := a.holds ++ [{ node := w.node, start := s.timebase, ms := w.hold }], waiting := ws })

end Sys2Proof.Machine
end

