-- ==== Sys2Proof/Machine/Matching.lean ====
section
/-! DEFINITION. The console receiver and the pattern tables: characters and breaks (R40 to R44), the match window and
its test (R72, R73), and the handling of hits (R74 to R77). -/

namespace Sys2Proof.Machine

open Sys2Proof

/-! ## The test of the window -/

/-- Whether a byte is one of the letters case fold acts on (R68). -/
def isLetter (b : Byte) : Bool := (decide (0x41 ≤ b.toNat) && decide (b.toNat ≤ 0x5A)) || (decide (0x61 ≤ b.toNat) && decide (b.toNat ≤ 0x7A))

/-- Whether a pattern byte matches a window byte (R73). -/
def byteMatches (fold : Bool) (a b : Byte) : Bool := a == b || (fold && isLetter a && isLetter b && (a ^^^ b) == 0x20)

/-- Whether a pattern record hits on a window (R73). -/
def Pattern.hitsOn (p : Pattern) (window : List Byte) : Bool :=
  let tail := window.drop (window.length - p.bytes.length)
  decide (p.bytes.length ≤ window.length) &&
    ((p.bytes.zip tail).zipIdx.all fun x => p.wild.getLsbD x.2 || byteMatches p.fold x.1.1 x.1.2)

/-- A hit as it was fixed when the byte was tested (R74): its record, whether the record was armed, and whether the
executor waited on it. -/
structure Hit where
  index : Fin 8
  armed : Bool
  waited : Bool
  deriving DecidableEq, Repr

/-- Whether a node's executor waits on a pattern record (R73). -/
def State.waitsOnPattern (s : State) (n : Node) (i : Fin 8) : Bool := decide (s.waitingOn n .waitingMatch = some (.waitMatch i))

/-- The hit of one record on the window as it stands, if it is tested and hits (R73). -/
def hitOf (s : State) (n : Node) (i : Fin 8) : Option Hit :=
  match (s.node n).patterns[i] with
  | none => none
  | some p =>
    if (p.armed || s.waitsOnPattern n i) && p.hitsOn (s.node n).window then
      some { index := i, armed := p.armed, waited := s.waitsOnPattern n i }
    else none

/-! ## Handling hits -/

/-- Change a pattern record. -/
def State.updPattern (s : State) (n : Node) (i : Fin 8) (f : Pattern → Pattern) : State :=
  s.updNode n fun c => { c with patterns := c.patterns.set i (c.patterns[i].map f) }

/-- The offer of a START_PLAN action (R76): whether a plan started, and the state after. -/
def offerPlan (n : Node) (i : Fin 8) (plan : Fin 16) (s : State) : Bool × State :=
  match offerStart n plan .matched s with
  | .started t _ => (true, t)
  | .refused _ => (false, latch (.node n .matchSuppressed) (i + 256 * plan) s)

/-- The action of an armed record's hit (R75 steps 2 and 3): whether a plan started, and the state after. -/
def hitAction (n : Node) (i : Fin 8) (a : PatAction) (s : State) : Bool × State :=
  match a with
  | .none => (false, s)
  | .event => (false, latch (.node n .conMatch) i s)
  | .startPlan plan => offerPlan n i plan (latch (.node n .conMatch) i s)

/-- The orders of an armed record's hit (R75): whether a plan started, and the state after. -/
def armedHit (n : Node) (i : Fin 8) (s : State) : Bool × State :=
  match (s.node n).patterns[i] with
  | none => (false, s)
  | some p =>
    let r := hitAction n i p.action (s.updPattern n i fun p => { p with hits := min 65535 (p.hits + 1) })
    (r.1, if p.rep then r.2 else r.2.updPattern n i fun p => { p with armed := false })

/-- One hit is handled (R74): the wait first, if it is still the wait that stood when the byte was tested, then the
armed record's orders. The first component says whether that wait still stands. -/
def handleHit (n : Node) (x : Bool × State) (h : Hit) : Bool × State :=
  let t := if h.waited ∧ x.1 then completeStep n x.2 else x.2
  let alive := x.1 && !h.waited
  if h.armed then
    let r := armedHit n h.index t
    (if h.waited then alive else x.1 && !r.1, r.2)
  else (alive, t)

/-- The window is tested and every hit is handled in ascending index (R73, R74). -/
def testWindow (n : Node) (s : State) : State :=
  ((List.finRange 8).filterMap (hitOf s n)).foldl (handleHit n) (true, s) |>.2

/-- A byte is handed to the match window (R72). -/
def windowByte (n : Node) (b : Byte) (s : State) : State :=
  testWindow n (s.updNode n fun c =>
    { c with window := (c.window ++ [b]).drop ((c.window.length + 1) - Config.windowBytes) })

/-! ## Receiving -/

/-- The open record after a byte with its error flags (R41, R43). -/
def OpenRec.place (o : Option OpenRec) (b : Byte) (framing parity : Bool) (now : Word32) : OpenRec :=
  let o := o.getD { timestamp := now, lastByte := now, flags := RecFlags.none, payload := [] }
  { o with
    lastByte := now, payload := o.payload ++ [b],
    flags := { o.flags with framing := o.flags.framing || framing, parity := o.flags.parity || parity } }

/-- The flags with which a byte closes the open record, none where it does not (R44). -/
def closeFlags (c : Settings) (o : OpenRec) (b : Byte) : Option RecFlags :=
  let line := c.lineMode && b == 0x0A
  let full := decide (c.recMax ≤ o.payload.length)
  if line || full then some { RecFlags.none with line := line, full := full } else none

/-- A byte is delivered (R40, R41): it is placed in the open record, an error latches CON_LINE_ERROR, the record closes if
the byte causes it to, and the byte goes to the match window. -/
def deliverByte (n : Node) (b : Byte) (framing parity : Bool) (s : State) : State :=
  let o := OpenRec.place (s.node n).rx.opened b framing parity s.timebase
  let t := s.updRx n fun r => { r with opened := some o }
  let t := if framing || parity then
      latch (.node n .conLineError) ((if framing then 1 else 0) + (if parity then 2 else 0)) t
    else t
  let t := match closeFlags (s.node n).rx.settings o b with
    | none => t
    | some f => closeOpen n f t
  windowByte n b t

/-- A break starts (R42). -/
def breakStarts (n : Node) (s : State) : State :=
  let t := closeOpen n { RecFlags.none with brk := true } (s.updRx n fun r => { r with inBreak := true })
  (latch (.node n .conBreakIn) ((t.node n).hist.next.toNat % 65536) t).updNode n fun c => { c with window := [] }

/-- A character arrives on a node's console (R40 to R42): in BREAK none is received; a framing error with data bits all
zero starts a break; a parity error counts only while the parity setting is EVEN or ODD. -/
def receiveChar (n : Node) (b : Byte) (framing parity : Bool) (s : State) : State :=
  let r := (s.node n).rx
  if r.inBreak then s
  else if framing ∧ b = 0 then breakStarts n s
  else deliverByte n b framing (parity && !decide (r.settings.parity = .none)) s

/-- The idle gap of the open record expires (R44). -/
def idleGapExpires (n : Node) (s : State) : State := closeOpen n { RecFlags.none with gap := true } s

end Sys2Proof.Machine
end

