-- ==== Sys2Proof/Machine/RequestsLink.lean ====
section
/-! DEFINITION. Requests on the link interface, the page pool and the event table (R18 to R20, R26 to R28, R35, R192,
R195), and the shapes of replies that all request files share (R8, R197). A request's meaning takes its payload,
whose length R196 has already accepted, and answers the state after it with its reply. -/

namespace Sys2Proof.Machine

open Sys2Proof

/-! ## Replies -/

/-- A request refused with a status: it has no effect on any state (R8). -/
def refused (st : Status) (s : State) : State × Option Reply := (s, some (Reply.refuse st))

/-- A request carried out, with its ADJUSTED flag and the fields of its reply. -/
def accepted (adjusted : Bool) (fields : List Byte) (s : State) : State × Option Reply := (s, some (Reply.okay adjusted fields))

/-- Whether a setting lies outside its range and is moved (section 1.5 of the scope). -/
def moved (lo hi v : Nat) : Bool := decide (clamp lo hi v ≠ v)

/-- A one-byte field that may have no value, which is then FFH (R197). -/
def orFF (v : Option Nat) : List Byte := [byteOf (v.getD 255)]

/-- A two-byte time left, FFFFH where there is none (R197). -/
def left2 (v : Option Nat) : List Byte := le 2 (v.getD 0xFFFF)

/-- A four-byte time left or line index, FFFFFFFFH where there is none (R197). -/
def left4 (v : Option Nat) : List Byte := le 4 (v.getD 0xFFFFFFFF)

/-- One byte of a reply as a list. -/
def byte1 (v : Nat) : List Byte := [byteOf v]

/-- An ON/OFF byte of a reply as a list. -/
def flag1 (b : Bool) : List Byte := [byteOfBool b]

/-- A list of fixed length whose unused entries are zero bytes (R197). -/
def padded (len : Nat) (bs : List Byte) : List Byte := (bs ++ List.replicate len 0).take len

/-! ## Link -/

/-- NOP (R18). -/
def nopRequest (s : State) : State × Option Reply := accepted false (le 4 s.timebase.toNat) s

/-- The six counts of the link error record in the order of R18. -/
def LinkErrors.fields (e : LinkErrors) : List Byte :=
  le 2 e.cutFrame ++ le 2 e.badLength ++ le 2 e.badCheck ++ le 2 e.overrun ++ le 2 e.badKind ++ le 2 e.answerLength

/-- PART_INFO (R18). -/
def partInfoRequest (s : State) : State × Option Reply :=
  accepted false
    ([Config.family, Config.revision] ++ byte1 4 ++ le 2 Config.poolPages ++ le 4 s.timebase.toNat ++ s.link.errors.fields) s

/-- The silence timeout a LINK_CONFIG brings into force (R19). -/
def silenceSetting (v : Nat) : Nat := if v = 0 then 0 else clamp 100 60000 v

/-- LINK_CONFIG (R19). -/
def linkConfigRequest (p : List Byte) (s : State) : State × Option Reply :=
  let silence := silenceSetting (u16 p 0)
  let threshold := clamp 1 3 (u8 p 2)
  accepted (decide (silence ≠ u16 p 0) || moved 1 3 (u8 p 2)) (le 2 silence ++ byte1 threshold)
    (s.updLink fun l => { l with silenceTimeout := silence, threshold := threshold })

/-- PART_RESET (R20): refused while any output is active; otherwise the reset waits for the end of its transaction, and no
reply is sent now. -/
def partResetRequest (tag : Byte) (s : State) : State × Option Reply :=
  if s.anyOutputActive then refused .busy s else (s.updLink fun l => { l with resetPending := some tag }, none)

/-! ## The page pool -/

/-- A ring gains pages as spare ones, from the free list and then from evicted lines (R27). -/
def gainPages (n : Node) : Nat → State → State
  | 0, s => s
  | k + 1, s =>
    if 0 < s.pool.free then
      gainPages n k ((s.updPool fun p => { p with free := p.free - 1 }).updHist n fun h => { h with spare := h.spare + 1 })
    else match evictLine s with
      | none => s
      | some t =>
        gainPages n k ((t.updPool fun p => { p with free := p.free + (Config.linePages - 1) }).updHist n fun h => { h with spare := h.spare + 1 })

/-- A ring gives up pages to the free list (R28). -/
def losePages (n : Node) : Nat → State → State
  | 0, s => s
  | k + 1, s => losePages n k ((giveUpPage n s).updPool fun p => { p with free := p.free + 1 })

/-- The pages R27 can supply: the free ones and eight for each unpinned VALID line. -/
def State.supply (s : State) : Nat := s.pool.free + Config.linePages * (s.cache.lines.filter Line.evictable).length

/-- POOL_CONFIG's settings come into force (R26 steps 4 and 5, R27, R28). -/
def setRing (n : Node) (reserve maximum : Nat) (s : State) : State :=
  let h := (s.node n).hist
  let t := gainPages n (reserve - h.holding) s
  let t := t.updHist n fun h => { h with reserve := reserve, maximum := maximum }
  let t := losePages n ((t.node n).hist.holding - maximum) t
  if s.pool.free < t.pool.free ∨ t.cache.lines.length < s.cache.lines.length ∨ maximum < h.holding ∨ reserve < h.reserve then
    retryWaiting t
  else t

/-- POOL_CONFIG (R26). -/
def poolConfigRequest (p : List Byte) (s : State) : State × Option Reply :=
  match nodeOf (u8 p 0) with
  | none => refused .badArg s
  | some n =>
    let reserve := clamp 4 64 (u16 p 1)
    let maximum := clamp reserve 256 (u16 p 3)
    let others := ((allNodes.filter (· ≠ n)).map fun m => (s.node m).hist.reserve).sum
    if Config.reserveSum < reserve + others then refused .badArg s
    else if s.supply < reserve - (s.node n).hist.holding then refused .noSpace s
    else
      let t := setRing n reserve maximum s
      accepted (moved 4 64 (u16 p 1) || moved reserve 256 (u16 p 3))
        (le 2 reserve ++ le 2 maximum ++ le 2 (t.node n).hist.holding ++ le 2 t.pool.free) t

/-- POOL_STATE (R35). -/
def poolStateRequest (s : State) : State × Option Reply :=
  accepted false
    (le 2 s.pool.free
      ++ (allNodes.map fun n =>
        le 2 (s.node n).hist.holding ++ le 2 (s.node n).hist.reserve ++ le 2 (s.node n).hist.maximum
          ++ byte1 (s.stagingPages n) ++ flag1 (s.node n).port.desc.isSome).flatten
      ++ byte1 s.cache.lines.length ++ byte1 s.pool.waiting.length) s

/-! ## Events -/

/-- Whether a source mask names an id from 52 to 63 (R192, R195). -/
def maskTooWide (mask : Nat) : Bool := decide (2 ^ 52 ≤ mask)

/-- The source records with their ids, in ascending id. -/
def EventTable.numbered (e : EventTable) : List (EventRec × Nat) := e.recs.toList.zipIdx

/-- The records after a level is given to the sources of a mask (R192). -/
def EventTable.setLevels (e : EventTable) (mask level : Nat) : EventTable :=
  { e with recs := e.recs.mapFinIdx fun i r _ => if mask.testBit i then { r with level := level } else r }

/-- EVENT_CONFIG (R192). -/
def eventConfigRequest (p : List Byte) (s : State) : State × Option Reply :=
  let mask := fieldAt p 0 8
  if maskTooWide mask then refused .badArg s
  else
    let t := { s with events := s.events.setLevels mask (clamp 0 3 (u8 p 8)) }
    accepted (moved 0 3 (u8 p 8)) (t.events.recs.toList.map fun r => byteOf r.level) t

/-- A record as EVENT_TAKE leaves it (R195). -/
def EventRec.taken (r : EventRec) : EventRec := { r with count := 0, lastDetail := 0, firstTime := none }

/-- The records after the pending sources of a mask are taken (R195). -/
def EventTable.take (e : EventTable) (mask : Nat) : EventTable :=
  { e with recs := e.recs.mapFinIdx fun i r _ => if mask.testBit i && decide (0 < r.count) then r.taken else r }

/-- An entry of an EVENT_TAKE reply (section 11.3). -/
def takeEntry (r : EventRec) (id : Nat) : List Byte :=
  byte1 id ++ byte1 r.level ++ byte1 r.count ++ le 2 r.lastDetail ++ le 4 (r.firstTime.getD 0).toNat

/-- The pending sources a mask selects at one level, in ascending id. -/
def EventTable.selected (e : EventTable) (mask level : Nat) : List (EventRec × Nat) :=
  e.numbered.filter fun x => mask.testBit x.2 && decide (0 < x.1.count) && x.1.level == level

/-- The entries of a take in their order: level 3 first, and within a level by id (R195). -/
def EventTable.entries (e : EventTable) (mask : Nat) : List (EventRec × Nat) :=
  ([3, 2, 1, 0].map fun level => e.selected mask level).flatten

/-- The summary-owed flag after a take (R195): cleared if no pending source is at or above the threshold; a flag left set
makes an offer. -/
def afterTake (s : State) : State :=
  if s.events.recs.toList.any fun r => decide (0 < r.count) && decide (s.link.threshold ≤ r.level) then offerSummary s
  else { s with events := { s.events with owed := false } }

/-- EVENT_TAKE (R195). -/
def eventTakeRequest (p : List Byte) (s : State) : State × Option Reply :=
  let mask := fieldAt p 0 8
  if maskTooWide mask then refused .badArg s
  else
    let es := s.events.entries mask
    let t := afterTake { s with events := s.events.take mask }
    accepted false (byte1 es.length ++ le 8 t.pendingMask ++ (es.map fun x => takeEntry x.1 x.2).flatten) t

end Sys2Proof.Machine
end

