-- ==== Sys2Proof/Machine/RequestsConsole.lean ====
section
/-! DEFINITION. Requests on console capture, history, injection and watching (R38, R39, R51 to R53, R62, R63, R65, R67,
R69 to R71). -/

namespace Sys2Proof.Machine

open Sys2Proof

/-! ## Capture and history -/

/-- CON_CONFIG's settings come into force with their effects (R39). A changed idle gap that has already passed expires at
the next increment; an expiry that is due at the present timebase value under a gap that is only repeated stays due
(DESIGN CHOICE, log entry 45). -/
def setConsole (n : Node) (c : Settings) (s : State) : State :=
  let old := (s.node n).rx.settings
  let t := s.updRx n fun r => { r with settings := c }
  let t := if c.idleGap ≠ old.idleGap then t.clearDue (.idleGap n) else t
  let t := if c.rate ≠ old.rate ∨ c.parity ≠ old.parity then appendMarker n 7 (c.rate + 256 * c.parity.num) t else t
  match (t.node n).rx.opened with
  | none => t
  | some o => if c.recMax ≤ o.payload.length then closeOpen n { RecFlags.none with full := true } t else t

/-- The seven settings as a reply carries them (section 11.3). -/
def Settings.fields (c : Settings) : List Byte :=
  byte1 c.rate ++ byte1 c.parity.num ++ byte1 c.recMax ++ le 2 c.idleGap ++ flag1 c.lineMode ++ flag1 c.echo ++ byte1 c.pacing

/-- CON_CONFIG (R38). -/
def conConfigRequest (p : List Byte) (s : State) : State × Option Reply :=
  match nodeOf (u8 p 0) with
  | none => refused .badArg s
  | some n =>
    match parityOf (u8 p 2), onOff (u8 p 6), onOff (u8 p 7) with
    | some parity, some lineMode, some echo =>
      if 7 < u8 p 1 then refused .badArg s
      else
        let c : Settings :=
          { rate := u8 p 1, parity := parity, recMax := clamp 16 240 (u8 p 3), idleGap := clamp 1 1000 (u16 p 4),
            lineMode := lineMode, echo := echo, pacing := clamp 0 50 (u8 p 8) }
        accepted (moved 16 240 (u8 p 3) || moved 1 1000 (u16 p 4) || moved 0 50 (u8 p 8)) c.fields (setConsole n c s)
    | _, _, _ => refused .badArg s

/-- The sequence number a HIST_READ starts at (R51). -/
def History.startAt (h : History) (q : Word32) : Word32 :=
  match h.classify q with
  | .inHistory => q
  | .before => h.oldest
  | .atOrAfter => h.next

/-- HIST_READ (R51, R52). -/
def histReadRequest (p : List Byte) (s : State) : State × Option Reply :=
  match nodeOf (u8 p 0) with
  | none => refused .badArg s
  | some n =>
    let h := (s.node n).hist
    let q := w32 p 1
    let start := h.startAt q
    let rs := if start = h.next then [] else takeRecords (clamp 0 512 (u16 p 5)) (h.from start)
    let after := start + BitVec.ofNat 32 rs.length
    let truncated := decide (h.classify q = .before)
    accepted (moved 0 512 (u16 p 5))
      (byte1 n ++ byte1 ((if truncated then 1 else 0) + (if after = h.next then 2 else 0)) ++ le 4 h.oldest.toNat
        ++ le 4 h.next.toNat ++ byte1 rs.length ++ le 4 after.toNat ++ (rs.map Rec.bytes).flatten) s

/-- The cursor a STREAM_SET with ON sets (R53). -/
def History.cursorFor (h : History) (q : Word32) : Word32 := h.startAt q

/-- The fields of a STREAM_SET reply (section 11.3). -/
def streamFields (s : State) (n : Node) : List Byte :=
  let h := (s.node n).hist
  flag1 h.streaming ++ le 4 h.cursor.toNat ++ le 4 h.oldest.toNat ++ le 4 h.next.toNat

/-- STREAM_SET (R53). -/
def streamSetRequest (p : List Byte) (s : State) : State × Option Reply :=
  match nodeOf (u8 p 0), onOff (u8 p 1) with
  | some n, some true =>
    let c := (s.node n).hist.cursorFor (w32 p 2)
    let t := streamOffer (s.updHist n fun h => { h with streaming := true, cursor := c })
    accepted (decide (c ≠ w32 p 2)) (streamFields t n) t
  | some n, some false =>
    let t := s.updHist n fun h => { h with streaming := false }
    accepted false (streamFields t n) t
  | _, _ => refused .badArg s

/-! ## Injection -/

/-- The checks CON_INJECT and CON_BREAK share and the append they allow (R62, R63). -/
def injectItems (n : Node) (adjusted : Bool) (items : List TxItem) (s : State) : State × Option Reply :=
  if (s.node n).lines.view ≠ .running then refused .badState s
  else if (s.node n).tx.freeItems < items.length then refused .full s
  else
    let t := appendItems n items s
    accepted adjusted (le 2 (t.node n).tx.fill) t

/-- CON_INJECT (R62). -/
def conInjectRequest (p : List Byte) (s : State) : State × Option Reply :=
  match nodeOf (u8 p 0) with
  | none => refused .badArg s
  | some n => injectItems n false (textItems (p.drop 1)) s

/-- CON_BREAK (R63). -/
def conBreakRequest (p : List Byte) (s : State) : State × Option Reply :=
  match nodeOf (u8 p 0) with
  | none => refused .badArg s
  | some n => injectItems n (moved 1 2000 (u16 p 1)) [.brk (clamp 1 2000 (u16 p 1))] s

/-- CON_FLUSH (R65). -/
def conFlushRequest (p : List Byte) (s : State) : State × Option Reply :=
  match nodeOf (u8 p 0) with
  | none => refused .badArg s
  | some n => accepted false (le 2 (s.node n).tx.fill) (flushOp n s)

/-- Whether a node's executor waits to send a text (R67). -/
def State.sendsText (s : State) (i : Fin 16) : Bool :=
  allNodes.any fun n => decide (s.waitingOn n .waitingQueue = some (.sendText i))

/-- TEXT_LOAD (R67). -/
def textLoadRequest (p : List Byte) (s : State) : State × Option Reply :=
  match indexOf 16 (u8 p 0) with
  | none => refused .badArg s
  | some i =>
    if s.sendsText i then refused .busy s
    else accepted false (byte1 i ++ byte1 (p.drop 1).length) { s with texts := s.texts.set i (p.drop 1) }

/-! ## Patterns -/

/-- The action of a PAT_LOAD (R69), none where it is refused. -/
def actionOf (code plan : Nat) : Option PatAction :=
  if code = 0 then some .none
  else if code = 1 then some .event
  else if code = 2 then (indexOf 16 plan).map PatAction.startPlan
  else none

/-- The pattern record a PAT_LOAD leaves (R69): empty without bytes; otherwise disarmed with hit count 0, its wildcard
flags beyond the length discarded. -/
def patternOf (fold rep : Bool) (a : PatAction) (wild : Nat) (bytes : List Byte) : Option Pattern :=
  if bytes = [] then none
  else some { bytes := bytes, wild := BitVec.ofNat 32 (wild % 2 ^ bytes.length), fold := fold, rep := rep, armed := false, action := a, hits := 0 }

/-- PAT_LOAD (R69). -/
def patLoadRequest (p : List Byte) (s : State) : State × Option Reply :=
  match nodeOf (u8 p 0), indexOf 8 (u8 p 1) with
  | some n, some i =>
    match onOff (u8 p 2), onOff (u8 p 3), actionOf (u8 p 4) (u8 p 5) with
    | some fold, some rep, some a =>
      if s.waitsOnPattern n i then refused .busy s
      else
        accepted false (byte1 i ++ byte1 (p.drop 10).length)
          (s.updNode n fun c => { c with patterns := c.patterns.set i (patternOf fold rep a (fieldAt p 6 4) (p.drop 10)) })
    | _, _, _ => refused .badArg s
  | _, _ => refused .badArg s

/-- PAT_ARM (R70). -/
def patArmRequest (p : List Byte) (s : State) : State × Option Reply :=
  match nodeOf (u8 p 0), indexOf 8 (u8 p 1), onOff (u8 p 2), onOff (u8 p 3) with
  | some n, some i, some arm, some zero =>
    match (s.node n).patterns[i] with
    | none => if arm then refused .badState s else accepted false (flag1 false ++ le 2 0) s
    | some q =>
      let hits := if zero then 0 else q.hits
      accepted false (flag1 arm ++ le 2 hits) (s.updPattern n i fun q => { q with armed := arm, hits := hits })
  | _, _, _, _ => refused .badArg s

/-- The plan index of an action. -/
def PatAction.plan : PatAction → Option Nat
  | .startPlan p => some (p : Nat)
  | _ => Option.none

/-- One record of a PAT_STATE reply (R71, section 11.3). -/
def patternFields (s : State) (n : Node) (i : Fin 8) : List Byte :=
  (match (s.node n).patterns[i] with
    | none => byte1 0 ++ flag1 false ++ byte1 0 ++ orFF none ++ flag1 false ++ le 2 0
    | some q => byte1 q.bytes.length ++ flag1 q.rep ++ byte1 q.action.num ++ orFF q.action.plan ++ flag1 q.armed ++ le 2 q.hits)
    ++ flag1 (s.waitsOnPattern n i)

/-- PAT_STATE (R71). -/
def patStateRequest (p : List Byte) (s : State) : State × Option Reply :=
  match nodeOf (u8 p 0) with
  | none => refused .badArg s
  | some n => accepted false (((List.finRange 8).map (patternFields s n)).flatten ++ byte1 (s.node n).window.length) s

end Sys2Proof.Machine
end

