-- ==== Sys2Proof/Machine/RequestsPower.lean ====
section
/-! DEFINITION. Requests on the control lines and on reboot plans (R81, R82, R84, R91, R95, R96, R110, R114, R118). -/

namespace Sys2Proof.Machine

open Sys2Proof

/-! ## Lines -/

/-- The number of a line (section 11.1). -/
def outNum (o : Output) : Nat := outIdx o

/-- The number of an input line (section 11.1). -/
def inNum : Input → Nat
  | .pgood => 4
  | .auxin => 5

/-- LINE_CONFIG for an output (R81). -/
def configOutput (n : Node) (o : Output) (openDrain activeHigh : Bool) (time : Nat) (s : State) : State × Option Reply :=
  if (s.output n o).active then refused .busy s
  else
    let t := s.updOutput n o fun l => { l with openDrain := openDrain, activeHigh := activeHigh }
    let settle := clamp 500 10000 time
    let t := if o = .cut then
        let u := t.updLines n fun u => { u with cutSettle := settle }
        if settle ≠ (s.node n).lines.cutSettle then u.clearDue (.cutSettle n) else u
      else t
    accepted (decide (o = .cut) && moved 500 10000 time)
      (byte1 (outNum o) ++ flag1 openDrain ++ flag1 activeHigh ++ le 2 (if o = .cut then settle else 0)
        ++ flag1 (t.output n o).active ++ byte1 (t.node n).lines.view.num) t

/-- An input's new configuration comes into force (R82): a logical level that changes is an accepted change. A candidate
whose new debounce time has already passed is accepted at the next increment; an expiry that is due at the present
timebase value under a debounce time that is only repeated stays due (DESIGN CHOICE, log entry 45). -/
def setInput (n : Node) (i : Input) (activeHigh : Bool) (debounce : Nat) (s : State) : State :=
  let old := (s.node n).lines.input i
  let t := s.updInput n i fun l => { l with activeHigh := activeHigh, debounce := debounce }
  let t := if debounce ≠ old.debounce then t.clearDue (.debounce n i) else t
  if activeHigh ≠ old.activeHigh then acceptedChange n i t else t

/-- LINE_CONFIG for an input (R81, R82). -/
def configInput (n : Node) (i : Input) (activeHigh : Bool) (time : Nat) (s : State) : State × Option Reply :=
  let t := setInput n i activeHigh (clamp 0 255 time) s
  accepted (moved 0 255 time)
    (byte1 (inNum i) ++ byte1 0 ++ flag1 activeHigh ++ le 2 (clamp 0 255 time) ++ flag1 ((t.node n).lines.input i).active
      ++ byte1 (t.node n).lines.view.num) t

/-- LINE_CONFIG (R81). -/
def lineConfigRequest (p : List Byte) (s : State) : State × Option Reply :=
  match nodeOf (u8 p 0), lineOf (u8 p 1) with
  | some n, some (.inl o) =>
    match onOff (u8 p 2), onOff (u8 p 3) with
    | some openDrain, some activeHigh => configOutput n o openDrain activeHigh (u16 p 4) s
    | _, _ => refused .badArg s
  | some n, some (.inr i) =>
    match onOff (u8 p 3) with
    | some activeHigh => configInput n i activeHigh (u16 p 4) s
    | none => refused .badArg s
  | _, _ => refused .badArg s

/-- The time left of an output's pulse. -/
def pulseLeft (s : State) (n : Node) (o : Output) : Option Nat := (s.output n o).pulse.map fun p => s.timeLeft p.start p.ms

/-- The fields of a LINE_SET reply (section 11.3). -/
def lineSetFields (s : State) (n : Node) (o : Output) : List Byte :=
  flag1 (s.output n o).active ++ byte1 (pulseSourceNum (s.output n o).pulse) ++ left2 (pulseLeft s n o)
    ++ byte1 (s.node n).lines.view.num

/-- The actions of LINE_SET (section 11.1). -/
inductive LineAction where
  | set (active : Bool)
  | pulse
  deriving DecidableEq, Repr

/-- The action field of LINE_SET. -/
def lineActionOf (v : Nat) : Option LineAction :=
  if v = 0 then some (.set false) else if v = 1 then some (.set true) else if v = 2 then some .pulse else none

/-- The drive action a LINE_SET makes (R84). -/
def lineSetOp (n : Node) (o : Output) (a : LineAction) (ms : Nat) (s : State) : State :=
  withView n (match a with
    | .set active => setLine n o active
    | .pulse => pulseLine n o .host (max 1 ms)) s

/-- LINE_SET (R84). -/
def lineSetRequest (p : List Byte) (s : State) : State × Option Reply :=
  match nodeOf (u8 p 0), lineOf (u8 p 1), lineActionOf (u8 p 2) with
  | some n, some (.inl o), some a =>
    if (s.node n).exec.run.isSome then refused .busy s
    else
      let t := lineSetOp n o a (u16 p 3) s
      accepted (decide (a = .pulse) && decide (u16 p 3 = 0)) (lineSetFields t n o) t
  | _, _, _ => refused .badArg s

/-- The fields of one output in a NODE_STATE reply (section 11.3). -/
def outputFields (s : State) (n : Node) (o : Output) : List Byte :=
  let l := s.output n o
  flag1 l.active ++ flag1 l.openDrain ++ flag1 l.activeHigh ++ byte1 (pulseSourceNum l.pulse) ++ left2 (pulseLeft s n o)

/-- The fields of one input in a NODE_STATE reply (section 11.3). -/
def inputFields (l : InLine) : List Byte :=
  flag1 l.accepted ++ flag1 l.active ++ flag1 l.activeHigh ++ byte1 l.debounce ++ flag1 l.candidate.isSome

/-- The number of a node's executor state (section 11.1). -/
def execNum (r : Option Run) : Nat :=
  match r with
  | none => 0
  | some r => r.state.num

/-- NODE_STATE (R91). -/
def nodeStateRequest (p : List Byte) (s : State) : State × Option Reply :=
  match nodeOf (u8 p 0) with
  | none => refused .badArg s
  | some n =>
    let u := (s.node n).lines
    let r := (s.node n).exec.run
    accepted false
      (byte1 u.view.num ++ (allOutputs.map (outputFields s n)).flatten ++ inputFields u.pgood ++ inputFields u.auxin
        ++ flag1 u.settleStart.isSome ++ left2 (u.settleStart.map fun t => s.timeLeft t u.cutSettle) ++ le 2 u.cutSettle
        ++ flag1 u.cutFault ++ byte1 (execNum r) ++ orFF (r.map fun r => (r.plan : Nat)) ++ flag1 (s.hostPulse n)
        ++ le 2 (s.node n).tx.fill) s

/-! ## Plans -/

/-- A GOTO target or ABORT of a step record (R95). -/
def onFailOf (count code target : Nat) : Option OnFail :=
  if code = 0 then some .abort
  else if code = 1 then (if target < count then some (.goto target) else none)
  else none

/-- The kind of a step record with its operands moved into range (R95, R96), none where it is refused. -/
def stepKindOf (kind a b value : Nat) : Option StepKind :=
  if kind = 1 then
    match lineOf a, onOff b with
    | some (.inl o), some active => some (.setLine o active)
    | _, _ => none
  else if kind = 2 then
    match lineOf a with
    | some (.inl o) => some (.pulseLine o (max 1 value))
    | _ => none
  else if kind = 3 then
    match lineOf a, onOff b with
    | some (.inr i), some active => some (.waitLine i active)
    | _, _ => none
  else if kind = 4 then (viewOf a).map StepKind.waitPower
  else if kind = 5 then (indexOf 8 a).map StepKind.waitMatch
  else if kind = 6 then some (.delay value)
  else if kind = 7 then some (.takeSlot (max 1 value))
  else if kind = 8 then (indexOf 16 a).map StepKind.sendText
  else if kind = 9 then some (.sendBreak (clamp 1 2000 value))
  else if kind = 10 then
    match lunOf a, onOff b with
    | some u, some reinsert => some (.media u reinsert)
    | _, _ => none
  else if kind = 11 then some (.notify value)
  else none

/-- Whether a step record's value is moved into range (R96). -/
def stepMoved (kind value : Nat) : Bool :=
  ((kind == 2 || kind == 7) && value == 0) || (kind == 9 && moved 1 2000 value)

/-- A step record of nine bytes (section 11.6), none where it is refused. -/
def stepOf (count : Nat) (d : List Byte) : Option PlanStep :=
  match stepKindOf (u8 d 0) (u8 d 1) (u8 d 2) (u16 d 5), onFailOf count (u8 d 3) (u8 d 4) with
  | some k, some f => some { kind := k, timeout := u16 d 7, onFail := f }
  | _, _ => none

/-- The step records of a PLAN_LOAD payload. -/
def stepBytes (p : List Byte) (count : Nat) : List (List Byte) := (List.range count).map fun i => bytesAt p (3 + 9 * i) 9

/-- Whether a plan is executing on any node (R93). -/
def State.executing (s : State) (i : Fin 16) : Bool :=
  allNodes.any fun n => decide (((s.node n).exec.run.map Run.plan) = some i)

/-- PLAN_LOAD (R95, R96). -/
def planLoadRequest (p : List Byte) (s : State) : State × Option Reply :=
  let count := u8 p 2
  match indexOf 16 (u8 p 0) with
  | none => refused .badArg s
  | some i =>
    if count = 0 ∨ 16 < count then refused .badArg s
    else match (stepBytes p count).mapM (stepOf count) with
      | none => refused .badArg s
      | some steps =>
        if s.executing i then refused .busy s
        else
          let priority := clamp 1 3 (u8 p 1)
          accepted (moved 1 3 (u8 p 1) || (stepBytes p count).any fun d => stepMoved (u8 d 0) (u16 d 5))
            (byte1 i ++ byte1 priority ++ byte1 count)
            { s with plans := s.plans.set i (some { priority := priority, steps := steps }) }

/-- The eight bytes of a last ending (section 11.3). -/
def endingFields : Option Ending → List Byte
  | none => [0xFF, 0, 0, 0, 0, 0, 0, 0]
  | some e => byte1 e.result.num ++ byte1 e.plan ++ byte1 e.step ++ [0] ++ le 4 e.time.toNat

/-- The steps started by the execution in progress. -/
def startedNum (r : Option Run) : Nat :=
  match r with
  | none => 0
  | some r => r.started

/-- The fields of a PLAN_START reply (R110, section 11.3). -/
def planStartFields (s : State) (n : Node) (plan : Fin 16) (preempted : Option (Fin 16)) : List Byte :=
  let r := (s.node n).exec.run
  byte1 n ++ byte1 plan ++ byte1 (execNum r) ++ orFF (r.map Run.step) ++ byte1 (startedNum r)
    ++ orFF (preempted.map fun i => (i : Nat)) ++ endingFields (s.node n).exec.last

/-- PLAN_START (R110). -/
def planStartRequest (p : List Byte) (s : State) : State × Option Reply :=
  match nodeOf (u8 p 0), indexOf 16 (u8 p 1) with
  | some n, some i =>
    match offerStart n i .host s with
    | .refused st => refused st s
    | .started t pre => accepted false (planStartFields t n i pre) t
  | _, _ => refused .badArg s

/-- An execution is aborted by the host (R114). -/
def abortOp (n : Node) (s : State) : State :=
  match (s.node n).exec.run with
  | none => s
  | some r => endExec n .aborted r.step s

/-- PLAN_ABORT (R114). -/
def planAbortRequest (p : List Byte) (s : State) : State × Option Reply :=
  match nodeOf (u8 p 0) with
  | none => refused .badArg s
  | some n => accepted false (endingFields ((abortOp n s).node n).exec.last) (abortOp n s)

/-- The time left of the current step (R118): of its pulse, of its delay, or before its timeout where one runs. -/
def stepLeft (s : State) (n : Node) : Option Nat :=
  match (s.node n).exec.run, s.currentStep n with
  | some r, some st =>
    match r.state, st.kind with
    | .pulsing, .pulseLine o _ => pulseLeft s n o
    | .delaying, .delay ms => some (s.timeLeft r.stepStart ms)
    | .runningStep, _ => none
    | _, _ => if st.timeout = 0 then none else some (s.timeLeft r.stepStart st.timeout)
  | _, _ => none

/-- A set of lines as bits (section 11.1). -/
def lineBits (t : Vector Bool 4) : Nat := (allOutputs.map fun o => if t[outIdx o] then 2 ^ outNum o else 0).sum

/-- The execution record as PLAN_STATE reports it (section 11.3). -/
def runFields (s : State) (n : Node) : List Byte :=
  match (s.node n).exec.run with
  | none => byte1 0 ++ orFF none ++ orFF none ++ orFF none ++ orFF none ++ orFF none ++ le 4 0 ++ left4 none ++ byte1 0 ++ byte1 0
  | some r =>
    byte1 r.state.num ++ byte1 r.plan ++ byte1 r.priority ++ byte1 r.origin.num ++ byte1 r.step
      ++ orFF ((s.currentStep n).map fun st => st.kind.num) ++ le 4 r.stepStart.toNat ++ left4 (stepLeft s n) ++ byte1 r.started
      ++ byte1 (lineBits r.touched)

/-- The arbiter as PLAN_STATE reports it (section 11.3). -/
def arbiterFields (s : State) : List Byte :=
  let a := s.arbiter
  byte1 a.count ++ byte1 a.holds.length
    ++ padded 20 ((a.holds.map fun h => byte1 h.node ++ left4 (some (s.timeLeft h.start h.ms))).flatten)
    ++ byte1 a.waiting.length ++ padded 12 ((a.waiting.map fun w => byte1 w.node ++ le 2 w.hold).flatten)

/-- PLAN_STATE (R118). -/
def planStateRequest (p : List Byte) (s : State) : State × Option Reply :=
  match nodeOf (u8 p 0) with
  | none => refused .badArg s
  | some n => accepted false (runFields s n ++ endingFields (s.node n).exec.last ++ arbiterFields s) s

/-- INRUSH_CONFIG (R118). -/
def inrushConfigRequest (p : List Byte) (s : State) : State × Option Reply :=
  if s.arbiter.holds ≠ [] ∨ s.arbiter.waiting ≠ [] then refused .busy s
  else
    let count := clamp 1 4 (u8 p 0)
    accepted (moved 1 4 (u8 p 0)) (byte1 count) (s.updArbiter fun a => { a with count := count })

end Sys2Proof.Machine
end

