-- ==== Sys2Proof/Machine/RequestsMedia.lean ====
section
/-! DEFINITION. Requests on the USB ports, the drives and the media cache (R121, R125, R142, R145 to R147, R181, R187,
R188), the four answers of the host (R166, R178, R179, R185), and the ends of fetches, writes and forwards. -/

namespace Sys2Proof.Machine

open Sys2Proof

/-! ## Ports -/

/-- PORT_CONFIG's settings come into force and the connect conditions are tested (R121). A connect timer that is due at the
present timebase value stays due under a delay that is only repeated, where another setting changes (DESIGN CHOICE, log
entry 45). -/
def setPort (n : Node) (enabled always : Bool) (delay : Nat) (fullSpeedOnly : Bool) (s : State) : State :=
  let t := s.updPort n fun p => { p with enabled := enabled, always := always, delay := delay, fullSpeedOnly := fullSpeedOnly }
  connectTest n (if delay ≠ (s.node n).port.delay then t.clearDue (.connect n) else t)

/-- PORT_CONFIG (R121). -/
def portConfigRequest (p : List Byte) (s : State) : State × Option Reply :=
  match nodeOf (u8 p 0), onOff (u8 p 1), onOff (u8 p 2), onOff (u8 p 5) with
  | some n, some enabled, some always, some fs =>
    let delay := clamp 0 10000 (u16 p 3)
    let t := setPort n enabled always delay fs s
    accepted (moved 0 10000 (u16 p 3))
      (flag1 enabled ++ flag1 always ++ le 2 delay ++ flag1 fs ++ byte1 (t.node n).port.state.num) t
  | _, _, _, _ => refused .badArg s

/-- A node obtains its descriptor page (R34): the one it holds, a free page, or one of an evicted line. -/
def obtainDescPage (n : Node) (s : State) : Option State :=
  if (s.node n).port.desc.isSome then some s
  else if 0 < s.pool.free then some (s.updPool fun p => { p with free := p.free - 1 })
  else (evictLine s).map (pagesJoin (Config.linePages - 1))

/-- DESC_LOAD (R125). -/
def descLoadRequest (p : List Byte) (s : State) : State × Option Reply :=
  match nodeOf (u8 p 0) with
  | none => refused .badArg s
  | some n =>
    if (s.node n).port.pullUp then refused .busy s
    else if (descOf p).ok then
      match obtainDescPage n s with
      | none => refused .noSpace s
      | some t =>
        let t := connectTest n (t.updPort n fun q => { q with desc := some (descOf p) })
        accepted false (byte1 (t.node n).port.state.num) t
    else refused .badArg s

/-- Bits of a list of flags, the first in bit 0. -/
def bitsOf : List Bool → Nat
  | [] => 0
  | b :: bs => (if b then 1 else 0) + 2 * bitsOf bs

/-- PORT_STATE (R142). -/
def portStateRequest (p : List Byte) (s : State) : State × Option Reply :=
  match nodeOf (u8 p 0) with
  | none => refused .badArg s
  | some n =>
    let q := (s.node n).port
    accepted false
      (byte1 q.state.num ++ orFF (q.remembered.map PortState.num) ++ flag1 q.enabled ++ flag1 q.always ++ le 2 q.delay
        ++ flag1 q.fullSpeedOnly ++ byte1 (bitsOf (connectConditions s n))
        ++ left2 (q.connectStart.map fun t => s.timeLeft t q.delay) ++ flag1 q.pullUp ++ flag1 q.high ++ byte1 q.address.toNat
        ++ orFF (q.pendingAddress.map BitVec.toNat) ++ flag1 q.configuration ++ byte1 (bitsOf [q.haltIn, q.haltOut])
        ++ byte1 (bitsOf [q.toggleIn, q.toggleOut]) ++ flag1 q.recovery ++ flag1 q.pendingIn.isSome
        ++ [(q.control.map fun c => c.setup.code).getD 0] ++ byte1 ((q.control.map fun c => c.stage.num).getD 0)
        ++ flag1 q.desc.isSome ++ byte1 (s.node n).ctx.phase.num) s

/-! ## Drives -/

/-- The tests of a DRIVE_INSERT (R145 steps 2 to 5), which give the image where all pass. -/
def imageOf (p : List Byte) : Option Image :=
  let size := fieldAt p 6 6
  let block := u16 p 12
  match onOff (u8 p 14) with
  | none => none
  | some writable =>
    if block ≠ 512 ∧ block ≠ 2048 then none
    else if writable ∧ block = 2048 then none
    else if size < block ∨ 2 ^ 32 < size / block then none
    else some { handle := w32 p 2, size := size, block := block, writable := writable }

/-- The state of a drive slot as a number (section 11.1). -/
def presentNum (d : Drive) : Bool := d.image.isSome

/-- DRIVE_INSERT (R145). -/
def driveInsertRequest (p : List Byte) (s : State) : State × Option Reply :=
  match nodeOf (u8 p 0), lunOf (u8 p 1), imageOf p with
  | some n, some u, some i =>
    let t := insertOp n u i s
    let d := t.drive n u
    accepted false (byte1 n ++ byte1 u ++ flag1 (presentNum d) ++ [d.generation] ++ le 5 d.capacity) t
  | _, _, _ => refused .badArg s

/-- DRIVE_EJECT (R146). -/
def driveEjectRequest (p : List Byte) (s : State) : State × Option Reply :=
  match nodeOf (u8 p 0), lunOf (u8 p 1) with
  | some n, some u =>
    let t := ejectOp n u s
    let d := t.drive n u
    accepted false (flag1 (presentNum d) ++ [d.generation] ++ flag1 d.remembered.isSome) t
  | _, _ => refused .badArg s

/-- The fields of an image, zero bytes where there is none (R197). -/
def imageFields : Option Image → List Byte
  | none => List.replicate 13 0
  | some i => le 4 i.handle.toNat ++ le 6 i.size ++ le 2 i.block ++ flag1 i.writable

/-- The fields of a pending sense, zero bytes where none is held (R197). -/
def senseFields : Option Sense → List Byte
  | none => [0, 0, 0]
  | some x => [x.key, x.code, x.qualifier]

/-- Whether a node's context holds a command on a LUN. -/
def State.holdsCommand (s : State) (n : Node) (u : Lun) : Bool := decide (((s.node n).ctx.command.map Command.lun) = some u)

/-- DRIVE_STATE (R147). -/
def driveStateRequest (p : List Byte) (s : State) : State × Option Reply :=
  match nodeOf (u8 p 0), lunOf (u8 p 1) with
  | some n, some u =>
    let d := s.drive n u
    accepted false
      (flag1 (presentNum d) ++ imageFields d.image ++ le 5 d.capacity ++ [d.generation] ++ flag1 d.unitAttention
        ++ flag1 d.sense.isSome ++ senseFields d.sense ++ flag1 d.remembered.isSome ++ imageFields d.remembered
        ++ le 2 d.blocksRead ++ le 2 d.hits ++ le 2 d.misses ++ flag1 (s.holdsCommand n u) ++ byte1 (s.node n).ctx.phase.num) s
  | _, _ => refused .badArg s

/-! ## The cache -/

/-- CACHE_DROP (R181). -/
def cacheDropRequest (p : List Byte) (s : State) : State × Option Reply :=
  match nodeOf (u8 p 0), lunOf (u8 p 1) with
  | some n, some u =>
    if (s.drive n u).image = none then refused .badState s
    else
      let t := cacheDropOp n u s
      accepted false [(t.drive n u).generation] t
  | _, _ => refused .badArg s

/-- Whether any drive slot is PRESENT (R187). -/
def State.anyPresent (s : State) : Bool := allNodes.any fun n => (s.drive n 0).image.isSome || (s.drive n 1).image.isSome

/-- CACHE_CONFIG (R187). -/
def cacheConfigRequest (p : List Byte) (s : State) : State × Option Reply :=
  if s.anyPresent then refused .badState s
  else
    let limit := clamp 0 96 (u8 p 0)
    let depth := clamp 0 4 (u8 p 1)
    let timeout := clamp 100 10000 (u16 p 2)
    accepted (moved 0 96 (u8 p 0) || moved 0 4 (u8 p 1) || moved 100 10000 (u16 p 2))
      (byte1 limit ++ byte1 depth ++ le 2 timeout)
      (s.updCache fun c => { c with limit := limit, depth := depth, timeout := timeout })

/-- A drive number (section 11.1). -/
def driveNum (n : Node) (u : Lun) : Nat := 2 * n + u

/-- The chunk flags of a line as bits (section 11.3). -/
def Line.chunkBits (l : Line) : Nat := bitsOf (l.chunks.toList.map Option.isSome)

/-- Whether a line is pinned (R173). -/
def Line.pinned (l : Line) : Bool := !decide (l.state = .valid) || decide (0 < l.pins)

/-- The time left of an occupied fetch slot. -/
def slotLeft (s : State) : SlotUse → Option Nat
  | .offered start ms => some (s.timeLeft start ms)
  | .sent start ms => some (s.timeLeft start ms)
  | _ => none

/-- One fetch slot of a CACHE_STATE reply (R188, section 11.3). -/
def slotFields (s : State) (i : Fin 16) : List Byte :=
  let x := s.cache.slots[i]
  byte1 x.use.num ++ [x.ticket] ++
    (match s.slotLine i with
      | none => orFF none ++ left4 none ++ byte1 0
      | some l => byte1 (driveNum l.node l.lun) ++ le 4 l.index ++ byte1 l.chunkBits)
    ++ left2 (slotLeft s x.use)

/-- One write entry of a CACHE_STATE reply (R188, section 11.3). -/
def entryFields (s : State) (e : WriteEntry) : List Byte :=
  match e.use with
  | none => byte1 0 ++ [e.ticket] ++ orFF none ++ le 4 0 ++ byte1 0 ++ left2 none
  | some w =>
    byte1 (if w.sent then 2 else 1) ++ [e.ticket] ++ byte1 (driveNum w.node w.lun) ++ le 4 (w.offset / 512) ++ flag1 w.cancelled
      ++ left2 (some (s.timeLeft w.start w.timeout))

/-- The number of lines a test picks. -/
def State.countLines (s : State) (p : Line → Bool) : Nat := (s.cache.lines.filter p).length

/-- Whether a line is FETCHING. -/
def Line.isFetching (l : Line) : Bool :=
  match l.state with
  | .fetching _ => true
  | _ => false

/-- Whether a line is DOOMED. -/
def Line.isDoomed (l : Line) : Bool :=
  match l.state with
  | .doomed _ => true
  | _ => false

/-- CACHE_STATE (R188). -/
def cacheStateRequest (s : State) : State × Option Reply :=
  let c := s.cache
  accepted false
    (byte1 c.limit ++ byte1 c.depth ++ le 2 c.timeout
      ++ byte1 (s.countLines Line.isFetching) ++ byte1 (s.countLines fun l => decide (l.state = .valid))
      ++ byte1 (s.countLines Line.isDoomed) ++ byte1 (s.countLines Line.pinned)
      ++ (allSlots.map (slotFields s)).flatten ++ padded 4 (c.slotWait.map fun w => byteOf w.node)
      ++ (c.writes.toList.map (entryFields s)).flatten
      ++ (allNodes.map fun n => left4 (s.drive n 0).lastRead ++ left4 (s.drive n 1).lastRead).flatten) s

/-! ## Fetches -/

/-- FETCH_DATA (R178). -/
def fetchDataAnswer (p : List Byte) (s : State) : State :=
  match fetchCurrent s (u8 p 0) (u8 p 1) (u8 p 2) with
  | none => staleAnswer 0x60 s
  | some (i, l) =>
    let len := (s.drive l.node l.lun).lineLength l.index
    let data := p.drop 4
    match indexOf 8 (u8 p 3) with
    | none => fetchFails i .badChunk senseRead s
    | some k =>
      if chunkCount len ≤ k ∨ data.length ≠ chunkLength len k then fetchFails i .badChunk senseRead s
      else if l.chunks[k].isSome then s
      else storeChunk i k data s

/-- FETCH_FAIL (R179): the reason is GONE when 2 and READ_ERROR for any other value (R196). -/
def fetchFailAnswer (p : List Byte) (s : State) : State :=
  match fetchCurrent s (u8 p 0) (u8 p 1) (u8 p 2) with
  | none => staleAnswer 0x61 s
  | some (i, _) => fetchFails i (if u8 p 3 = 2 then .fetchGone else .fetchReadError) senseRead s

/-- A fetch slot's timeout expires (R179). -/
def fetchExpires (i : Fin 16) (s : State) : State := fetchFails i .fetchTimeout senseRead s

/-- A read on the slot-wait list has waited for the fetch timeout (R176). -/
def slotWaitExpires (n : Node) (s : State) : State :=
  mediaError n .fetchTimeout (s.cmdLun n) (failRead n senseRead (leaveLists n s))

/-- A waiting allocation has waited for the fetch timeout (R31, R176). -/
def allocationExpires (n : Node) (s : State) : State :=
  mediaError n .fetchTimeout (s.cmdLun n) (failRead n senseRead (leaveLists n s))

/-! ## Writes -/

/-- A write entry ends in failure (R185): MEDIA_ERROR is latched, and a command that owns the entry fails with 03/0C/00. -/
def entryFails (i : Fin 32) (w : WriteUse) (c : MediaCause) (s : State) : State :=
  let t := mediaError w.node c w.lun (endEntry i s)
  if w.cancelled then t else checkAwait w.node (failWrite w.node senseWrite t)

/-- A write entry is answered OK (R185): a command that owns it may have been waiting for it alone (R161). -/
def entryPasses (i : Fin 32) (w : WriteUse) (s : State) : State :=
  if w.cancelled then endEntry i s else checkAwait w.node (endEntry i s)

/-- WRITE_DONE (R185). -/
def writeDoneAnswer (p : List Byte) (s : State) : State :=
  match indexOf 32 (u8 p 0) with
  | none => staleAnswer 0x62 s
  | some i =>
    match s.cache.writes[i].use with
    | none => staleAnswer 0x62 s
    | some w =>
      if w.sent ∧ s.cache.writes[i].ticket.toNat = u8 p 1 then
        if u8 p 2 = 0 then entryPasses i w s else entryFails i w .writeFailed s
      else staleAnswer 0x62 s

/-- A write entry's timeout expires (R185). -/
def entryExpires (i : Fin 32) (s : State) : State :=
  match s.cache.writes[i].use with
  | none => s
  | some w => entryFails i w .writeTimeout s

/-! ## Forwards -/

/-- FWD_RESULT (R166). -/
def fwdResultAnswer (p : List Byte) (s : State) : State :=
  match nodeOf (u8 p 0) with
  | none => staleAnswer 0x63 s
  | some n =>
    let x := (s.node n).ctx
    if x.fwdState = .sent ∧ x.fwdTicket.toNat = u8 p 1 then
      endForward n
        (if u8 p 2 = 0 then .passed else .failed { key := p.getD 3 0, code := p.getD 4 0, qualifier := p.getD 5 0 })
        (p.drop 6) s
    else staleAnswer 0x63 s

/-- A forward's timeout expires (R167). -/
def forwardExpires (n : Node) (s : State) : State :=
  mediaError n .fwdTimeout (s.cmdLun n) (failForward n senseNotReady s)

end Sys2Proof.Machine
end

