-- ==== Sys2Proof/Machine/Link.lean ====
section
/-! DEFINITION. The management link: the lengths and the dispatch of requests and answers (R7, R196), the taking of a
frame (R7, R8, R17), inbound assembly (R4, R5), the two link states (R16, R17) and the two resets (R20, R21). -/

namespace Sys2Proof.Machine

open Sys2Proof

/-! ## Lengths and dispatch -/

/-- Whether a payload length is one that the request table allows for a kind (R196); none for a kind the table does not
assign. -/
def requestLength (kind : Nat) (p : List Byte) : Option Bool :=
  let k := p.length
  match kind with
  | 0x01 => some (k == 0)
  | 0x02 => some (k == 0)
  | 0x03 => some (k == 3)
  | 0x04 => some (k == 0)
  | 0x08 => some (k == 5)
  | 0x09 => some (k == 0)
  | 0x10 => some (k == 9)
  | 0x11 => some (k == 7)
  | 0x12 => some (k == 6)
  | 0x13 => some (decide (2 ≤ k) && decide (k ≤ 257))
  | 0x14 => some (k == 3)
  | 0x15 => some (k == 1)
  | 0x16 => some (decide (1 ≤ k) && decide (k ≤ 33))
  | 0x17 => some (decide (10 ≤ k) && decide (k ≤ 42))
  | 0x18 => some (k == 4)
  | 0x19 => some (k == 1)
  | 0x20 => some (k == 6)
  | 0x21 => some (k == 5)
  | 0x22 => some (k == 1)
  | 0x28 => some (decide (3 ≤ k) && k == 3 + 9 * u8 p 2)
  | 0x29 => some (k == 2)
  | 0x2A => some (k == 1)
  | 0x2B => some (k == 1)
  | 0x2C => some (k == 1)
  | 0x30 => some (k == 6)
  | 0x31 => some (decide (9 ≤ k) && k == 9 + ((bytesAt p 1 8).map BitVec.toNat).sum)
  | 0x32 => some (k == 1)
  | 0x38 => some (k == 15)
  | 0x39 => some (k == 2)
  | 0x3A => some (k == 2)
  | 0x3B => some (k == 4)
  | 0x3C => some (k == 2)
  | 0x3D => some (k == 0)
  | 0x40 => some (k == 9)
  | 0x41 => some (k == 8)
  | _ => none

/-- Whether an answer's payload length lies in the range of its kind (section 11.4). -/
def answerLengthOk (kind : Nat) (p : List Byte) : Bool :=
  match kind with
  | 0x60 => decide (5 ≤ p.length) && decide (p.length ≤ 516)
  | 0x61 => p.length == 4
  | 0x62 => p.length == 3
  | _ => decide (6 ≤ p.length) && decide (p.length ≤ 518)

/-- Carry out a request of an assigned kind whose length is accepted (section 11.3). -/
def runRequest (kind : Nat) (tag : Byte) (p : List Byte) (s : State) : State × Option Reply :=
  match kind with
  | 0x01 => nopRequest s
  | 0x02 => partInfoRequest s
  | 0x03 => linkConfigRequest p s
  | 0x04 => partResetRequest tag s
  | 0x08 => poolConfigRequest p s
  | 0x09 => poolStateRequest s
  | 0x10 => conConfigRequest p s
  | 0x11 => histReadRequest p s
  | 0x12 => streamSetRequest p s
  | 0x13 => conInjectRequest p s
  | 0x14 => conBreakRequest p s
  | 0x15 => conFlushRequest p s
  | 0x16 => textLoadRequest p s
  | 0x17 => patLoadRequest p s
  | 0x18 => patArmRequest p s
  | 0x19 => patStateRequest p s
  | 0x20 => lineConfigRequest p s
  | 0x21 => lineSetRequest p s
  | 0x22 => nodeStateRequest p s
  | 0x28 => planLoadRequest p s
  | 0x29 => planStartRequest p s
  | 0x2A => planAbortRequest p s
  | 0x2B => planStateRequest p s
  | 0x2C => inrushConfigRequest p s
  | 0x30 => portConfigRequest p s
  | 0x31 => descLoadRequest p s
  | 0x32 => portStateRequest p s
  | 0x38 => driveInsertRequest p s
  | 0x39 => driveEjectRequest p s
  | 0x3A => driveStateRequest p s
  | 0x3B => cacheConfigRequest p s
  | 0x3C => cacheDropRequest p s
  | 0x3D => cacheStateRequest s
  | 0x40 => eventConfigRequest p s
  | 0x41 => eventTakeRequest p s
  | _ => (s, none)

/-- Hand an answer to the block that owns its ticket (R7). -/
def runAnswer (kind : Nat) (p : List Byte) (s : State) : State :=
  match kind with
  | 0x60 => fetchDataAnswer p s
  | 0x61 => fetchFailAnswer p s
  | 0x62 => writeDoneAnswer p s
  | _ => fwdResultAnswer p s

/-- Queue a reply if there is one. -/
def replyTo (kind tag : Byte) (x : State × Option Reply) : State :=
  match x.2 with
  | none => x.1
  | some r => x.1.enqueueReply kind tag r

/-- A taken frame is disposed of by its kind (R7). -/
def dispose (kind tag : Byte) (p : List Byte) (s : State) : State :=
  if 0x64 ≤ kind.toNat then discardFrame .badKind s
  else if 0x60 ≤ kind.toNat then
    (if answerLengthOk kind.toNat p then runAnswer kind.toNat p s else discardFrame .answerLength s)
  else if s.freeEntries = 0 then discardFrame .overrun s
  else match requestLength kind.toNat p with
    | none => s.enqueueReply kind tag (Reply.refuse .unknownKind)
    | some false => s.enqueueReply kind tag (Reply.refuse .badLength)
    | some true => replyTo kind tag (runRequest kind.toNat tag p s)

/-! ## Taking a frame -/

/-- The offers a departure and a return to ONLINE make, in the order of R10. -/
def offersInOrder (s : State) : State :=
  let t := offerSummary s
  streamOffer (offerWaiting t.link.waiting t)

/-- The whole seconds spent in AUTONOMOUS, saturating at 65535 (R17). -/
def secondsAway (s : State) : Nat := min 65535 (s.link.autonomousMs / 1000)

/-- A frame is taken (R7, R17): the silence timer restarts; a link that was AUTONOMOUS returns to ONLINE and latches
LINK_RESUMED; the frame is disposed of; and after a return the waiting notices are offered. -/
def takeFrame (kind tag : Byte) (p : List Byte) (s : State) : State :=
  let t := s.updLink fun l => { l with silenceStart := s.timebase }
  if s.link.online = .autonomous then
    let t := latch .linkResumed (secondsAway s) (t.updLink fun l => { l with online := .online, held := true, autonomousMs := 0 })
    offersInOrder ((dispose kind tag p t).updLink fun l => { l with held := false })
  else dispose kind tag p t

/-! ## Inbound assembly -/

/-- Set the state of the inbound assembly. -/
def setInbound (x : Inbound) (s : State) : State := s.updLink fun l => { l with inbound := x }

/-- The assembly after a whole header (R4). -/
def afterHeader (kind tag : Byte) (len : Nat) (s : State) : State :=
  if Config.maxPayload < len then discardFrame .badLength (setInbound .ignore s)
  else setInbound (if len = 0 then .check kind tag [] [] else .body kind tag len []) s

/-- A byte arrives on MOSI in a transaction the part takes part in (R4). -/
def byteIn (s : State) (b : Byte) : State :=
  match s.link.inbound with
  | .ignore => s
  | .header [] => setInbound (if b = 0 then .ignore else .header [b]) s
  | .header [k] => setInbound (.header [k, b]) s
  | .header [k, t] => setInbound (.header [k, t, b]) s
  | .header (k :: t :: lo :: _) => afterHeader k t (lo.toNat + 256 * b.toNat) s
  | .body k t left p => setInbound (if left = 1 then .check k t (p ++ [b]) [] else .body k t (left - 1) (p ++ [b])) s
  | .check k t p [] => setInbound (.check k t p [b]) s
  | .check k t p (lo :: _) =>
    if lo.toNat + 256 * b.toNat = (crc (headerBytes k t p.length ++ p)).toNat then takeFrame k t p (setInbound .ignore s)
    else discardFrame .badCheck (setInbound .ignore s)

/-- Bytes arrive one after another (R4); outside a transaction the part takes part in, none is heard (R1, R21). -/
def feed (bs : List Byte) (s : State) : State := if s.link.txn = .active then bs.foldl byteIn s else s

/-! ## Link states -/

/-- The first_seq of the earliest removed CON_DATA frame of a node (R56). The earliest is the one that stands first in the
queue, also where a STREAM_SET moved the cursor back between two of them and a later frame has a lower first_seq
(DESIGN CHOICE, log entry 51). -/
def firstRemoved (q : List Frame) (n : Node) : Option Word32 :=
  (q.find? fun f => f.kind == 0xE1 && u8 f.payload 0 == n).map fun f => w32 f.payload 1

/-- A node's cursor is set back over the CON_DATA frames removed from the queue (R56). -/
def setBackCursor (q : List Frame) (s : State) (n : Node) : State :=
  let h := (s.node n).hist
  match firstRemoved q n with
  | none => s
  | some first =>
    if h.cursor = first ∨ 2 ^ 31 ≤ (h.cursor - first).toNat then s
    else match h.classify first with
      | .inHistory => s.updHist n fun h => { h with cursor := first }
      | .before =>
        let t := s.updHist n fun h => { h with cursor := h.oldest }
        if h.streaming then latch (.node n .streamGap) (min 65535 (h.oldest - first).toNat) t else t
      | .atOrAfter => s

/-- The nodes whose reads wait on the slot-wait list or the pool's waiting list. -/
def State.waitingReads (s : State) : List Node := (s.cache.slotWait ++ s.pool.waiting).map Waiter.node

/-- Whether a fetch slot is occupied (R175). -/
def State.occupied (s : State) (i : Fin 16) : Bool :=
  match s.cache.slots[i].use with
  | .offered _ _ => true
  | .sent _ _ => true
  | _ => false

/-- A write entry is lost with the link (R186). -/
def entryLost (s : State) (i : Fin 32) : State :=
  match s.cache.writes[i].use with
  | none => s
  | some w => mediaError w.node .writeLost w.lun (endEntry i s)

/-- Whether a node's command owns a write entry. -/
def State.ownsEntries (s : State) (n : Node) : Bool := (s.ownedEntries n fun _ => true) ≠ []

/-- A fetch slot that was RESERVED becomes FREE (R175). -/
def FetchSlot.release (x : FetchSlot) : FetchSlot :=
  match x.use with
  | .reserved _ => { x with use := .free }
  | _ => x

/-- Every read leaves the slot-wait list and the pool's waiting list, and every RESERVED slot becomes FREE (R186). -/
def emptyLists (s : State) : State :=
  (s.updCache fun c => { c with slotWait := [], slots := c.slots.map FetchSlot.release }).updPool fun p => { p with waiting := [] }

/-- What the media cache and the forwards lose when the link enters AUTONOMOUS (R167, R186). The waiting lists are emptied
first, so that no page or slot freed here passes to a read that is about to fail (log entry 9). -/
def loseHostWork (s : State) : State :=
  let t := s.waitingReads.foldl (fun t n => failRead n senseNotReady t) (emptyLists s)
  let t := (allSlots.filter t.occupied).foldl (fun t i => fetchFails i .fetchLost senseNotReady t) t
  let writers := allNodes.filter t.ownsEntries
  let t := allEntries.foldl entryLost t
  let t := writers.foldl (fun t n => checkAwait n (failWrite n senseNotReady t)) t
  allNodes.foldl (fun t n => if (t.node n).ctx.fwdState ≠ .none then failForward n senseNotReady t else t) t

/-- The silence timer expires and the link enters AUTONOMOUS (R16, R56, R186, R194). -/
def silenceExpires (s : State) : State :=
  let q := s.link.queue
  let t := s.updLink fun l => { l with online := .autonomous, queue := [], shifting := false, autonomousMs := 0 }
  let t := { t with events := { t.events with owed := t.events.owed || q.any fun f => f.kind == 0xE5 } }
  loseHostWork (allNodes.foldl (setBackCursor q) t)

/-- The head frame has been shifted out completely and leaves the queue; the waiting notices are offered (R10, R11). -/
def headLeaves (s : State) : State :=
  if s.link.txn = .active ∧ s.link.shifting = true then
    offersInOrder (s.updLink fun l => { l with queue := l.queue.drop 1, shifting := false })
  else s

/-! ## Resets -/

/-- A part reset with its reason (R21): every block takes its reset state, the input pins are sampled (R80), and the
commands that wait for the part go on waiting. -/
def partReset (reason : Byte) (txn : Txn) (s : State) : State :=
  { State.reset with
    pending := s.pending,
    link := { Link.reset reason with txn := txn },
    nodes := s.nodes.map fun c => NodeState.reset c.lines.pgood.pin c.lines.auxin.pin }

/-- The end of a transaction after an accepted PART_RESET (R20): the reset is carried out unless an output has become
active; then a BUSY reply is queued if the link is ONLINE. -/
def finishReset (tag : Byte) (s : State) : State :=
  if s.anyOutputActive then
    let t := s.updLink fun l => { l with resetPending := none }
    if t.link.online = .online then t.enqueueReply 0x04 tag (Reply.refuse .busy) else t
  else partReset 1 .idle s

/-- CSN rises (R4, R11, R20): an incomplete frame is discarded with CUT_FRAME, and a waiting PART_RESET is carried out or
refused. -/
def csnRises (s : State) : State :=
  let cut : Bool := match s.link.inbound with
    | .ignore => false
    | .header held => !held.isEmpty
    | .body _ _ _ _ => true
    | .check _ _ _ _ => true
  let t := if cut then discardFrame .cutFrame s else s
  let t := t.updLink fun l => { l with txn := .idle, inbound := .ignore, shifting := false }
  match t.link.resetPending with
  | none => t
  | some tag => finishReset tag t

/-- A transaction ends after its last bytes (R1, R4, R21). -/
def endTransaction (tail : List Byte) (s : State) : State :=
  match s.link.txn with
  | .idle => s
  | .ignored => s.updLink fun l => { l with txn := .idle }
  | .active => csnRises (feed tail s)

/-- CSN falls (R1, R4, R11, R21). -/
def startTransaction (s : State) : State :=
  match s.link.txn with
  | .idle =>
    if s.porst then s.updLink fun l => { l with txn := .ignored }
    else s.updLink fun l => { l with txn := .active, inbound := .header [], shifting := !l.queue.isEmpty }
  | _ => s

end Sys2Proof.Machine
end

