-- ==== Sys2Proof/Machine/Timers.lean ====
section
/-! DEFINITION. Time: the timers that have expired at a timebase value, the carrying out of an expiry, and the timebase
increment (R14). -/

namespace Sys2Proof.Machine

open Sys2Proof

/-- Whether a duration that began at a timebase value has passed (R14). -/
def State.passed (s : State) (start : Word32) (ms : Nat) : Bool := decide (ms ≤ s.elapsed start)

/-- Whether a duration that may not be running has passed. -/
def State.passedIf (s : State) (start : Option Word32) (ms : Nat) : Bool :=
  match start with
  | none => false
  | some t => s.passed t ms

/-- Whether a node's current step waits with a timeout that has passed (R101). -/
def stepOver (s : State) (n : Node) : Bool :=
  match (s.node n).exec.run, s.currentStep n with
  | some r, some st =>
    (match r.state with
      | .waitingLine => true
      | .waitingPower => true
      | .waitingMatch => true
      | .waitingSlot => true
      | .waitingQueue => true
      | _ => false) && decide (0 < st.timeout) && s.passed r.stepStart st.timeout
  | _, _ => false

/-- Whether a node's DELAY step has run its time (R107). -/
def delayOver (s : State) (n : Node) : Bool :=
  match (s.node n).exec.run, s.currentStep n with
  | some r, some st =>
    match r.state, st.kind with
    | .delaying, .delay ms => s.passed r.stepStart ms
    | _, _ => false
  | _, _ => false

/-- Whether a port watches the bus for 3 ms of idleness (R129). -/
def Port.watchesIdle (p : Port) : Bool :=
  (match p.state with
    | .defaulted => true
    | .addressed => true
    | .configured => true
    | _ => false) && p.resetSeen

/-- Whether a fetch slot's timeout has passed (R177). -/
def slotOver (s : State) (i : Fin 16) : Bool :=
  match s.cache.slots[i].use with
  | .offered start ms => s.passed start ms
  | .sent start ms => s.passed start ms
  | _ => false

/-- Whether a timer runs and its duration has passed (R14). -/
def expired (s : State) (t : Timer) : Bool :=
  match t with
  | .silence =>
    decide (s.link.online = .online) && decide (0 < s.link.silenceTimeout) && s.passed s.link.silenceStart s.link.silenceTimeout
  | .allocationWait n => s.pool.waiting.any fun w => decide (w.node = n) && s.passed w.start w.timeout
  | .idleGap n =>
    match (s.node n).rx.opened with
    | none => false
    | some o => s.passed o.lastByte (s.node n).rx.settings.idleGap
  | .breakSent n =>
    match (s.node n).tx.inProgress with
    | some ⟨.brk ms, start, _, _⟩ => s.passed start ms
    | _ => false
  | .debounce n i => s.passedIf ((s.node n).lines.input i).candidate ((s.node n).lines.input i).debounce
  | .pulse n o =>
    match (s.output n o).pulse with
    | none => false
    | some p => s.passed p.start p.ms
  | .cutSettle n => s.passedIf (s.node n).lines.settleStart (s.node n).lines.cutSettle
  | .step n => stepOver s n
  | .delay n => delayOver s n
  | .slotHold n => s.arbiter.holds.any fun h => h.over s n
  | .connect n =>
    decide ((s.node n).port.state = .connecting) && s.passedIf (s.node n).port.connectStart (s.node n).port.delay
  | .suspend n => (s.node n).port.watchesIdle && s.passed (s.node n).port.idleSince Config.suspendMs
  | .forward n => decide ((s.node n).ctx.fwdState ≠ .none) && s.passed (s.node n).ctx.fwdStart (s.node n).ctx.fwdTimeout
  | .slotWait n => s.cache.slotWait.any fun w => decide (w.node = n) && s.passed w.start w.timeout
  | .fetch i => slotOver s i
  | .write i =>
    match s.cache.writes[i].use with
    | none => false
    | some w => s.passed w.start w.timeout

/-- What the expiry of a timer does. -/
def onExpiry (t : Timer) (s : State) : State :=
  match t with
  | .silence => silenceExpires s
  | .allocationWait n => allocationExpires n s
  | .idleGap n => idleGapExpires n s
  | .breakSent n => breakExpires n s
  | .debounce n i => debounceExpires n i s
  | .pulse n o => pulseExpires n o s
  | .cutSettle n => cutSettleExpires n s
  | .step n => failStep n s
  | .delay n => completeStep n s
  | .slotHold n => holdExpires n s
  | .connect n => connectExpires n s
  | .suspend n => suspendExpires n s
  | .forward n => forwardExpires n s
  | .slotWait n => slotWaitExpires n s
  | .fetch i => fetchExpires i s
  | .write i => entryExpires i s

/-- Whether a timer was found expired at the last increment, has not been carried out since, and still stands expired. -/
def State.isDue (s : State) (t : Timer) : Bool := decide (t ∈ s.due) && expired s t

/-- Carry out the expiry of a timer that is due; a timer that is not due does not expire. -/
def fire (t : Timer) (s : State) : State := if s.isDue t then onExpiry t { s with due := s.due.erase t } else s

/-- The timers of one node, in the order in which an increment finds them; one for each hold that has run its time. -/
def nodeTimers (s : State) (n : Node) : List Timer :=
  [.idleGap n, .breakSent n, .debounce n .pgood, .debounce n .auxin] ++ allOutputs.map (.pulse n) ++ [.cutSettle n, .step n, .delay n]
    ++ List.replicate (s.arbiter.holds.filter fun h => h.over s n).length (.slotHold n)
    ++ [.connect n, .suspend n, .forward n, .slotWait n, .allocationWait n]

/-- Every timer of the part. -/
def allTimers (s : State) : List Timer :=
  (allNodes.map (nodeTimers s)).flatten ++ allSlots.map Timer.fetch ++ allEntries.map Timer.write ++ [.silence]

/-- The timers that have expired at the present timebase value. -/
def State.nowDue (s : State) : List Timer := (allTimers s).filter (expired s)

/-- Everything the present timebase value still owes is carried out before it passes: the expiries found at the last
increment, and the beginnings of the TX items whose gaps are over (R59). -/
def settle (s : State) : State :=
  let t := s.due.foldl (fun t x => fire x t) s
  allNodes.foldl (fun t n => beginItem n t) t

/-- The count of milliseconds in AUTONOMOUS, held where its seconds saturate (R17). -/
def Link.tick (l : Link) : Link :=
  if l.online = .autonomous then { l with autonomousMs := min 65535000 (l.autonomousMs + 1) } else l

/-- The timebase increases by one (R14), and the timers that have expired at the new value become due. -/
def tick (s : State) : State :=
  let t := settle s
  let t := { t with timebase := t.timebase + 1, link := t.link.tick }
  { t with due := t.nowDue }

end Sys2Proof.Machine
end

