-- ==== Sys2Proof/Machine/LinkCommands.lean ====
section
/-! DEFINITION. The meanings of the commands of the management link (Chapter 1), one for each row of the table. -/

namespace Sys2Proof.Machine

open Sys2Proof

/-- An effect on a part whose PORST is not asserted; while it is asserted nothing acts on the part (R21). -/
def live (f : State → State) (s : State) : Host.Outcome State Fault Refusal := .next (if s.porst then s else f s)

/-- The bytes of a whole frame arrive on MOSI (R2, R4). -/
def frameIn (kind tag : Byte) (payload : List Byte) (s : State) : State := feed (frameBytes kind tag payload) s

/-- PORST is asserted (R21): the pins are released and no frame is taken; a transaction in progress is ignored from
here on. -/
def execPorstAsserted (s : State) : Host.Outcome State Fault Refusal :=
  .next { s with porst := true, link := { s.link with txn := if s.link.txn = .active then .ignored else s.link.txn } }

/-- PORST is released (R21): every block takes its reset state with reason POWER_ON; a transaction in progress is
ignored. -/
def execPowerOnReset (s : State) : Host.Outcome State Fault Refusal :=
  .next (partReset 0 (if s.link.txn = .idle then .idle else .ignored) s)

/-- The timebase increases by one (R14). -/
def execTimebaseIncrement (s : State) : Host.Outcome State Fault Refusal := live tick s

/-- CSN falls (R4, R11); while PORST is asserted the transaction is ignored (R21). -/
def execTransactionStart (s : State) : Host.Outcome State Fault Refusal := .next (startTransaction s)

/-- CSN rises after the last whole bytes of its transaction (R1, R4, R5, R11, R20). -/
def execTransactionEnd (tail : List Byte) (s : State) : Host.Outcome State Fault Refusal := .next (endTransaction tail s)

/-- A header that declares more than 600 payload bytes arrives (R4, R5). -/
def execBadLength (kind tag : Byte) (declared : BitVec 16) (s : State) : Host.Outcome State Fault Refusal :=
  live (feed (headerBytes kind tag declared.toNat)) s

/-- A whole frame arrives whose check does not match (R4, R5). -/
def execBadCheck (kind tag : Byte) (payload : List Byte) (check : BitVec 16) (s : State) : Host.Outcome State Fault Refusal :=
  live (feed (headerBytes kind tag payload.length ++ payload ++ le 2 check.toNat)) s

/-- A frame of a kind from 64H to FFH is taken and discarded (R7). -/
def execBadKind (kind tag : Byte) (payload : List Byte) (s : State) : Host.Outcome State Fault Refusal :=
  live (frameIn kind tag payload) s

/-- A request of an unassigned kind is taken (R7). -/
def execUnknownKind (kind tag : Byte) (payload : List Byte) (s : State) : Host.Outcome State Fault Refusal :=
  live (feed (frameBytes kind tag payload)) s

/-- The head frame has been shifted out completely (R10, R11). -/
def execHeadFrameLeaves (s : State) : Host.Outcome State Fault Refusal := live headLeaves s

/-- The silence timer expires (R15, R16). -/
def execSilenceTimerExpiry (s : State) : Host.Outcome State Fault Refusal := live (fire .silence) s

/-- NOP arrives (R18). -/
def execNop (tag : Byte) (payload : List Byte) (s : State) : Host.Outcome State Fault Refusal :=
  live (frameIn 0x01 tag payload) s

/-- PART_INFO arrives (R18). -/
def execPartInfo (tag : Byte) (payload : List Byte) (s : State) : Host.Outcome State Fault Refusal :=
  live (frameIn 0x02 tag payload) s

/-- LINK_CONFIG arrives (R19). -/
def execLinkConfig (tag : Byte) (payload : List Byte) (s : State) : Host.Outcome State Fault Refusal :=
  live (frameIn 0x03 tag payload) s

/-- PART_RESET arrives (R20). -/
def execPartReset (tag : Byte) (payload : List Byte) (s : State) : Host.Outcome State Fault Refusal :=
  live (frameIn 0x04 tag payload) s

end Sys2Proof.Machine
end

