-- ==== Sys2Proof/Machine/CacheCommands.lean ====
section
/-! DEFINITION. The meanings of the commands of the media cache (Chapter 9), one for each row of the table. -/

namespace Sys2Proof.Machine

open Sys2Proof

/-- A FREE fetch slot passes to the slot-wait list (R176). -/
def execSlotWaitGrant (s : State) : Host.Outcome State Fault Refusal := live grantSlots s

/-- A read has been on the slot-wait list for the fetch timeout (R176). -/
def execSlotWaitTimeout (n : Node) (s : State) : Host.Outcome State Fault Refusal := live (fire (.slotWait n)) s

/-- FETCH_DATA arrives (R178). -/
def execFetchData (tag : Byte) (payload : List Byte) (s : State) : Host.Outcome State Fault Refusal :=
  live (frameIn 0x60 tag payload) s

/-- FETCH_FAIL arrives (R179). -/
def execFetchFail (tag : Byte) (payload : List Byte) (s : State) : Host.Outcome State Fault Refusal :=
  live (frameIn 0x61 tag payload) s

/-- A fetch slot's timeout expires (R179). -/
def execFetchTimeout (slot : Fin 16) (s : State) : Host.Outcome State Fault Refusal := live (fire (.fetch slot)) s

/-- CACHE_DROP arrives (R181). -/
def execCacheDrop (tag : Byte) (payload : List Byte) (s : State) : Host.Outcome State Fault Refusal :=
  live (frameIn 0x3C tag payload) s

/-- WRITE_DONE arrives (R185). -/
def execWriteDone (tag : Byte) (payload : List Byte) (s : State) : Host.Outcome State Fault Refusal :=
  live (frameIn 0x62 tag payload) s

/-- A write entry's timeout expires (R185). -/
def execWriteTimeout (entry : Fin 32) (s : State) : Host.Outcome State Fault Refusal := live (fire (.write entry)) s

/-- CACHE_CONFIG arrives (R187). -/
def execCacheConfig (tag : Byte) (payload : List Byte) (s : State) : Host.Outcome State Fault Refusal :=
  live (frameIn 0x3B tag payload) s

/-- CACHE_STATE arrives (R188). -/
def execCacheState (tag : Byte) (payload : List Byte) (s : State) : Host.Outcome State Fault Refusal :=
  live (frameIn 0x3D tag payload) s

end Sys2Proof.Machine
end

