-- ==== Sys2Proof/Machine/ConsoleCommands.lean ====
section
/-! DEFINITION. The meanings of the commands of the consoles (Chapters 3 and 4), one for each row of the table. -/

namespace Sys2Proof.Machine

open Sys2Proof

/-- CON_CONFIG arrives (R38, R39). -/
def execConConfig (tag : Byte) (payload : List Byte) (s : State) : Host.Outcome State Fault Refusal :=
  live (frameIn 0x10 tag payload) s

/-- A character arrives on a node's console (R40 to R42). -/
def execCharacterReceived (n : Node) (data : Byte) (framing parity : Bool) (s : State) : Host.Outcome State Fault Refusal :=
  live (receiveChar n data framing parity) s

/-- A character with a framing error and data bits all zero arrives (R42). -/
def execBreakStart (n : Node) (parity : Bool) (s : State) : Host.Outcome State Fault Refusal :=
  live (receiveChar n 0 true parity) s

/-- The receive line returns high (R42). -/
def execBreakEnd (n : Node) (s : State) : Host.Outcome State Fault Refusal :=
  live (fun s => s.updRx n fun r => { r with inBreak := false }) s

/-- The idle gap of the open record expires (R44). -/
def execIdleGapExpiry (n : Node) (s : State) : Host.Outcome State Fault Refusal := live (fire (.idleGap n)) s

/-- HIST_READ arrives (R51, R52). -/
def execHistRead (tag : Byte) (payload : List Byte) (s : State) : Host.Outcome State Fault Refusal :=
  live (frameIn 0x11 tag payload) s

/-- STREAM_SET arrives (R53). -/
def execStreamSet (tag : Byte) (payload : List Byte) (s : State) : Host.Outcome State Fault Refusal :=
  live (frameIn 0x12 tag payload) s

/-- CON_INJECT arrives (R62). -/
def execConInject (tag : Byte) (payload : List Byte) (s : State) : Host.Outcome State Fault Refusal :=
  live (frameIn 0x13 tag payload) s

/-- CON_BREAK arrives (R63). -/
def execConBreak (tag : Byte) (payload : List Byte) (s : State) : Host.Outcome State Fault Refusal :=
  live (frameIn 0x14 tag payload) s

/-- CON_FLUSH arrives (R65). -/
def execConFlush (tag : Byte) (payload : List Byte) (s : State) : Host.Outcome State Fault Refusal :=
  live (frameIn 0x15 tag payload) s

/-- The head item of the TX queue begins (R59). -/
def execTxItemBegin (n : Node) (s : State) : Host.Outcome State Fault Refusal := live (beginItem n) s

/-- The stop bit of the byte in progress ends (R59, R61). -/
def execByteSent (n : Node) (s : State) : Host.Outcome State Fault Refusal := live (byteEnds n) s

/-- The duration of the break in progress expires (R60). -/
def execBreakSent (n : Node) (s : State) : Host.Outcome State Fault Refusal := live (fire (.breakSent n)) s

/-- A waiting SEND_TEXT or SEND_BREAK step retries its append (R64). -/
def execWaitingQueueRetry (n : Node) (s : State) : Host.Outcome State Fault Refusal := live (retryQueue n) s

/-- TEXT_LOAD arrives (R67). -/
def execTextLoad (tag : Byte) (payload : List Byte) (s : State) : Host.Outcome State Fault Refusal :=
  live (frameIn 0x16 tag payload) s

/-- PAT_LOAD arrives (R69). -/
def execPatLoad (tag : Byte) (payload : List Byte) (s : State) : Host.Outcome State Fault Refusal :=
  live (frameIn 0x17 tag payload) s

/-- PAT_ARM arrives (R70). -/
def execPatArm (tag : Byte) (payload : List Byte) (s : State) : Host.Outcome State Fault Refusal :=
  live (frameIn 0x18 tag payload) s

/-- PAT_STATE arrives (R71). -/
def execPatState (tag : Byte) (payload : List Byte) (s : State) : Host.Outcome State Fault Refusal :=
  live (frameIn 0x19 tag payload) s

end Sys2Proof.Machine
end

