-- ==== Sys2Proof/Machine/DriveCommands.lean ====
section
/-! DEFINITION. The meanings of the commands of the drives and the command contexts (Chapter 8), one for each row of the table. -/

namespace Sys2Proof.Machine

open Sys2Proof

/-- DRIVE_INSERT arrives (R145). -/
def execDriveInsert (tag : Byte) (payload : List Byte) (s : State) : Host.Outcome State Fault Refusal :=
  live (frameIn 0x38 tag payload) s

/-- DRIVE_EJECT arrives (R146). -/
def execDriveEject (tag : Byte) (payload : List Byte) (s : State) : Host.Outcome State Fault Refusal :=
  live (frameIn 0x39 tag payload) s

/-- DRIVE_STATE arrives (R147). -/
def execDriveState (tag : Byte) (payload : List Byte) (s : State) : Host.Outcome State Fault Refusal :=
  live (frameIn 0x3A tag payload) s

/-- A bulk OUT packet that is not a valid wrapper (R150). -/
def execInvalidWrapper (n : Node) (addr : BitVec 7) (toggle : Bool) (data : List Byte) (s : State) : Host.Outcome State Fault Refusal :=
  live (bulkOutOp n addr toggle data) s

/-- A wrapper with TEST_UNIT_READY (R152, R163). -/
def execTestUnitReady (n : Node) (addr : BitVec 7) (toggle : Bool) (w : Wrapper) (s : State) : Host.Outcome State Fault Refusal :=
  live (bulkOutOp n addr toggle (wrapperBytes w 0x00)) s

/-- A wrapper with REQUEST_SENSE (R152, R163). -/
def execRequestSense (n : Node) (addr : BitVec 7) (toggle : Bool) (w : Wrapper) (s : State) : Host.Outcome State Fault Refusal :=
  live (bulkOutOp n addr toggle (wrapperBytes w 0x03)) s

/-- A wrapper with INQUIRY (R152, R163). -/
def execInquiry (n : Node) (addr : BitVec 7) (toggle : Bool) (w : Wrapper) (s : State) : Host.Outcome State Fault Refusal :=
  live (bulkOutOp n addr toggle (wrapperBytes w 0x12)) s

/-- A wrapper with READ_CAPACITY (R152, R163). -/
def execReadCapacity (n : Node) (addr : BitVec 7) (toggle : Bool) (w : Wrapper) (s : State) : Host.Outcome State Fault Refusal :=
  live (bulkOutOp n addr toggle (wrapperBytes w 0x25)) s

/-- A wrapper with READ(10) (R152, R155, R157). -/
def execRead10 (n : Node) (addr : BitVec 7) (toggle : Bool) (w : Wrapper) (s : State) : Host.Outcome State Fault Refusal :=
  live (bulkOutOp n addr toggle (wrapperBytes w 0x28)) s

/-- A wrapper with WRITE(10) (R152, R155, R157). -/
def execWrite10 (n : Node) (addr : BitVec 7) (toggle : Bool) (w : Wrapper) (s : State) : Host.Outcome State Fault Refusal :=
  live (bulkOutOp n addr toggle (wrapperBytes w 0x2A)) s

/-- A wrapper with an operation code the part forwards (R152, R165). -/
def execForwardedCommand (n : Node) (addr : BitVec 7) (toggle : Bool) (op : Byte) (w : Wrapper) (s : State) : Host.Outcome State Fault Refusal :=
  live (bulkOutOp n addr toggle (wrapperBytes w op)) s

/-- FWD_RESULT arrives (R166). -/
def execFwdResult (tag : Byte) (payload : List Byte) (s : State) : Host.Outcome State Fault Refusal :=
  live (frameIn 0x63 tag payload) s

/-- A forward's timeout expires (R167). -/
def execFwdTimeout (n : Node) (s : State) : Host.Outcome State Fault Refusal := live (fire (.forward n)) s

end Sys2Proof.Machine
end

