-- ==== Sys2Proof/Machine/PoolCommands.lean ====
section
/-! DEFINITION. The meanings of the commands of buffer memory and the event table (Chapters 2 and 10), one for each row of the table. -/

namespace Sys2Proof.Machine

open Sys2Proof

/-- POOL_CONFIG arrives (R26 to R28). -/
def execPoolConfig (tag : Byte) (payload : List Byte) (s : State) : Host.Outcome State Fault Refusal :=
  live (frameIn 0x08 tag payload) s

/-- POOL_STATE arrives (R35). -/
def execPoolState (tag : Byte) (payload : List Byte) (s : State) : Host.Outcome State Fault Refusal :=
  live (frameIn 0x09 tag payload) s

/-- An occasion on which the waiting allocations are tried again (R31). -/
def execWaitingAllocationRetry (s : State) : Host.Outcome State Fault Refusal := live retryWaiting s

/-- A waiting allocation has waited for the fetch timeout (R31, R176). -/
def execAllocationWaitTimeout (n : Node) (s : State) : Host.Outcome State Fault Refusal := live (fire (.allocationWait n)) s

/-- EVENT_CONFIG arrives (R192). -/
def execEventConfig (tag : Byte) (payload : List Byte) (s : State) : Host.Outcome State Fault Refusal :=
  live (frameIn 0x40 tag payload) s

/-- EVENT_TAKE arrives (R195). -/
def execEventTake (tag : Byte) (payload : List Byte) (s : State) : Host.Outcome State Fault Refusal :=
  live (frameIn 0x41 tag payload) s

end Sys2Proof.Machine
end

