-- ==== Sys2Proof/Machine/PortCommands.lean ====
section
/-! DEFINITION. The meanings of the commands of the USB ports (Chapter 7), one for each row of the table. -/

namespace Sys2Proof.Machine

open Sys2Proof

/-- PORT_CONFIG arrives (R121). -/
def execPortConfig (tag : Byte) (payload : List Byte) (s : State) : Host.Outcome State Fault Refusal :=
  live (frameIn 0x30 tag payload) s

/-- The connect timer expires (R123). -/
def execConnectTimerExpiry (n : Node) (s : State) : Host.Outcome State Fault Refusal := live (fire (.connect n)) s

/-- DESC_LOAD arrives (R125). -/
def execDescLoad (tag : Byte) (payload : List Byte) (s : State) : Host.Outcome State Fault Refusal :=
  live (frameIn 0x31 tag payload) s

/-- A bus reset, with the high-speed offer answered or not (R127, R128). -/
def execBusReset (n : Node) (answered : Bool) (s : State) : Host.Outcome State Fault Refusal := live (busResetOp n answered) s

/-- The bus has been idle for 3 ms (R129). -/
def execSuspend (n : Node) (s : State) : Host.Outcome State Fault Refusal := live (fire (.suspend n)) s

/-- Bus activity other than a reset, which returns a SUSPENDED port to its remembered state (R129). -/
def execResume (n : Node) (s : State) : Host.Outcome State Fault Refusal := live (busActivityOp n) s

/-- A packet or signalling that the port does not answer (R129, R131). -/
def execBusActivity (n : Node) (s : State) : Host.Outcome State Fault Refusal :=
  live (fun s => if (s.node n).port.pullUp then setAnswer n .silent (busActivityOp n s) else s) s

/-- An IN token to 81H (R132). -/
def execBulkInToken (n : Node) (addr : BitVec 7) (s : State) : Host.Outcome State Fault Refusal :=
  live (onPacket n addr (answerBulkIn n)) s

/-- The pending IN packet is acknowledged (R132). -/
def execBulkInAck (n : Node) (s : State) : Host.Outcome State Fault Refusal := live (ackBulkIn n) s

/-- An OUT token with its data packet to 02H (R133). -/
def execBulkOutPacket (n : Node) (addr : BitVec 7) (toggle : Bool) (data : List Byte) (s : State) : Host.Outcome State Fault Refusal :=
  live (bulkOutOp n addr toggle data) s

/-- A PING token to 02H (R133). -/
def execPing (n : Node) (addr : BitVec 7) (s : State) : Host.Outcome State Fault Refusal :=
  live (onPacket n addr (answerPing n)) s

/-- An IN token to endpoint 0 (R136). -/
def execControlInToken (n : Node) (addr : BitVec 7) (s : State) : Host.Outcome State Fault Refusal :=
  live (onPacket n addr (answerControlIn n)) s

/-- An endpoint 0 IN packet is acknowledged (R136, R138). -/
def execControlInAck (n : Node) (s : State) : Host.Outcome State Fault Refusal := live (ackControlIn n) s

/-- An OUT token to endpoint 0 (R136). -/
def execControlOutToken (n : Node) (addr : BitVec 7) (s : State) : Host.Outcome State Fault Refusal :=
  live (onPacket n addr (answerControlOut n)) s

/-- A SETUP whose request the rules do not answer (R135). -/
def execControlRequestStalled (n : Node) (addr : BitVec 7) (setup : Setup) (s : State) : Host.Outcome State Fault Refusal :=
  live (onSetup n addr (stallRequest n setup)) s

/-- GET_DESCRIPTOR (R137). -/
def execGetDescriptor (n : Node) (addr : BitVec 7) (setup : SetupFields) (s : State) : Host.Outcome State Fault Refusal :=
  live (onSetup n addr (decideGetDescriptor n (ControlRequest.getDescriptor.setup setup))) s

/-- SET_ADDRESS (R138). -/
def execSetAddress (n : Node) (addr : BitVec 7) (setup : SetupFields) (s : State) : Host.Outcome State Fault Refusal :=
  live (onSetup n addr (decideSetAddress n (ControlRequest.setAddress.setup setup))) s

/-- SET_CONFIGURATION (R139). -/
def execSetConfiguration (n : Node) (addr : BitVec 7) (setup : SetupFields) (s : State) : Host.Outcome State Fault Refusal :=
  live (onSetup n addr (decideSetConfiguration n (ControlRequest.setConfiguration.setup setup))) s

/-- GET_CONFIGURATION (R139). -/
def execGetConfiguration (n : Node) (addr : BitVec 7) (setup : SetupFields) (s : State) : Host.Outcome State Fault Refusal :=
  live (onSetup n addr (decideGetConfiguration n (ControlRequest.getConfiguration.setup setup))) s

/-- GET_STATUS (R139). -/
def execGetStatus (n : Node) (addr : BitVec 7) (setup : SetupFields) (s : State) : Host.Outcome State Fault Refusal :=
  live (onSetup n addr (decideGetStatus n (ControlRequest.getStatus.setup setup))) s

/-- SET_FEATURE (R140). -/
def execSetFeature (n : Node) (addr : BitVec 7) (setup : SetupFields) (s : State) : Host.Outcome State Fault Refusal :=
  live (onSetup n addr (decideSetFeature n (ControlRequest.setFeature.setup setup))) s

/-- CLEAR_FEATURE (R140). -/
def execClearFeature (n : Node) (addr : BitVec 7) (setup : SetupFields) (s : State) : Host.Outcome State Fault Refusal :=
  live (onSetup n addr (decideClearFeature n (ControlRequest.clearFeature.setup setup))) s

/-- Bulk reset (R141). -/
def execBulkReset (n : Node) (addr : BitVec 7) (setup : SetupFields) (s : State) : Host.Outcome State Fault Refusal :=
  live (onSetup n addr (decideBulkReset n (ControlRequest.bulkReset.setup setup))) s

/-- Get-max-LUN (R141). -/
def execGetMaxLun (n : Node) (addr : BitVec 7) (setup : SetupFields) (s : State) : Host.Outcome State Fault Refusal :=
  live (onSetup n addr (decideGetMaxLun n (ControlRequest.getMaxLun.setup setup))) s

/-- PORT_STATE arrives (R142). -/
def execPortState (tag : Byte) (payload : List Byte) (s : State) : Host.Outcome State Fault Refusal :=
  live (frameIn 0x32 tag payload) s

end Sys2Proof.Machine
end

