-- ==== Sys2Proof/Machine/PowerCommands.lean ====
section
/-! DEFINITION. The meanings of the commands of the control lines and the plans (Chapters 5 and 6), one for each row of the table. -/

namespace Sys2Proof.Machine

open Sys2Proof

/-- LINE_CONFIG arrives (R81, R82). -/
def execLineConfig (tag : Byte) (payload : List Byte) (s : State) : Host.Outcome State Fault Refusal :=
  live (frameIn 0x20 tag payload) s

/-- An input pin takes a level (R79); while PORST is asserted only the pin itself is followed, for the sample of
R80. -/
def execInputPinChange (n : Node) (i : Input) (high : Bool) (s : State) : Host.Outcome State Fault Refusal :=
  .next (if s.porst then s.updInput n i fun l => { l with pin := high } else pinChanges n i high s)

/-- A candidate's debounce time expires (R79). -/
def execDebounceExpiry (n : Node) (i : Input) (s : State) : Host.Outcome State Fault Refusal := live (fire (.debounce n i)) s

/-- LINE_SET arrives (R84). -/
def execLineSet (tag : Byte) (payload : List Byte) (s : State) : Host.Outcome State Fault Refusal :=
  live (frameIn 0x21 tag payload) s

/-- A pulse expires (R83). -/
def execPulseExpiry (n : Node) (o : Output) (s : State) : Host.Outcome State Fault Refusal := live (fire (.pulse n o)) s

/-- The cut-settle timer expires (R87). -/
def execCutSettleExpiry (n : Node) (s : State) : Host.Outcome State Fault Refusal := live (fire (.cutSettle n)) s

/-- NODE_STATE arrives (R91). -/
def execNodeState (tag : Byte) (payload : List Byte) (s : State) : Host.Outcome State Fault Refusal :=
  live (frameIn 0x22 tag payload) s

/-- PLAN_LOAD arrives (R95, R96). -/
def execPlanLoad (tag : Byte) (payload : List Byte) (s : State) : Host.Outcome State Fault Refusal :=
  live (frameIn 0x28 tag payload) s

/-- PLAN_START arrives (R110). -/
def execPlanStart (tag : Byte) (payload : List Byte) (s : State) : Host.Outcome State Fault Refusal :=
  live (frameIn 0x29 tag payload) s

/-- PLAN_ABORT arrives (R114). -/
def execPlanAbort (tag : Byte) (payload : List Byte) (s : State) : Host.Outcome State Fault Refusal :=
  live (frameIn 0x2A tag payload) s

/-- PLAN_STATE arrives (R118). -/
def execPlanState (tag : Byte) (payload : List Byte) (s : State) : Host.Outcome State Fault Refusal :=
  live (frameIn 0x2B tag payload) s

/-- INRUSH_CONFIG arrives (R118). -/
def execInrushConfig (tag : Byte) (payload : List Byte) (s : State) : Host.Outcome State Fault Refusal :=
  live (frameIn 0x2C tag payload) s

/-- A waiting step's timeout expires (R101). -/
def execStepTimeout (n : Node) (s : State) : Host.Outcome State Fault Refusal := live (fire (.step n)) s

/-- A DELAY step's duration expires (R107). -/
def execDelayExpiry (n : Node) (s : State) : Host.Outcome State Fault Refusal := live (fire (.delay n)) s

/-- A hold of a node expires (R117). -/
def execSlotHoldExpiry (n : Node) (s : State) : Host.Outcome State Fault Refusal := live (fire (.slotHold n)) s

end Sys2Proof.Machine
end

