-- ==== Sys2Proof/Machine/Dispatch.lean ====
section
/-! DEFINITION. Every command of the table with its meaning, one arm each. -/

namespace Sys2Proof.Machine

open Sys2Proof

/-- The effect of a command on everything but the queue of commands. -/
def exec (i : Instr) (s : State) : Host.Outcome State Fault Refusal :=
  match i with
  | .porstAsserted => Sys2Proof.Machine.execPorstAsserted s
  | .powerOnReset => Sys2Proof.Machine.execPowerOnReset s
  | .timebaseIncrement => Sys2Proof.Machine.execTimebaseIncrement s
  | .transactionStart => Sys2Proof.Machine.execTransactionStart s
  | .transactionEnd tail => Sys2Proof.Machine.execTransactionEnd tail s
  | .badLength kind tag declared => Sys2Proof.Machine.execBadLength kind tag declared s
  | .badCheck kind tag payload check => Sys2Proof.Machine.execBadCheck kind tag payload check s
  | .badKind kind tag payload => Sys2Proof.Machine.execBadKind kind tag payload s
  | .unknownKind kind tag payload => Sys2Proof.Machine.execUnknownKind kind tag payload s
  | .headFrameLeaves => Sys2Proof.Machine.execHeadFrameLeaves s
  | .silenceTimerExpiry => Sys2Proof.Machine.execSilenceTimerExpiry s
  | .nop tag payload => Sys2Proof.Machine.execNop tag payload s
  | .partInfo tag payload => Sys2Proof.Machine.execPartInfo tag payload s
  | .linkConfig tag payload => Sys2Proof.Machine.execLinkConfig tag payload s
  | .partReset tag payload => Sys2Proof.Machine.execPartReset tag payload s
  | .poolConfig tag payload => Sys2Proof.Machine.execPoolConfig tag payload s
  | .poolState tag payload => Sys2Proof.Machine.execPoolState tag payload s
  | .waitingAllocationRetry => Sys2Proof.Machine.execWaitingAllocationRetry s
  | .allocationWaitTimeout n => Sys2Proof.Machine.execAllocationWaitTimeout n s
  | .conConfig tag payload => Sys2Proof.Machine.execConConfig tag payload s
  | .characterReceived n data framing parity => Sys2Proof.Machine.execCharacterReceived n data framing parity s
  | .breakStart n parity => Sys2Proof.Machine.execBreakStart n parity s
  | .breakEnd n => Sys2Proof.Machine.execBreakEnd n s
  | .idleGapExpiry n => Sys2Proof.Machine.execIdleGapExpiry n s
  | .histRead tag payload => Sys2Proof.Machine.execHistRead tag payload s
  | .streamSet tag payload => Sys2Proof.Machine.execStreamSet tag payload s
  | .conInject tag payload => Sys2Proof.Machine.execConInject tag payload s
  | .conBreak tag payload => Sys2Proof.Machine.execConBreak tag payload s
  | .conFlush tag payload => Sys2Proof.Machine.execConFlush tag payload s
  | .txItemBegin n => Sys2Proof.Machine.execTxItemBegin n s
  | .byteSent n => Sys2Proof.Machine.execByteSent n s
  | .breakSent n => Sys2Proof.Machine.execBreakSent n s
  | .waitingQueueRetry n => Sys2Proof.Machine.execWaitingQueueRetry n s
  | .textLoad tag payload => Sys2Proof.Machine.execTextLoad tag payload s
  | .patLoad tag payload => Sys2Proof.Machine.execPatLoad tag payload s
  | .patArm tag payload => Sys2Proof.Machine.execPatArm tag payload s
  | .patState tag payload => Sys2Proof.Machine.execPatState tag payload s
  | .lineConfig tag payload => Sys2Proof.Machine.execLineConfig tag payload s
  | .inputPinChange n p high => Sys2Proof.Machine.execInputPinChange n p high s
  | .debounceExpiry n p => Sys2Proof.Machine.execDebounceExpiry n p s
  | .lineSet tag payload => Sys2Proof.Machine.execLineSet tag payload s
  | .pulseExpiry n o => Sys2Proof.Machine.execPulseExpiry n o s
  | .cutSettleExpiry n => Sys2Proof.Machine.execCutSettleExpiry n s
  | .nodeState tag payload => Sys2Proof.Machine.execNodeState tag payload s
  | .planLoad tag payload => Sys2Proof.Machine.execPlanLoad tag payload s
  | .planStart tag payload => Sys2Proof.Machine.execPlanStart tag payload s
  | .planAbort tag payload => Sys2Proof.Machine.execPlanAbort tag payload s
  | .planState tag payload => Sys2Proof.Machine.execPlanState tag payload s
  | .inrushConfig tag payload => Sys2Proof.Machine.execInrushConfig tag payload s
  | .stepTimeout n => Sys2Proof.Machine.execStepTimeout n s
  | .delayExpiry n => Sys2Proof.Machine.execDelayExpiry n s
  | .slotHoldExpiry n => Sys2Proof.Machine.execSlotHoldExpiry n s
  | .portConfig tag payload => Sys2Proof.Machine.execPortConfig tag payload s
  | .connectTimerExpiry n => Sys2Proof.Machine.execConnectTimerExpiry n s
  | .descLoad tag payload => Sys2Proof.Machine.execDescLoad tag payload s
  | .busReset n answered => Sys2Proof.Machine.execBusReset n answered s
  | .suspend n => Sys2Proof.Machine.execSuspend n s
  | .resume n => Sys2Proof.Machine.execResume n s
  | .bulkInToken n addr => Sys2Proof.Machine.execBulkInToken n addr s
  | .bulkInAck n => Sys2Proof.Machine.execBulkInAck n s
  | .bulkOutPacket n addr toggle data => Sys2Proof.Machine.execBulkOutPacket n addr toggle data s
  | .ping n addr => Sys2Proof.Machine.execPing n addr s
  | .controlInToken n addr => Sys2Proof.Machine.execControlInToken n addr s
  | .controlInAck n => Sys2Proof.Machine.execControlInAck n s
  | .controlOutToken n addr => Sys2Proof.Machine.execControlOutToken n addr s
  | .controlRequestStalled n addr setup => Sys2Proof.Machine.execControlRequestStalled n addr setup s
  | .getDescriptor n addr setup => Sys2Proof.Machine.execGetDescriptor n addr setup s
  | .setAddress n addr setup => Sys2Proof.Machine.execSetAddress n addr setup s
  | .setConfiguration n addr setup => Sys2Proof.Machine.execSetConfiguration n addr setup s
  | .getConfiguration n addr setup => Sys2Proof.Machine.execGetConfiguration n addr setup s
  | .getStatus n addr setup => Sys2Proof.Machine.execGetStatus n addr setup s
  | .setFeature n addr setup => Sys2Proof.Machine.execSetFeature n addr setup s
  | .clearFeature n addr setup => Sys2Proof.Machine.execClearFeature n addr setup s
  | .bulkReset n addr setup => Sys2Proof.Machine.execBulkReset n addr setup s
  | .getMaxLun n addr setup => Sys2Proof.Machine.execGetMaxLun n addr setup s
  | .portState tag payload => Sys2Proof.Machine.execPortState tag payload s
  | .driveInsert tag payload => Sys2Proof.Machine.execDriveInsert tag payload s
  | .driveEject tag payload => Sys2Proof.Machine.execDriveEject tag payload s
  | .driveState tag payload => Sys2Proof.Machine.execDriveState tag payload s
  | .invalidWrapper n addr toggle data => Sys2Proof.Machine.execInvalidWrapper n addr toggle data s
  | .testUnitReady n addr toggle w => Sys2Proof.Machine.execTestUnitReady n addr toggle w s
  | .requestSense n addr toggle w => Sys2Proof.Machine.execRequestSense n addr toggle w s
  | .inquiry n addr toggle w => Sys2Proof.Machine.execInquiry n addr toggle w s
  | .readCapacity n addr toggle w => Sys2Proof.Machine.execReadCapacity n addr toggle w s
  | .read10 n addr toggle w => Sys2Proof.Machine.execRead10 n addr toggle w s
  | .write10 n addr toggle w => Sys2Proof.Machine.execWrite10 n addr toggle w s
  | .forwardedCommand n addr toggle op w => Sys2Proof.Machine.execForwardedCommand n addr toggle op w s
  | .fwdResult tag payload => Sys2Proof.Machine.execFwdResult tag payload s
  | .fwdTimeout n => Sys2Proof.Machine.execFwdTimeout n s
  | .slotWaitGrant => Sys2Proof.Machine.execSlotWaitGrant s
  | .slotWaitTimeout n => Sys2Proof.Machine.execSlotWaitTimeout n s
  | .fetchData tag payload => Sys2Proof.Machine.execFetchData tag payload s
  | .fetchFail tag payload => Sys2Proof.Machine.execFetchFail tag payload s
  | .fetchTimeout slot => Sys2Proof.Machine.execFetchTimeout slot s
  | .cacheDrop tag payload => Sys2Proof.Machine.execCacheDrop tag payload s
  | .writeDone tag payload => Sys2Proof.Machine.execWriteDone tag payload s
  | .writeTimeout entry => Sys2Proof.Machine.execWriteTimeout entry s
  | .cacheConfig tag payload => Sys2Proof.Machine.execCacheConfig tag payload s
  | .cacheState tag payload => Sys2Proof.Machine.execCacheState tag payload s
  | .eventConfig tag payload => Sys2Proof.Machine.execEventConfig tag payload s
  | .eventTake tag payload => Sys2Proof.Machine.execEventTake tag payload s
  | .busActivity n => Sys2Proof.Machine.execBusActivity n s

end Sys2Proof.Machine
end

