-- ==== Sys2Proof/Safety.lean ====
section
/-! DEFINITION. What counts as a safe state, in the terms the statements use: the situations in which a command has its
normal course, and the invariants that every step keeps. -/

namespace Sys2Proof.Machine

open Sys2Proof

/-! ## Situations -/

/-- The part takes part in a transaction of which no byte has arrived yet (R4). -/
abbrev Fresh (s : State) : Prop := s.porst = false ∧ s.link.txn = .active ∧ s.link.inbound = .header []

/-- A frame that arrives now is disposed of in the normal course (R7): the link is ONLINE and the outbound queue has a free
entry for a reply. -/
abbrev Ready (s : State) : Prop :=
  Fresh s ∧ s.link.online = .online ∧ s.link.held = false ∧ s.link.queue.length < 32

/-- The state in which a frame that was taken while the link was ONLINE is disposed of: the silence timer has restarted
and the rest of the transaction is ignored (R4, R7). -/
def heard (s : State) : State := s.updLink fun l => { l with silenceStart := s.timebase, inbound := .ignore }

/-- The state in which a frame is discarded at its last byte: the rest of the transaction is ignored (R4). -/
def ignoring (s : State) : State := s.updLink fun l => { l with inbound := .ignore }

/-- A USB port that answers the tokens that name its address (R131). -/
abbrev Answering (s : State) (n : Node) : Prop :=
  s.porst = false ∧ (s.node n).port.state ≠ .suspended ∧ s.hears n (s.node n).port.address = true

/-- The state in which a port that is not SUSPENDED answers a packet: the idle time has restarted (R129, R131). -/
def onBus (n : Node) (s : State) : State :=
  s.updPort n fun p => { p with idleSince := s.timebase, answer := .silent }

/-- The state in which a port has taken a SETUP packet and decides its request (R135): ACK, with the transfer in progress
and a pending address abandoned. -/
def onSetupTaken (n : Node) (s : State) : State :=
  (onBus n s).updPort n fun p => { p with pendingAddress := none, control := none, answer := .ack }

/-- A node whose context takes a wrapper that arrives now (R131, R133, R149, R150): its port is CONFIGURED, with no halt
and no recovery, and expects that toggle; its context is in EXPECT_COMMAND. -/
abbrev TakesWrapper (s : State) (n : Node) (toggle : Bool) : Prop :=
  Answering s n ∧ (s.node n).port.state = .configured ∧ (s.node n).port.haltOut = false ∧ (s.node n).port.recovery = false ∧
    (s.node n).port.toggleOut = toggle ∧ (s.node n).ctx.phase = .expectCommand

/-- A READ(10) that sends data from the cache and has nothing pending at its port (R158). -/
abbrev Reading (s : State) (n : Node) (c : Command) : Prop :=
  (s.node n).ctx.command = some c ∧ (s.node n).ctx.phase = .dataIn ∧ (s.node n).ctx.mode = .read ∧
    (s.node n).ctx.running = true ∧ (s.node n).ctx.result = .passed ∧ (s.node n).port.pendingIn = none

/-! ## What the host and the node send -/

/-- A step record of a plan as PLAN_LOAD carries it (section 11.6): its kind, its operands A and B, the on-fail action
with its target, its value and its timeout. -/
def stepRecord (st : PlanStep) : List Byte :=
  let x : Nat × Nat × Nat := match st.kind with
    | .setLine o a => (outNum o, if a then 1 else 0, 0)
    | .pulseLine o ms => (outNum o, 0, ms)
    | .waitLine i a => (inNum i, if a then 1 else 0, 0)
    | .waitPower v => (v.num, 0, 0)
    | .waitMatch p => (p, 0, 0)
    | .delay ms => (0, 0, ms)
    | .takeSlot ms => (0, 0, ms)
    | .sendText t => (t, 0, 0)
    | .sendBreak ms => (0, 0, ms)
    | .media l r => (l, if r then 1 else 0, 0)
    | .notify code => (0, 0, code)
  let f : Nat × Nat := match st.onFail with
    | .abort => (0, 0)
    | .goto g => (1, g)
  [byteOf st.kind.num, byteOf x.1, byteOf x.2.1, byteOf f.1, byteOf f.2] ++ le 2 x.2.2 ++ le 2 st.timeout

/-- A step record whose value, timeout and target lie in their ranges in a plan of that many steps (R94, R96). -/
def stepInRange (count : Nat) (st : PlanStep) : Bool :=
  decide (st.timeout < 65536) &&
    (match st.kind with
      | .pulseLine _ ms => decide (1 ≤ ms) && decide (ms < 65536)
      | .delay ms => decide (ms < 65536)
      | .takeSlot ms => decide (1 ≤ ms) && decide (ms < 65536)
      | .sendBreak ms => decide (1 ≤ ms) && decide (ms ≤ 2000)
      | .notify code => decide (code < 65536)
      | _ => true) &&
    match st.onFail with
      | .abort => true
      | .goto g => decide (g < count)

/-- The payload of a DESC_LOAD that carries a descriptor set (section 11.7): the node, the eight lengths, the entries. -/
def descRecord (n : Node) (d : DescSet) : List Byte :=
  let es := [d.device, d.config] ++ d.strings.toList ++ d.inquiry.toList
  [byteOf n] ++ es.map (fun e => byteOf e.length) ++ es.flatten

/-- The command of the table that a wrapper with an operation code is (R152). -/
def wrapperCommand (n : Node) (addr : BitVec 7) (toggle : Bool) (op : Byte) (w : Wrapper) : Instr :=
  if op = 0x00 then .testUnitReady n addr toggle w
  else if op = 0x03 then .requestSense n addr toggle w
  else if op = 0x12 then .inquiry n addr toggle w
  else if op = 0x25 then .readCapacity n addr toggle w
  else if op = 0x28 then .read10 n addr toggle w
  else if op = 0x2A then .write10 n addr toggle w
  else .forwardedCommand n addr toggle op w

/-- The payload of a DRIVE_INSERT that carries an image (section 11.3). -/
def insertRecord (n : Node) (u : Lun) (i : Image) : List Byte :=
  [byteOf n, byteOf u] ++ le 4 i.handle.toNat ++ le 6 i.size ++ le 2 i.block ++ [if i.writable then 1 else 0]

/-- An image that R145 accepts: a block size of 512 or 2048, writable only with 512, and at least one block and at most
2^32 of them. -/
def Image.valid (i : Image) : Bool :=
  decide (i.size < 2 ^ 48) && (i.block == 512 || (i.block == 2048 && !i.writable)) && decide (i.block ≤ i.size) &&
    decide (i.size / i.block ≤ 2 ^ 32)

/-- The commands that act on the part while PORST is asserted (R21): its release, the edges of CSN, which end and begin ignored
transactions, and the levels of the input pins, which are sampled at the release. -/
def heardUnderPorst (c : Instr) : Bool :=
  match c with
  | .porstAsserted => true
  | .powerOnReset => true
  | .transactionStart => true
  | .transactionEnd _ => true
  | .inputPinChange _ _ _ => true
  | _ => false

/-! ## Invariants -/

/-- The outbound queue holds at most 32 frames and at most one EVENT_SUMMARY (R9), and no frame while the link is
AUTONOMOUS (R16); no frame's payload, nor what a media notice will carry in one, is longer than a frame allows (R2, R165,
R184); a PART_RESET that waits for its rise of CSN has left an entry free for a BUSY reply, and no further frame is taken
in its transaction (R4, R20). -/
def QueueInv (s : State) : Prop :=
  s.link.queue.length ≤ 32 ∧ (s.link.queue.filter fun f => f.kind == 0xE5).length ≤ 1 ∧
    (s.link.online = .autonomous → s.link.queue = []) ∧
    (∀ f ∈ s.link.queue, f.payload.length ≤ 600) ∧
    (∀ n : Node, (s.node n).ctx.fwdBuffer.length ≤ 512) ∧
    (∀ (i : Fin 32) w, s.cache.writes[i].use = some w → w.data.length ≤ 512) ∧
    (s.link.resetPending ≠ none →
      s.link.queue.length ≤ 31 ∧ s.link.inbound = .ignore ∧ (s.porst = true ∨ s.link.txn = .active))

/-- Every source record keeps its level in 0 to 3 and its count in 0 to 255, and has a first time just while it is
pending (R189, R191). -/
def EventInv (s : State) : Prop :=
  ∀ r ∈ s.events.recs.toList, r.level ≤ 3 ∧ r.count ≤ 255 ∧ (r.count = 0 ↔ r.firstTime = none)

/-- Every node's TX queue holds at most 256 items and is empty, with nothing in progress, whenever the node's power view
is not RUNNING (R58, R66). -/
def TxInv (s : State) : Prop :=
  ∀ n : Node, (s.node n).tx.queue.length ≤ 256 ∧
    ((s.node n).lines.view ≠ .running → (s.node n).tx.queue = [] ∧ (s.node n).tx.inProgress = none)

/-- A port has its pull-up applied, or its connect timer running, only while its connect conditions hold (R122, R123). -/
def PullUpInv (s : State) : Prop :=
  ∀ n : Node, (s.node n).port.pullUp = true ∨ (s.node n).port.state = .connecting → connectHolds s n = true

/-- No execution has started more than 64 steps (R97); the slot count lies in 1 to 4, no more slots are held than it, and
while a node waits every slot is held (R115). -/
def ExecInv (s : State) : Prop :=
  (∀ n : Node, ∀ r, (s.node n).exec.run = some r → r.started ≤ 64) ∧
    1 ≤ s.arbiter.count ∧ s.arbiter.count ≤ 4 ∧ s.arbiter.holds.length ≤ s.arbiter.count ∧
    (s.arbiter.waiting ≠ [] → s.arbiter.holds.length = s.arbiter.count)

/-- Every ring's settings lie in their ranges and its holding lies between its reserve and its maximum (R23, R26, R28);
the records in history carry consecutive sequence numbers from oldest_seq to next_seq less one, and the stream cursor lies
between oldest_seq and next_seq inclusive (R49, R50); no page holds more than its 512 bytes (R24, R48); and an open record is
shorter than the record maximum (R44). -/
def RingInv (s : State) : Prop :=
  ∀ n : Node,
    4 ≤ (s.node n).hist.reserve ∧ (s.node n).hist.reserve ≤ 64 ∧ (s.node n).hist.maximum ≤ 256 ∧
      (s.node n).hist.reserve ≤ (s.node n).hist.holding ∧ (s.node n).hist.holding ≤ (s.node n).hist.maximum ∧
      (s.node n).hist.size = (s.node n).hist.records.length ∧
      ((s.node n).hist.cursor - (s.node n).hist.oldest).toNat ≤ (s.node n).hist.size ∧
      (∀ i r, (s.node n).hist.records[i]? = some r → r.seq = (s.node n).hist.oldest + BitVec.ofNat 32 i) ∧
      (∀ p ∈ (s.node n).hist.filled ++ [(s.node n).hist.current], pageUsed p ≤ 512) ∧
      16 ≤ (s.node n).rx.settings.recMax ∧ (s.node n).rx.settings.recMax ≤ 240 ∧
      ∀ o, (s.node n).rx.opened = some o → o.payload.length < (s.node n).rx.settings.recMax

/-- Every node's power view is the one its CUT line and its PGOOD input give (R85). -/
def ViewInv (s : State) : Prop := ∀ n : Node, (s.node n).lines.view = (s.node n).lines.computed

/-- The pages of every owner (R22): the four rings, eight for each cache line, the staging pages and the descriptor pages,
with the free pages. -/
def pageSum (s : State) : Nat :=
  s.pool.free + (allNodes.map fun n =>
      (s.node n).hist.holding + s.stagingPages n + (if (s.node n).port.desc.isSome then 1 else 0)).sum
    + Config.linePages * s.cache.lines.length

end Sys2Proof.Machine
end

