-- ==== Sys2Proof/WellFormed.lean ====
section
/-! DEFINITION. Which commands the outside can send: the frame a command of the link is, and the checks that hold of a
command as the table's row describes it. An ill-formed term still has a meaning; it names a command that the row does
not describe (a payload longer than a frame carries, a BAD_CHECK whose check matches). -/

namespace Sys2Proof

open Sys2Proof.Machine

/-- The kind, tag and payload of a command that is a whole frame with a matching check, none for the others. -/
def Instr.frame : Instr → Option Frame
  | .badKind k t p => some ⟨k, t, p⟩
  | .unknownKind k t p => some ⟨k, t, p⟩
  | .nop t p => some ⟨0x01, t, p⟩
  | .partInfo t p => some ⟨0x02, t, p⟩
  | .linkConfig t p => some ⟨0x03, t, p⟩
  | .partReset t p => some ⟨0x04, t, p⟩
  | .poolConfig t p => some ⟨0x08, t, p⟩
  | .poolState t p => some ⟨0x09, t, p⟩
  | .conConfig t p => some ⟨0x10, t, p⟩
  | .histRead t p => some ⟨0x11, t, p⟩
  | .streamSet t p => some ⟨0x12, t, p⟩
  | .conInject t p => some ⟨0x13, t, p⟩
  | .conBreak t p => some ⟨0x14, t, p⟩
  | .conFlush t p => some ⟨0x15, t, p⟩
  | .textLoad t p => some ⟨0x16, t, p⟩
  | .patLoad t p => some ⟨0x17, t, p⟩
  | .patArm t p => some ⟨0x18, t, p⟩
  | .patState t p => some ⟨0x19, t, p⟩
  | .lineConfig t p => some ⟨0x20, t, p⟩
  | .lineSet t p => some ⟨0x21, t, p⟩
  | .nodeState t p => some ⟨0x22, t, p⟩
  | .planLoad t p => some ⟨0x28, t, p⟩
  | .planStart t p => some ⟨0x29, t, p⟩
  | .planAbort t p => some ⟨0x2A, t, p⟩
  | .planState t p => some ⟨0x2B, t, p⟩
  | .inrushConfig t p => some ⟨0x2C, t, p⟩
  | .portConfig t p => some ⟨0x30, t, p⟩
  | .descLoad t p => some ⟨0x31, t, p⟩
  | .portState t p => some ⟨0x32, t, p⟩
  | .driveInsert t p => some ⟨0x38, t, p⟩
  | .driveEject t p => some ⟨0x39, t, p⟩
  | .driveState t p => some ⟨0x3A, t, p⟩
  | .cacheConfig t p => some ⟨0x3B, t, p⟩
  | .cacheDrop t p => some ⟨0x3C, t, p⟩
  | .cacheState t p => some ⟨0x3D, t, p⟩
  | .eventConfig t p => some ⟨0x40, t, p⟩
  | .eventTake t p => some ⟨0x41, t, p⟩
  | .fetchData t p => some ⟨0x60, t, p⟩
  | .fetchFail t p => some ⟨0x61, t, p⟩
  | .writeDone t p => some ⟨0x62, t, p⟩
  | .fwdResult t p => some ⟨0x63, t, p⟩
  | .porstAsserted => none
  | .powerOnReset => none
  | .timebaseIncrement => none
  | .transactionStart => none
  | .transactionEnd _ => none
  | .badLength _ _ _ => none
  | .badCheck _ _ _ _ => none
  | .headFrameLeaves => none
  | .silenceTimerExpiry => none
  | .waitingAllocationRetry => none
  | .allocationWaitTimeout _ => none
  | .characterReceived _ _ _ _ => none
  | .breakStart _ _ => none
  | .breakEnd _ => none
  | .idleGapExpiry _ => none
  | .txItemBegin _ => none
  | .byteSent _ => none
  | .breakSent _ => none
  | .waitingQueueRetry _ => none
  | .inputPinChange _ _ _ => none
  | .debounceExpiry _ _ => none
  | .pulseExpiry _ _ => none
  | .cutSettleExpiry _ => none
  | .stepTimeout _ => none
  | .delayExpiry _ => none
  | .slotHoldExpiry _ => none
  | .connectTimerExpiry _ => none
  | .busReset _ _ => none
  | .suspend _ => none
  | .resume _ => none
  | .bulkInToken _ _ => none
  | .bulkInAck _ => none
  | .bulkOutPacket _ _ _ _ => none
  | .ping _ _ => none
  | .controlInToken _ _ => none
  | .controlInAck _ => none
  | .controlOutToken _ _ => none
  | .controlRequestStalled _ _ _ => none
  | .getDescriptor _ _ _ => none
  | .setAddress _ _ _ => none
  | .setConfiguration _ _ _ => none
  | .getConfiguration _ _ _ => none
  | .getStatus _ _ _ => none
  | .setFeature _ _ _ => none
  | .clearFeature _ _ _ => none
  | .bulkReset _ _ _ => none
  | .getMaxLun _ _ _ => none
  | .invalidWrapper _ _ _ _ => none
  | .testUnitReady _ _ _ _ => none
  | .requestSense _ _ _ _ => none
  | .inquiry _ _ _ _ => none
  | .readCapacity _ _ _ _ => none
  | .read10 _ _ _ _ => none
  | .write10 _ _ _ _ => none
  | .forwardedCommand _ _ _ _ _ => none
  | .fwdTimeout _ => none
  | .slotWaitGrant => none
  | .slotWaitTimeout _ => none
  | .fetchTimeout _ => none
  | .writeTimeout _ => none
  | .busActivity _ => none

/-- The request kinds that the request table of section 11.3 assigns. -/
def assignedKinds : List Nat :=
  [0x01, 0x02, 0x03, 0x04, 0x08, 0x09, 0x10, 0x11, 0x12, 0x13, 0x14, 0x15, 0x16, 0x17, 0x18, 0x19, 0x20, 0x21, 0x22]
    ++ [0x28, 0x29, 0x2A, 0x2B, 0x2C, 0x30, 0x31, 0x32, 0x38, 0x39, 0x3A, 0x3B, 0x3C, 0x3D, 0x40, 0x41]

/-- Whether the wrapper of a command row is a valid one with that operation code (R150). -/
def wrapperOk (w : Wrapper) (op : Byte) : Bool := validWrapper (wrapperBytes w op)

/-- Whether a command is one that its row of the table describes. -/
def Instr.wf : Instr → Bool
  | .badLength k _ declared => k != 0 && decide (Config.maxPayload < declared.toNat)
  | .badCheck k t p check =>
    k != 0 && decide (p.length ≤ Config.maxPayload) && check != crc (headerBytes k t p.length ++ p)
  | .badKind k _ p => decide (0x64 ≤ k.toNat) && decide (p.length ≤ Config.maxPayload)
  | .unknownKind k _ p =>
    decide (1 ≤ k.toNat) && decide (k.toNat ≤ 0x5F) && !assignedKinds.contains k.toNat && decide (p.length ≤ Config.maxPayload)
  | .controlRequestStalled _ _ u => (requestOf u).isNone
  | .characterReceived _ b framing _ => !(framing && b == 0)
  | .invalidWrapper _ _ _ d => !validWrapper d
  | .testUnitReady _ _ _ w => wrapperOk w 0x00
  | .requestSense _ _ _ w => wrapperOk w 0x03
  | .inquiry _ _ _ w => wrapperOk w 0x12
  | .readCapacity _ _ _ w => wrapperOk w 0x25
  | .read10 _ _ _ w => wrapperOk w 0x28
  | .write10 _ _ _ w => wrapperOk w 0x2A
  | .forwardedCommand _ _ _ op w => wrapperOk w op && !executedOps.contains op
  | i =>
    match i.frame with
    | none => true
    | some f => decide (f.payload.length ≤ Config.maxPayload)

end Sys2Proof
end

