-- ==== Sys2Proof/Certificates/Slice0/Obligations.lean ====
section
/-! DEFINITION. The statements for the provers: what the numbered rules of the spec say the part does, and what every step keeps. -/

open Sys2Proof Sys2Proof.Machine

/-! ## The queue of commands and the frames -/

/-- A step carries out the command at the front of the queue with the rest of the queue; with nothing waiting the part idles.
That it idles is the model's choice (log entry 1). -/
def Obligations.StepRunsFront : Prop :=
  (∀ (c : Instr) (cs : List Instr) (s : State), s.pending = c :: cs → step s = exec c { s with pending := cs }) ∧
  ∀ s : State, s.pending = [] → step s = .next s

/-- Every command, in every state, answers a next state, and leaves the queue of commands as it is. That none stops is the
model's reading and choice: of the commands that can occur it is read from the rules together (log entry 40, DEDUCED), and one
that cannot occur in a state leaves it as it is (log entry 3, DESIGN CHOICE). Nothing is said here of any command's effect
beyond that it leaves the queue of commands alone. -/
def Obligations.EveryCommandCompletes : Prop :=
  ∀ (c : Instr) (s : State), ∃ t, exec c s = .next t ∧ t.pending = s.pending

/-- The bytes of every frame a command of the link sends, put together by the inbound assembly one byte at a time, are that
frame again: its kind, tag and whole payload reach the block it is for, at its last byte (R2 to R4, R7). -/
def Obligations.FrameReachesItsBlock : Prop :=
  ∀ (i : Instr) (f : Frame) (s : State), i.frame = some f → i.wf = true → Fresh s →
    exec i s = .next (takeFrame f.kind f.tag f.payload (ignoring s))

/-- Two frames that are sent as the same bytes are the same frame (R2), and a change of any one byte of what the check covers
changes the check (R3). -/
def Obligations.FrameBytesTellFramesApart : Prop :=
  (∀ f g : Frame, f.payload.length ≤ 600 → g.payload.length ≤ 600 → f.bytes = g.bytes → f = g) ∧
  ∀ (before after : List Byte) (b c : Byte), b ≠ c → crc (before ++ b :: after) ≠ crc (before ++ c :: after)

/-! ## Invariants of every step -/

/-- Every step keeps the outbound queue within its bounds: at most 32 frames, at most one EVENT_SUMMARY, none while AUTONOMOUS, and
no payload over 600 bytes (R2, R9, R16, R20). -/
def Obligations.QueueStaysBounded : Prop := ∀ s t : State, QueueInv s → step s = .next t → QueueInv t

/-- Every step keeps every source record well formed (R189, R191, R192, R195). -/
def Obligations.SourceRecordsStayWellFormed : Prop := ∀ s t : State, EventInv s → step s = .next t → EventInv t

/-- Every step keeps a node that is not RUNNING without console traffic of the part's (R58, R66). -/
def Obligations.DarkNodesSendNothing : Prop := ∀ s t : State, TxInv s → step s = .next t → TxInv t

/-- Every step keeps the pull-up of a port off while its connect conditions fail (R122 to R124). -/
def Obligations.PullUpNeedsItsConditions : Prop := ∀ s t : State, PullUpInv s → step s = .next t → PullUpInv t

/-- Every step keeps each execution within 64 steps and the held inrush slots within the slot count (R98, R115 to R118). -/
def Obligations.ExecutionsAndSlotsStayBounded : Prop := ∀ s t : State, ExecInv s → step s = .next t → ExecInv t

/-- Every step keeps every history without a hole, its stream cursor within it, and every ring within its settings (R23, R24, R28,
R45, R48 to R50). -/
def Obligations.HistoryHasNoHole : Prop := ∀ s t : State, RingInv s → step s = .next t → RingInv t

/-- Every step keeps every node's power view the one its CUT line and its PGOOD input give (R85). -/
def Obligations.ViewFollowsTheLines : Prop := ∀ s t : State, ViewInv s → step s = .next t → ViewInv t

/-- The state after reset has every invariant, and its pages come to 1024 (R22, R36). That its pins are low is the model's
choice (log entry 2). -/
def Obligations.ResetHasTheInvariants : Prop :=
  QueueInv State.reset ∧ EventInv State.reset ∧ TxInv State.reset ∧ PullUpInv State.reset ∧ ExecInv State.reset ∧
    RingInv State.reset ∧ ViewInv State.reset ∧ pageSum State.reset = 1024

/-! ## Rules of the whole machine -/

/-- Only TIMEBASE_INCREMENT moves the timebase on, by one; only the two commands that can reset the part set it to 0 (R14). -/
def Obligations.OnlyTheIncrementMovesTime : Prop :=
  ∀ (c : Instr) (s t : State), exec c s = .next t →
    t.timebase = s.timebase ∨ (c = .timebaseIncrement ∧ t.timebase = s.timebase + 1) ∨
      (t.timebase = 0 ∧ (c = .powerOnReset ∨ ∃ tail, c = .transactionEnd tail))

/-- Frames are queued at the end of the outbound queue in the order in which they come, and only HEAD_FRAME_LEAVES takes one
away, the head (R9, R10), whatever the command, but for those that may empty the queue: the resets, the entry into AUTONOMOUS, and
an increment, which may carry it out (R16, R21). -/
def Obligations.QueueKeepsItsOrder : Prop :=
  ∀ (c : Instr) (s t : State), exec c s = .next t → c ≠ .powerOnReset → c ≠ .silenceTimerExpiry → c ≠ .timebaseIncrement →
    (∀ tail, c ≠ .transactionEnd tail) →
      ∃ k new, t.link.queue = s.link.queue.drop k ++ new ∧ k ≤ 1 ∧ (c ≠ .headFrameLeaves → k = 0)

/-- PORST releases ATTN, MISO and every output pin, and while it is asserted no command acts on the part but its release, the
edges of CSN and the levels of the input pins (R21, R78). That the input pins and CSN are followed meanwhile is the model's
reading (log entry 14). -/
def Obligations.PorstStopsThePart : Prop :=
  (∀ s : State, ∃ t, exec .porstAsserted s = .next t ∧
    t = { s with porst := true, link := { s.link with txn := t.link.txn } } ∧ t.link.txn ≠ .active ∧
      t.attn = false ∧ t.miso = .released ∧ t.misoFrame = none ∧ ∀ n o, t.outputPin n o = .released) ∧
  (∀ s : State, s.porst = true → s.miso = .released ∧ s.attn = false ∧ ∀ n o, s.outputPin n o = .released) ∧
  (∀ (c : Instr) (s : State), s.porst = true → heardUnderPorst c = false → exec c s = .next s)

/-- A request that is refused with any status changes nothing but the outbound queue, which gains the two-byte reply
(R8, R197). -/
def Obligations.RefusalChangesNothing : Prop :=
  ∀ (i : Instr) (f : Frame) (s : State) (r : Reply), i.frame = some f → i.wf = true → f.kind.toNat < 0x60 → Ready s →
    requestLength f.kind.toNat f.payload = some true →
    (runRequest f.kind.toNat f.tag f.payload (heard s)).2 = some r → r.status ≠ .ok →
      exec i s = .next ((heard s).enqueueReply f.kind f.tag (Reply.refuse r.status))

/-- ATTN is asserted while the outbound queue holds a frame and released while it holds none; a reset leaves PART_STARTED
in the queue and ATTN asserted; the entry into AUTONOMOUS releases it (R12). -/
def Obligations.AttnFollowsTheQueue : Prop :=
  (∀ s : State, s.porst = false → (s.attn = true ↔ s.link.queue ≠ [])) ∧
  (∀ s : State, ∃ t, exec .powerOnReset s = .next t ∧ t.attn = true) ∧
  (∀ (s : State) (tag : Byte) (tail : List Byte), s.porst = false → s.link.txn = .active → s.link.inbound = .ignore →
    s.link.resetPending = some tag → s.anyOutputActive = false → ∃ t, exec (.transactionEnd tail) s = .next t ∧ t.attn = true) ∧
  (∀ s : State, s.porst = false → s.isDue .silence = true → ∃ t, exec .silenceTimerExpiry s = .next t ∧ t.attn = false)

/-! ## The management link -/

/-- What the end of a power-on reset leaves (R13, R21, R36, R37, R57, R58, R67, R68, R72, R78, R80, R82, R92, R93, R97, R115, R120,
R143, R148, R170, R175, R184, R187, R189): State.reset in everything, but for the commands that wait, for a transaction that was
in progress, which is ignored, and for the sampled levels of the input pins, which are accepted and give each node's view; and
the values State.reset has. -/
def Obligations.PowerOnResets : Prop :=
  (∀ s : State, ∃ t, exec .powerOnReset s = .next t ∧
    (∀ n i, (t.node n).lines.input i =
      { pin := ((s.node n).lines.input i).pin, accepted := ((s.node n).lines.input i).pin, activeHigh := true, debounce := 10,
        candidate := none }) ∧
    (∀ n, (t.node n).lines.view = if (s.node n).lines.pgood.pin then .running else .standby) ∧
    t = { State.reset with
          pending := s.pending
          link := { State.reset.link with txn := if s.link.txn = .idle then .idle else .ignored }
          nodes := Vector.ofFn fun n : Node =>
            { State.reset.node n with
              lines := { (State.reset.node n).lines with
                          pgood := (t.node n).lines.pgood, auxin := (t.node n).lines.auxin, view := (t.node n).lines.view } } }) ∧
  State.reset.porst = false ∧ State.reset.timebase = 0 ∧ State.reset.due = [] ∧
  State.reset.link.queue = [{ kind := 0xE0, tag := 0, payload := [0x00, 0x44, 0x01] }] ∧ State.reset.link.noticeCount = 1 ∧
  State.reset.link.online = .online ∧ State.reset.link.silenceTimeout = 0 ∧ State.reset.link.threshold = 1 ∧
  State.reset.link.errors = { cutFrame := 0, badLength := 0, badCheck := 0, overrun := 0, badKind := 0, answerLength := 0 } ∧
  State.reset.link.waiting = [] ∧ State.reset.link.inbound = .ignore ∧ State.reset.link.shifting = false ∧
  State.reset.link.resetPending = none ∧ State.reset.events.owed = false ∧
  (∀ r ∈ State.reset.events.recs.toList, r = { level := 1, count := 0, lastDetail := 0, firstTime := none }) ∧
  State.reset.pool = { free := 960, waiting := [] } ∧ State.reset.lastServed = 3 ∧
  (∀ k : Fin 16, State.reset.texts[k] = [] ∧ State.reset.plans[k] = none) ∧
  State.reset.arbiter = { count := 1, holds := [], waiting := [] } ∧
  (State.reset.cache.limit = 64 ∧ State.reset.cache.depth = 2 ∧ State.reset.cache.timeout = 3000 ∧ State.reset.cache.lines = [] ∧
    State.reset.cache.slotWait = [] ∧ (∀ k : Fin 16, State.reset.cache.slots[k] = { ticket := 0, use := .free }) ∧
    ∀ k : Fin 32, State.reset.cache.writes[k] = { ticket := 0, use := none }) ∧
  ∀ n,
    (State.reset.node n).rx.settings =
      { rate := 4, parity := .none, recMax := 120, idleGap := 50, lineMode := true, echo := false, pacing := 0 } ∧
    (State.reset.node n).rx.inBreak = false ∧ (State.reset.node n).rx.opened = none ∧
    (State.reset.node n).hist =
      { filled := [], current := [], spare := 15, reserve := 16, maximum := 64, oldest := 0, next := 0, cursor := 0,
        streaming := false } ∧
    (State.reset.node n).tx.queue = [] ∧ (State.reset.node n).tx.inProgress = none ∧ (State.reset.node n).tx.lastWasByte = false ∧
    (∀ k : Fin 8, (State.reset.node n).patterns[k] = none) ∧ (State.reset.node n).window = [] ∧
    (State.reset.node n).exec = { run := none, last := none } ∧
    (∀ o, State.reset.output n o =
      { active := false, openDrain := decide (o ≠ .cut), activeHigh := decide (o = .cut), pulse := none }) ∧
    (State.reset.node n).lines.cutSettle = 2000 ∧ (State.reset.node n).lines.settleStart = none ∧
    (State.reset.node n).lines.cutFault = false ∧
    (State.reset.node n).port.state = .disabled ∧ (State.reset.node n).port.remembered = none ∧
    (State.reset.node n).port.enabled = false ∧ (State.reset.node n).port.always = false ∧ (State.reset.node n).port.delay = 1500 ∧
    (State.reset.node n).port.fullSpeedOnly = false ∧ (State.reset.node n).port.desc = none ∧
    (State.reset.node n).port.control = none ∧ (State.reset.node n).port.pendingIn = none ∧
    (State.reset.node n).port.address = 0 ∧ (State.reset.node n).port.pendingAddress = none ∧
    (State.reset.node n).port.configuration = false ∧ (State.reset.node n).port.high = false ∧
    (State.reset.node n).port.stagingBlocked = false ∧
    (State.reset.node n).ctx.phase = .expectCommand ∧ (State.reset.node n).ctx.command = none ∧
    (State.reset.node n).ctx.fwdState = .none ∧ (State.reset.node n).ctx.filling = none ∧
    ∀ u, State.reset.drive n u =
      { image := none, generation := 0, unitAttention := false, sense := none, remembered := none, blocksRead := 0, hits := 0,
        misses := 0, lastRead := none }


/-- The edges of CSN: a transaction begins with the assembly in HEADER and the part driving MISO, with the head frame from its
first byte and 00H behind it, or with 00H alone where the queue is empty (R1, R4, R11); it ends without trace where nothing is
held (R4); a frame cut short is discarded with CUT_FRAME (R4 to R6); one in which PORST was asserted was ignored (R21); and MISO
is released at the end of every transaction and while CSN is high (R1). That it stays released to the end of an ignored
transaction is the model's choice (log entry 50). -/
def Obligations.TransactionsBeginAndEnd : Prop :=
  (∀ s : State, s.porst = false → s.link.txn = .idle →
    exec .transactionStart s =
      .next (s.updLink fun l => { l with txn := .active, inbound := .header [], shifting := !l.queue.isEmpty }) ∧
    ∃ t, exec .transactionStart s = .next t ∧
      (s.link.queue = [] → t.miso = .zeros ∧ ∀ k, t.miso.byteAt k = some 0) ∧
      ∀ f q, s.link.queue = f :: q → t.miso = .frame f ∧ t.misoFrame = some f ∧ ∀ k, t.miso.byteAt k =
        some (if h : k < f.bytes.length then f.bytes[k] else 0)) ∧
  (∀ s : State, s.link.txn ≠ .active → s.miso = .released ∧ ∀ k, s.miso.byteAt k = none) ∧
  (∀ (s : State) (tail : List Byte), ∃ t, exec (.transactionEnd tail) s = .next t ∧ t.link.txn = .idle ∧ t.miso = .released) ∧
  (∀ (s : State) (tail : List Byte), Fresh s → s.link.resetPending = none → tail.headD 0 = 0 →
    exec (.transactionEnd tail) s = .next (s.updLink fun l => { l with txn := .idle, inbound := .ignore, shifting := false })) ∧
  (∀ (s : State) (k t : Byte) (p : List Byte) (j : Nat), Fresh s → s.link.resetPending = none → k ≠ 0 → p.length ≤ 600 →
    0 < j → j < 6 + p.length →
      ∃ u, exec (.transactionEnd ((frameBytes k t p).take j)) s = .next u ∧
        u = { s with link := u.link, events := u.events } ∧ u.link.txn = .idle ∧ u.link.inbound = .ignore ∧ u.link.shifting = false ∧
        u.link.errors = { s.link.errors with cutFrame := min 65535 (s.link.errors.cutFrame + 1) } ∧
        u.events.recs = (latch .linkError 1 s).events.recs) ∧
  ∀ (s : State) (tail : List Byte), s.link.txn = .ignored →
    exec (.transactionEnd tail) s = .next (s.updLink fun l => { l with txn := .idle })

/-- The discarded frames, each with its count and its LINK_ERROR cause (R4 to R7, R190): a declared length over 600; a check
that does not match; a kind from 64H to FFH; a request while the outbound queue is full; an answer of a wrong length. -/
def Obligations.DiscardedFramesAreCounted : Prop :=
  (∀ (k t : Byte) (d : BitVec 16) (s : State), Fresh s → k ≠ 0 → 600 < d.toNat →
    exec (.badLength k t d) s = .next (latch .linkError 2
      ((ignoring s).updLink fun l => { l with errors := { l.errors with badLength := min 65535 (l.errors.badLength + 1) } }))) ∧
  (∀ (k t : Byte) (p : List Byte) (c : BitVec 16) (s : State), Fresh s → k ≠ 0 → p.length ≤ 600 →
    c ≠ crc (headerBytes k t p.length ++ p) →
    exec (.badCheck k t p c) s = .next (latch .linkError 3
      ((ignoring s).updLink fun l => { l with errors := { l.errors with badCheck := min 65535 (l.errors.badCheck + 1) } }))) ∧
  (∀ (k t : Byte) (p : List Byte) (s : State), Fresh s → s.link.online = .online → 0x64 ≤ k.toNat → p.length ≤ 600 →
    exec (.badKind k t p) s = .next (latch .linkError 5
      ((heard s).updLink fun l => { l with errors := { l.errors with badKind := min 65535 (l.errors.badKind + 1) } }))) ∧
  (∀ (i : Instr) (f : Frame) (s : State), i.frame = some f → i.wf = true → f.kind.toNat < 0x60 → Fresh s →
    s.link.online = .online → 32 ≤ s.link.queue.length →
    exec i s = .next (latch .linkError 4
      ((heard s).updLink fun l => { l with errors := { l.errors with overrun := min 65535 (l.errors.overrun + 1) } }))) ∧
  ∀ (i : Instr) (f : Frame) (s : State), i.frame = some f → i.wf = true → 0x60 ≤ f.kind.toNat → f.kind.toNat ≤ 0x63 → Fresh s →
    s.link.online = .online → answerLengthOk f.kind.toNat f.payload = false →
    exec i s = .next (latch .linkError 6
      ((heard s).updLink fun l => { l with errors := { l.errors with answerLength := min 65535 (l.errors.answerLength + 1) } }))

/-- A request of an unassigned kind is answered UNKNOWN_KIND, and one of a length its kind does not allow BAD_LENGTH
(R7, R196). -/
def Obligations.UnservedRequestsAreAnswered : Prop :=
  (∀ (k t : Byte) (p : List Byte) (s : State), (Instr.unknownKind k t p).wf = true → Ready s →
    exec (.unknownKind k t p) s = .next ((heard s).enqueueReply k t (Reply.refuse .unknownKind))) ∧
  ∀ (i : Instr) (f : Frame) (s : State), i.frame = some f → i.wf = true → f.kind.toNat < 0x60 → Ready s →
    requestLength f.kind.toNat f.payload = some false →
    exec i s = .next ((heard s).enqueueReply f.kind f.tag (Reply.refuse .badLength))

/-- Latching (R189, R191, R193): the ids of the 52 sources; a source of level 0 is not latched; otherwise its record alone
changes, and at or above the attention threshold an EVENT_SUMMARY with the pending mask is queued, or stays owed where it
is not admitted. -/
def Obligations.LatchingCounts : Prop :=
  (∀ n k, ((Source.node n k).id : Nat) = 12 * n + k.idx) ∧ (∀ a b : Source, a.id = b.id → a = b) ∧
  ∀ (src : Source) (d : Nat) (s : State),
    (s.events.recs[src.id].level = 0 → latch src d s = s) ∧
    (s.events.recs[src.id].level ≠ 0 →
      (latch src d s).events.recs = s.events.recs.set src.id
        { level := s.events.recs[src.id].level, count := min 255 (s.events.recs[src.id].count + 1), lastDetail := d,
          firstTime := if s.events.recs[src.id].count = 0 then some s.timebase else s.events.recs[src.id].firstTime } ∧
      latch src d s = { s with link := (latch src d s).link, events := (latch src d s).events } ∧
      (s.events.recs[src.id].level < s.link.threshold →
        (latch src d s).link = s.link ∧ (latch src d s).events.owed = s.events.owed) ∧
      (s.link.threshold ≤ s.events.recs[src.id].level →
        if s.link.online = .online ∧ s.link.held = false ∧ s.link.queue.length ≤ 30 ∧ (∀ f ∈ s.link.queue, f.kind ≠ 0xE5) then
          (latch src d s).events.owed = false ∧ (latch src d s).link =
            { s.link with
              queue := s.link.queue ++ [{ kind := 0xE5, tag := s.link.noticeCount, payload := le 8 (latch src d s).pendingMask }],
              noticeCount := s.link.noticeCount + 1 }
        else (latch src d s).events.owed = true ∧ (latch src d s).link = s.link))

/-- The head frame leaves, with 00H on MISO behind it (R10, R11), and the waiting notices are offered again in their order: an owed EVENT_SUMMARY, then
the media notices, then one CON_DATA notice. -/
def Obligations.HeadFrameLeavesInOrder : Prop :=
  ∀ (f : Frame) (q : List Frame) (s : State), s.porst = false → s.link.txn = .active → s.link.shifting = true →
    s.link.queue = f :: q →
    (s.events.owed = false → s.link.waiting = [] → (∀ n, s.wantsToSend n = false) →
      exec .headFrameLeaves s = .next (s.updLink fun l => { l with queue := q, shifting := false })) ∧
    ∃ t new, exec .headFrameLeaves s = .next t ∧ t.link.queue = q ++ new ∧ t.link.shifting = false ∧ t.miso = .zeros ∧
      (∀ x ∈ new, x.kind ∈ [0xE1, 0xE2, 0xE3, 0xE4, 0xE5]) ∧
      (s.events.owed = true → s.link.online = .online → s.link.held = false → q.length ≤ 30 → (∀ x ∈ q, x.kind ≠ 0xE5) →
        (new.map Frame.kind).head? = some 0xE5) ∧
      (s.events.owed = false → s.link.online = .online → s.link.held = false → q.length ≤ 28 →
        ∀ i os l start ms, s.link.waiting = .fetch i :: os → s.slotLine i = some l → s.cache.slots[i].use = .offered start ms →
          new.head? = some { kind := 0xE2, tag := s.link.noticeCount, payload := fetchReq s i l }) ∧
      (s.events.owed = false → s.link.waiting = [] → s.link.held = false → q.length ≤ 20 → (∃ n, s.wantsToSend n = true) →
        new.map Frame.kind = [0xE1])

/-- The silence timer expires (R16, R56, R119, R167, R186, R194): the link is AUTONOMOUS with an empty queue; a removed
EVENT_SUMMARY is owed again, and a stream cursor is set back over the removed CON_DATA notices, to oldest_seq where the records
are gone; every fetch, waiting read, write entry and forward is lost, and what depended on it fails with 02/04/00, while VALID
lines are kept; the consoles, the lines, the executions, the transmitters and the arbiter go on as they are. The model's
choices: the waiting lists are emptied before anything else is freed, and the order of the rest (log entries 9 and 12); and the
earliest of a node's removed notices is the one that stood first in the queue (log entry 51). -/
def Obligations.SilenceEntersAutonomous : Prop :=
  ∀ s : State, s.porst = false → s.isDue .silence = true → ∃ t, exec .silenceTimerExpiry s = .next t ∧
    t.link.online = .autonomous ∧ t.link.queue = [] ∧ t.link.shifting = false ∧ t.link.autonomousMs = 0 ∧
    ((s.events.owed = true ∨ ∃ f ∈ s.link.queue, f.kind = 0xE5) → t.events.owed = true) ∧
    t.arbiter = s.arbiter ∧ t.texts = s.texts ∧ t.plans = s.plans ∧
    (∀ n, (t.node n).rx = (s.node n).rx ∧ (t.node n).tx = (s.node n).tx ∧ (t.node n).lines = (s.node n).lines ∧
      (t.node n).exec = (s.node n).exec ∧
      let h := (s.node n).hist
      let sent := s.link.queue.find? fun f => f.kind == 0xE1 && u8 f.payload 0 == n
      (sent = none → (t.node n).hist = h) ∧
      ∀ f, sent = some f →
        let first := w32 f.payload 1
        let behind := first ≠ h.cursor ∧ (h.cursor - first).toNat < 2 ^ 31
        let inside := (first - h.oldest).toNat < (h.next - h.oldest).toNat
        (¬behind → (t.node n).hist = h) ∧
        (behind → inside → (t.node n).hist = { h with cursor := first }) ∧
        (behind → ¬inside → 2 ^ 31 ≤ (first - h.next).toNat → (t.node n).hist = { h with cursor := h.oldest } ∧
          (h.streaming = true → s.events.recs[(Source.node n .streamGap).id].level ≠ 0 →
            t.events.recs[(Source.node n .streamGap).id].lastDetail = min 65535 (h.oldest - first).toNat))) ∧
    t.cache.slotWait = [] ∧ t.pool.waiting = [] ∧
    (∀ i : Fin 16, t.cache.slots[i].use = .free) ∧ (∀ i : Fin 32, t.cache.writes[i].use = none) ∧
    (t.cache.lines.filter fun l => decide (l.state = .valid)).map (fun l => (l.node, l.lun, l.generation, l.index, l.chunks)) =
      (s.cache.lines.filter fun l => decide (l.state = .valid)).map (fun l => (l.node, l.lun, l.generation, l.index, l.chunks)) ∧
    ∀ n, (t.node n).ctx.fwdState = .none ∧
      (∀ k, Reading s n k → (s.node n).ctx.fwdState = .none →
        (∃ w ∈ s.cache.slotWait ++ s.pool.waiting, w.node = n) ∨
          (∃ i : Fin 16, ∃ l ∈ s.slotLine i, s.occupied i = true ∧ l.state = .fetching i ∧ l.node = n ∧ 0 < l.pins) →
        (t.node n).ctx.result = .failed { key := 2, code := 4, qualifier := 0 } ∧ (t.node n).ctx.ask = none ∧
          (t.node n).ctx.command = some k) ∧
      (∀ k, (s.node n).ctx.command = some k → (s.node n).ctx.fwdState = .none → (s.node n).ctx.running = true →
        (s.node n).ctx.phase = .awaitHost → (s.node n).ctx.result = .passed →
        (∃ i : Fin 32, ∃ w ∈ s.cache.writes[i].use, w.node = n ∧ w.cancelled = false) →
        (t.node n).ctx.result = .failed { key := 2, code := 4, qualifier := 0 } ∧ (t.node n).ctx.phase = .status) ∧
      (∀ k, (s.node n).ctx.command = some k → (s.node n).ctx.fwdState ≠ .none → (s.node n).ctx.running = false →
        (t.node n).ctx.result = .failed { key := 2, code := 4, qualifier := 0 } ∧
          (t.node n).ctx.phase = if k.dirIn = true ∧ 0 < k.expected then .dataIn else .status) ∧
      ((∃ i : Fin 32, ∃ w ∈ s.cache.writes[i].use, w.node = n) ∨
          (∃ i : Fin 16, ∃ l ∈ s.slotLine i, s.occupied i = true ∧ l.state = .fetching i ∧ l.node = n) →
        s.events.recs[(Source.node n .mediaError).id].level ≠ 0 → 0 < t.events.recs[(Source.node n .mediaError).id].count)


/-- The first frame taken while AUTONOMOUS, of any kind, returns the link to ONLINE (R17): the silence timer restarts, LINK_RESUMED is
latched with the seconds away (an EVENT_TAKE may take it at once), and the reply to a request stands in the queue before every
notice; a PART_RESET that is carried out has no reply (R20). -/
def Obligations.FirstFrameReturnsTheLink : Prop :=
  ∀ (s : State) (i : Instr) (f : Frame), i.frame = some f → i.wf = true → Fresh s → s.link.online = .autonomous → s.link.queue = [] →
    ∃ t, exec i s = .next t ∧
    t.link.online = .online ∧ t.link.silenceStart = s.timebase ∧ t.link.autonomousMs = 0 ∧ t.link.held = false ∧
    t.link.inbound = .ignore ∧ t.timebase = s.timebase ∧
    (f.kind ≠ 0x41 → s.events.recs[49].level ≠ 0 →
      t.events.recs[49].lastDetail = min 65535 (s.link.autonomousMs / 1000) ∧
      t.events.recs[49].count = min 255 (s.events.recs[49].count + 1)) ∧
    (f.kind.toNat < 0x60 → ¬(f.kind = 0x04 ∧ f.payload = [] ∧ s.anyOutputActive = false) →
      t.link.queue.head?.map (fun r => (r.kind, r.tag)) = some (f.kind + 0x80, f.tag)) ∧
    (f.kind = 0x04 → f.payload = [] → s.anyOutputActive = false → t.link.resetPending = some f.tag) ∧
    (f.kind = 0x01 → f.payload = [] →
      t.link.queue.head? = some { kind := 0x81, tag := f.tag, payload := [0, 0] ++ le 4 s.timebase.toNat })


/-- NOP is answered with the timebase and PART_INFO with the part's identity, the timebase and the link error record; neither
has any other effect; with a payload of the wrong length either is answered BAD_LENGTH, with no further field (R18). -/
def Obligations.NopAndPartInfoReport : Prop :=
  ∀ (s : State) (tag : Byte), Ready s →
    (∀ p : List Byte, p ≠ [] → p.length ≤ 600 →
      exec (.nop tag p) s = .next ((heard s).enqueueReply 0x01 tag (Reply.refuse .badLength)) ∧
        exec (.partInfo tag p) s = .next ((heard s).enqueueReply 0x02 tag (Reply.refuse .badLength))) ∧
    exec (.nop tag []) s = .next ((heard s).enqueueReply 0x01 tag (Reply.okay false (le 4 s.timebase.toNat))) ∧
    exec (.partInfo tag []) s = .next ((heard s).enqueueReply 0x02 tag (Reply.okay false
      ([0x44, 0x01, 4] ++ le 2 1024 ++ le 4 s.timebase.toNat
        ++ le 2 s.link.errors.cutFrame ++ le 2 s.link.errors.badLength ++ le 2 s.link.errors.badCheck
        ++ le 2 s.link.errors.overrun ++ le 2 s.link.errors.badKind ++ le 2 s.link.errors.answerLength)))

/-- LINK_CONFIG (R19): a silence timeout of 0 turns the timer off, one from 1 to 99 is moved to 100 and one over 60000 to 60000;
the attention threshold is moved into 1 to 3; each move is ADJUSTED, and both come into force, the timer from the moment of the
request on. A timeout of 0 never expires; after a reset the two are 0 and 1. -/
def Obligations.LinkConfigSets : Prop :=
  (State.reset.link.silenceTimeout = 0 ∧ State.reset.link.threshold = 1) ∧
  (∀ s : State, s.link.online = .online → (expired s .silence = true ↔
    0 < s.link.silenceTimeout ∧ s.link.silenceTimeout ≤ (s.timebase - s.link.silenceStart).toNat)) ∧
  (∀ s : State, (heard s).link.silenceStart = s.timebase) ∧
  ∀ (s : State) (tag : Byte) (v : Nat) (w : Byte), Ready s → v < 65536 →
    let silence := if v = 0 then 0 else if v < 100 then 100 else if 60000 < v then 60000 else v
    let threshold := if w.toNat < 1 then 1 else if 3 < w.toNat then 3 else w.toNat
    exec (.linkConfig tag (le 2 v ++ [w])) s =
      .next (((heard s).updLink fun l => { l with silenceTimeout := silence, threshold := threshold }).enqueueReply 0x03 tag
        (Reply.okay (decide (silence ≠ v ∨ threshold ≠ w.toNat)) (le 2 silence ++ [BitVec.ofNat 8 threshold])))

/-- PART_RESET (R20): refused with BUSY while an output is active; otherwise it waits, unanswered, for the rise of CSN, where the
part is reset as by a power-on reset but with reason REQUESTED, unless an output has become active: then BUSY is answered if the
link is ONLINE, and nothing if it is AUTONOMOUS. -/
def Obligations.PartResetWaitsForCsn : Prop :=
  (∀ (s : State) (tag : Byte), Ready s → s.anyOutputActive = true →
    exec (.partReset tag []) s = .next ((heard s).enqueueReply 0x04 tag (Reply.refuse .busy))) ∧
  (∀ (s : State) (tag : Byte), Ready s → s.anyOutputActive = false →
    exec (.partReset tag []) s = .next ((heard s).updLink fun l => { l with resetPending := some tag })) ∧
  (∀ (s : State) (tag : Byte) (tail : List Byte), s.link.txn = .active → s.link.inbound = .ignore →
    s.link.resetPending = some tag → s.anyOutputActive = false →
    ∃ t, exec .powerOnReset { s with link := { s.link with txn := .idle } } = .next t ∧ exec (.transactionEnd tail) s =
      .next { t with link := { t.link with queue := [{ kind := 0xE0, tag := 0, payload := [0x01, 0x44, 0x01] }] } }) ∧
  (∀ (s : State) (tag : Byte) (tail : List Byte), s.link.txn = .active → s.link.inbound = .ignore →
    s.link.resetPending = some tag → s.anyOutputActive = true → s.link.online = .autonomous →
    exec (.transactionEnd tail) s =
      .next (s.updLink fun l => { l with txn := .idle, inbound := .ignore, shifting := false, resetPending := none })) ∧
  ∀ (s : State) (tag : Byte) (tail : List Byte), s.link.txn = .active → s.link.inbound = .ignore →
    s.link.resetPending = some tag → s.anyOutputActive = true → s.link.online = .online →
    exec (.transactionEnd tail) s =
      .next ((s.updLink fun l => { l with txn := .idle, inbound := .ignore, shifting := false, resetPending := none }).enqueueReply 0x04 tag
        (Reply.refuse .busy))

/-- The timebase increases by one (R14), the time away is counted while AUTONOMOUS (R17), and the timers that have expired at
the new value become due; where nothing was due and no item waits to be sent, nothing else changes. That expiries are commands
of their own is the model's choice (log entry 4). -/
def Obligations.TimebaseIncreases : Prop :=
  (∀ s : State, s.porst = false → ∃ t, exec .timebaseIncrement s = .next t ∧ t.timebase = s.timebase + 1 ∧
    ∀ x, x ∈ t.due ↔ x ∈ allTimers t ∧ expired t x = true) ∧
  ∀ s : State, s.porst = false → s.due = [] → (∀ n, (s.node n).tx.queue = []) → ∃ t, exec .timebaseIncrement s = .next t ∧
    t = { s with
          timebase := s.timebase + 1, due := t.due,
          link := { s.link with
                    autonomousMs := if s.link.online = .autonomous then min 65535000 (s.link.autonomousMs + 1) else s.link.autonomousMs } }
/-! ## Buffer memory -/

/-- POOL_CONFIG (R26 to R28): the node, the range of the two settings and the sum of the reserves are checked, then the supply;
an accepted request sets the two, and the ring gains the pages its reserve asks for or gives up spare pages over its
maximum. -/
def Obligations.PoolConfigSetsTheRing : Prop :=
  ∀ (s : State) (tag : Byte) (p : List Byte), Ready s → p.length = 5 →
    let reserve := clamp 4 64 (u16 p 1)
    let maximum := clamp reserve 256 (u16 p 3)
    let adjusted := decide (reserve ≠ u16 p 1 ∨ maximum ≠ u16 p 3)
    (3 < u8 p 0 → exec (.poolConfig tag p) s = .next ((heard s).enqueueReply 0x08 tag (Reply.refuse .badArg))) ∧
    ∀ n : Node, (n : Nat) = u8 p 0 →
      let h := (s.node n).hist
      let others := ((allNodes.filter (· ≠ n)).map fun m => (s.node m).hist.reserve).sum
      (512 < reserve + others → exec (.poolConfig tag p) s = .next ((heard s).enqueueReply 0x08 tag (Reply.refuse .badArg))) ∧
      (reserve + others ≤ 512 →
        s.pool.free + 8 * (s.cache.lines.filter fun l => decide (l.state = .valid) && l.pins == 0).length < reserve - h.holding →
        exec (.poolConfig tag p) s = .next ((heard s).enqueueReply 0x08 tag (Reply.refuse .noSpace))) ∧
      (reserve + others ≤ 512 → s.pool.waiting = [] → reserve ≤ h.holding → h.holding - maximum ≤ h.spare →
        exec (.poolConfig tag p) s =
          .next ((((heard s).updHist n fun h =>
              { h with reserve := reserve, maximum := maximum, spare := h.spare - (h.holding - maximum) }).updPool fun q =>
              { q with free := q.free + (h.holding - maximum) }).enqueueReply 0x08 tag
            (Reply.okay adjusted (le 2 reserve ++ le 2 maximum ++ le 2 (min h.holding maximum)
              ++ le 2 (s.pool.free + (h.holding - maximum)))))) ∧
      (reserve + others ≤ 512 → s.pool.waiting = [] → h.holding < reserve → reserve - h.holding ≤ s.pool.free →
        exec (.poolConfig tag p) s =
          .next ((((heard s).updHist n fun h =>
              { h with reserve := reserve, maximum := maximum, spare := h.spare + (reserve - h.holding) }).updPool fun q =>
              { q with free := q.free - (reserve - h.holding) }).enqueueReply 0x08 tag
            (Reply.okay adjusted (le 2 reserve ++ le 2 maximum ++ le 2 reserve ++ le 2 (s.pool.free - (reserve - h.holding))))))

/-- The free pages, the pages of the four rings, eight times the cache lines, the staging pages and the descriptor pages come to
1024 after every step that begins with 1024 (R22), in every state whose rings are as RingInv says, which every step keeps; the
state after reset begins so. Pages pass from one owner to another and none is lost (R24, R25, R27 to R30): at the writing of
any record, at every change of a ring's settings, and at a demand allocation, whose eight pages are then the asker's. -/
def Obligations.PagesAreConserved : Prop :=
  (∀ s t : State, RingInv s → pageSum s = 1024 → step s = .next t → pageSum t = 1024) ∧
  (∀ (n : Node) (ts : Word32) (b : RecBody) (s : State), pageSum (appendRec n ts b s) = pageSum s) ∧
  (∀ (n : Node) (reserve maximum : Nat) (s : State), (∀ m, 1 ≤ (s.node m).hist.reserve) → 4 ≤ reserve → reserve ≤ maximum →
    reserve - (s.node n).hist.holding ≤ s.supply → pageSum (setRing n reserve maximum s) = pageSum s) ∧
  ∀ s t : State, (∀ m, 1 ≤ (s.node m).hist.reserve) → demandAlloc s = .got t → pageSum t + 8 = pageSum s

/-- A demand allocation (R29 to R31) takes free pages while the line limit allows, else the pages of the least recently used
line that may be evicted, else pages trimmed from the rings, each from the ring of the greatest surplus and of the lowest number
among equals, never below a reserve, with one POOL_PRESSURE TRIM; where that does not come to 8, or at the limit, it waits,
unless the limit is 0. A waiting one is granted at a retry (R31, R176); that a retry that can grant none changes nothing is also
what log entry 36 chooses for its row. A prefetch run (R32, R182) takes its indices in order: it skips a line that is held, and
stops past the last line, with fewer than 5 free slots, at a SUSPENDED port, while AUTONOMOUS, and where it would have to trim
or wait. -/
def Obligations.DemandAllocationInOrder : Prop :=
  (∀ s : State, s.cache.lines.length < s.cache.limit → 8 ≤ s.pool.free →
    demandAlloc s = .got (s.updPool fun p => { p with free := p.free - 8 })) ∧
  (∀ (s : State) (a b : List Line) (l : Line), ¬(s.cache.lines.length < s.cache.limit ∧ 8 ≤ s.pool.free) →
    s.cache.lines = a ++ l :: b → (∀ x ∈ a, x.evictable = false) → l.evictable = true →
    demandAlloc s = .got (s.updCache fun c => { c with lines := a ++ b })) ∧
  (∀ s : State, (∀ l ∈ s.cache.lines, l.evictable = false) → s.cache.limit ≤ s.cache.lines.length →
    demandAlloc s = if s.cache.limit = 0 then .fails else .waits) ∧
  (∀ s : State, (∀ l ∈ s.cache.lines, l.evictable = false) → s.cache.lines.length < s.cache.limit →
    s.pool.free + s.totalSurplus < 8 → demandAlloc s = .waits) ∧
  (∀ s : State, RingInv s → (∀ l ∈ s.cache.lines, l.evictable = false) → s.cache.lines.length < s.cache.limit → s.pool.free < 8 →
    8 ≤ s.pool.free + s.totalSurplus → ∃ t, demandAlloc s = .got t ∧ t.pool.free = 0 ∧ t.cache = s.cache ∧
      (allNodes.map fun n => (t.node n).hist.holding).sum + (8 - s.pool.free) = (allNodes.map fun n => (s.node n).hist.holding).sum ∧
      (∀ n, (t.node n).hist.reserve = (s.node n).hist.reserve ∧ (t.node n).hist.reserve ≤ (t.node n).hist.holding) ∧
      (∀ n m, (t.node n).hist.surplus < (s.node n).hist.surplus → (t.node m).hist.surplus ≤ (t.node n).hist.surplus + 1) ∧
      (s.events.recs[Source.poolPressure.id].level ≠ 0 → t.events.recs[Source.poolPressure.id].lastDetail = 1 ∧
        t.events.recs[Source.poolPressure.id].count = min 255 (s.events.recs[Source.poolPressure.id].count + 1))) ∧
  (∀ (s : State) (n : Node), (∀ l ∈ s.cache.lines, l.evictable = false) → s.cache.lines.length < s.cache.limit → s.pool.free = 7 →
    0 < (s.node n).hist.surplus → (∀ m, m < n → (s.node m).hist.surplus < (s.node n).hist.surplus) →
    (∀ m, n < m → (s.node m).hist.surplus ≤ (s.node n).hist.surplus) →
    (0 < (s.node n).hist.spare → demandAlloc s =
      .got (latch .poolPressure 1 ((s.updPool fun p => { p with free := 0 }).updHist n fun h => { h with spare := h.spare - 1 }))) ∧
    ∀ r, (s.node n).hist.spare = 0 → ((s.node n).hist.filled.head?.bind List.getLast?) = some r → ∃ t, demandAlloc s = .got t ∧
      (t.node n).hist.filled = (s.node n).hist.filled.tail ∧ (t.node n).hist.oldest = r.seq + 1) ∧
  (∀ (s : State) (n : Node) (u : Lun) (k j : Nat),
    let stops := prefetchRun n u (k + 1) j s = s
    let held := s.findLine n u (s.drive n u).generation j
    prefetchRun n u 0 j s = s ∧
    ((s.drive n u).lineCount ≤ j → stops) ∧
    (j < (s.drive n u).lineCount → held ≠ none → prefetchRun n u (k + 1) j s = prefetchRun n u k (j + 1) s) ∧
    (held = none → s.freeSlots < 5 ∨ (s.node n).port.state = .suspended ∨ s.link.online = .autonomous → stops) ∧
    (held = none → (∀ l ∈ s.cache.lines, l.evictable = false) → s.cache.limit ≤ s.cache.lines.length ∨ s.pool.free < 8 → stops) ∧
    ∀ i, j < (s.drive n u).lineCount → held = none → 5 ≤ s.freeSlots → (s.node n).port.state ≠ .suspended → s.link.online = .online →
      s.cache.lines.length < s.cache.limit → 8 ≤ s.pool.free → s.lowestFreeSlot = some i →
      ∃ t, prefetchRun n u (k + 1) j s = prefetchRun n u k (j + 1) t ∧
        t = { s with link := t.link, pool := { s.pool with free := s.pool.free - 8 }, cache := t.cache } ∧
        t.cache.lines = s.cache.lines ++
          [{ node := n, lun := u, generation := (s.drive n u).generation, index := j, state := .fetching i,
             chunks := Vector.replicate 8 none, pins := 0 }] ∧
        t.cache.slots[i].ticket = s.cache.slots[i].ticket + 1 ∧
        (t.cache.slots[i].use = .offered s.timebase s.cache.timeout ∨ t.cache.slots[i].use = .sent s.timebase s.cache.timeout)) ∧
  (∀ (s : State) (w : Waiter) (i : Fin 16) (c : Command) (a : Ask), s.porst = false → s.pool.waiting = [w] →
    s.cache.lines.length < s.cache.limit → 8 ≤ s.pool.free → s.reservedSlot w.node = some i →
    (s.node w.node).ctx.command = some c → (s.node w.node).ctx.ask = some a → ∃ t, exec .waitingAllocationRetry s = .next t ∧
      t.pool = { free := s.pool.free - 8, waiting := [] } ∧
      t.cache.lines = s.cache.lines ++
        [{ node := w.node, lun := c.lun, generation := (s.drive w.node c.lun).generation, index := a.index,
           state := .fetching i, chunks := Vector.replicate 8 none, pins := 1 }] ∧
      t.cache.slots[i].ticket = s.cache.slots[i].ticket + 1 ∧
      (t.cache.slots[i].use = .offered s.timebase s.cache.timeout ∨ t.cache.slots[i].use = .sent s.timebase s.cache.timeout) ∧
      ((t.node w.node).ctx.ask.map Ask.state) = some .attached) ∧
  ∀ (s : State) (w : Waiter) (ws : List Waiter), s.porst = false → s.pool.waiting = w :: ws → demandAlloc s = .waits →
    exec .waitingAllocationRetry s = .next s

/-! ## Console capture and history -/

/-- Every record and marker takes next_seq as its seq, which increases by one, and stands last in the current page of its
node's ring (R45, R46, R48); no other ring's contents change, nor what a node holds beside its ring. -/
def Obligations.RecordTakesNextSeq : Prop :=
  ∀ (n : Node) (ts : Word32) (b : RecBody) (s : State),
    ((appendRec n ts b s).node n).hist.next = (s.node n).hist.next + 1 ∧
    ((appendRec n ts b s).node n).hist.current.getLast? = some { seq := (s.node n).hist.next, timestamp := ts, body := b } ∧
    (appendRec n ts b s).timebase = s.timebase ∧
    ∀ m, ((appendRec n ts b s).node m).rx = (s.node m).rx ∧ ((appendRec n ts b s).node m).tx = (s.node m).tx ∧
      ((appendRec n ts b s).node m).lines = (s.node m).lines ∧ ((appendRec n ts b s).node m).exec = (s.node m).exec ∧
      ((appendRec n ts b s).node m).port = (s.node m).port ∧ ((appendRec n ts b s).node m).ctx = (s.node m).ctx ∧
      (m ≠ n → ((appendRec n ts b s).node m).hist =
        { (s.node m).hist with cursor := ((appendRec n ts b s).node m).hist.cursor })

/-- A character received in MARK (R40, R41, R43, R44, R72): its byte is placed in the open record, or in one it opens, with its
error flags; an error latches CON_LINE_ERROR; the record closes on a line feed in line mode and when it is full; the byte goes
to the match window last. In BREAK nothing is received (R42); a framing error with all data bits zero is no byte but starts a
break, whatever its parity bit. That a parity error counts only while a parity is set, and that CON_LINE_ERROR is latched before
the record closes, are the model's reading (log entries 33 and 34). -/
def Obligations.CharacterIsPlaced : Prop :=
  ∀ (s : State) (n : Node) (b : Byte) (framing parity : Bool), s.porst = false →
    ((s.node n).rx.inBreak = true → exec (.characterReceived n b framing parity) s = .next s) ∧
    ((s.node n).rx.inBreak = false → exec (.characterReceived n 0 true parity) s = exec (.breakStart n parity) s) ∧
    ((s.node n).rx.inBreak = false → ¬(framing = true ∧ b = 0) →
      let c := (s.node n).rx.settings
      let bad := parity && decide (c.parity ≠ .none)
      let old : OpenRec := match (s.node n).rx.opened with
        | none => { timestamp := s.timebase, lastByte := s.timebase, flags := RecFlags.none, payload := [] }
        | some o => o
      let o : OpenRec :=
        { old with lastByte := s.timebase, payload := old.payload ++ [b],
                   flags := { old.flags with framing := old.flags.framing || framing, parity := old.flags.parity || bad } }
      let placed := s.updRx n fun r => { r with opened := some o }
      let noted := if framing = true ∨ bad = true then
          latch (.node n .conLineError) ((if framing = true then 1 else 0) + (if bad = true then 2 else 0)) placed
        else placed
      let line := c.lineMode && b == 0x0A
      let full := decide (c.recMax ≤ o.payload.length)
      exec (.characterReceived n b framing parity) s =
        .next (windowByte n b
          (if line = true ∨ full = true then
            closeOpen n { framing := false, parity := false, brk := false, gap := false, full := full, line := line } noted
          else noted)))

/-- A break (R42) puts the receiver in BREAK, closes the open record with the BREAK flag, latches CON_BREAK_IN with the low half of
next_seq and empties the match window; its end returns the receiver to MARK. The idle gap closes the open record with the
GAP flag (R44). -/
def Obligations.BreakAndIdleGapClose : Prop :=
  (∀ (s : State) (n : Node) (parity : Bool), s.porst = false → (s.node n).rx.inBreak = false → ∃ t,
    exec (.breakStart n parity) s = .next t ∧ (t.node n).rx = { (s.node n).rx with inBreak := true, opened := none } ∧
    (t.node n).window = [] ∧ (t.node n).patterns = (s.node n).patterns ∧
    (∀ o, (s.node n).rx.opened = some o → (t.node n).hist.current.getLast? =
      some { seq := (s.node n).hist.next, timestamp := o.timestamp, body := .text { o.flags with brk := true } o.payload }) ∧
    ((s.node n).rx.opened = none → (t.node n).hist.next = (s.node n).hist.next) ∧
    (s.events.recs[(Source.node n .conBreakIn).id].level ≠ 0 →
      t.events.recs[(Source.node n .conBreakIn).id].lastDetail = (t.node n).hist.next.toNat % 65536)) ∧
  (∀ (s : State) (n : Node), s.porst = false →
    exec (.breakEnd n) s = .next (s.updRx n fun r => { r with inBreak := false })) ∧
  ∀ (s : State) (n : Node), s.porst = false → s.isDue (.idleGap n) = true → ∃ o t, (s.node n).rx.opened = some o ∧
    exec (.idleGapExpiry n) s = .next t ∧ (t.node n).rx = { (s.node n).rx with opened := none } ∧
    (t.node n).hist.next = (s.node n).hist.next + 1 ∧ (t.node n).window = (s.node n).window ∧
    (t.node n).hist.current.getLast? =
      some { seq := (s.node n).hist.next, timestamp := o.timestamp, body := .text { o.flags with gap := true } o.payload }

/-- HIST_READ (R49, R51, R52): from_seq is classed; the records taken are the longest run from there whose stored sizes come to no
more than max_bytes; and the reply names the first of them, tells whether the read was truncated and whether it reached the
end. -/
def Obligations.HistoryIsRead : Prop :=
  (∀ (room : Nat) (rs : List Rec), ∃ rest, rs = takeRecords room rs ++ rest ∧ pageUsed (takeRecords room rs) ≤ room ∧
    ∀ r ∈ rest.head?, room < pageUsed (takeRecords room rs) + r.size) ∧
  (∀ (s : State) (tag : Byte) (p : List Byte), Ready s → p.length = 7 → 3 < u8 p 0 →
    exec (.histRead tag p) s = .next ((heard s).enqueueReply 0x11 tag (Reply.refuse .badArg))) ∧
  ∀ (s : State) (tag : Byte) (p : List Byte) (n : Node), Ready s → p.length = 7 → (n : Nat) = u8 p 0 →
    let h := (s.node n).hist
    let q := w32 p 1
    let start := match h.classify q with
      | .inHistory => q
      | .before => h.oldest
      | .atOrAfter => h.next
    let rs := if start = h.next then [] else takeRecords (min 512 (u16 p 5)) (h.records.drop (start - h.oldest).toNat)
    let after := start + BitVec.ofNat 32 rs.length
    exec (.histRead tag p) s = .next ((heard s).enqueueReply 0x11 tag
      (Reply.okay (decide (512 < u16 p 5))
        ([BitVec.ofNat 8 n, BitVec.ofNat 8 ((if h.classify q = .before then 1 else 0) + (if after = h.next then 2 else 0))]
          ++ le 4 h.oldest.toNat ++ le 4 h.next.toNat ++ [BitVec.ofNat 8 rs.length] ++ le 4 after.toNat
          ++ (rs.map Rec.bytes).flatten)))

/-- STREAM_SET (R53 to R55): OFF ends streaming and leaves the cursor; ON sets the cursor where from_seq is classed, and an offer
follows, which queues a CON_DATA notice only with 12 entries free. A served node's cursor moves past the records carried. -/
def Obligations.StreamingIsSet : Prop :=
  (∀ (s : State) (tag : Byte) (p : List Byte) (n : Node), Ready s → p.length = 6 → (n : Nat) = u8 p 0 → u8 p 1 = 0 →
    exec (.streamSet tag p) s =
      .next (((heard s).updHist n fun h => { h with streaming := false }).enqueueReply 0x12 tag
        (Reply.okay false ([0] ++ le 4 (s.node n).hist.cursor.toNat ++ le 4 (s.node n).hist.oldest.toNat
          ++ le 4 (s.node n).hist.next.toNat)))) ∧
  (∀ (s : State) (tag : Byte) (p : List Byte) (n : Node), Ready s → p.length = 6 → (n : Nat) = u8 p 0 → u8 p 1 = 1 →
    20 < s.link.queue.length →
    let h := (s.node n).hist
    let c := match h.classify (w32 p 2) with
      | .inHistory => w32 p 2
      | .before => h.oldest
      | .atOrAfter => h.next
    exec (.streamSet tag p) s =
      .next (((heard s).updHist n fun h => { h with streaming := true, cursor := c }).enqueueReply 0x12 tag
        (Reply.okay (decide (c ≠ w32 p 2)) ([1] ++ le 4 c.toNat ++ le 4 h.oldest.toNat ++ le 4 h.next.toNat)))) ∧
  ∀ (s : State) (n : Node), s.admits 12 = true → (arbiterOrder s.lastServed).find? s.wantsToSend = some n →
    let h := (s.node n).hist
    let rs := takeRecords 512 (h.records.drop (h.cursor - h.oldest).toNat)
    streamOffer s =
      { ((s.enqueueNotice 0xE1
            ([BitVec.ofNat 8 n] ++ le 4 h.cursor.toNat ++ [BitVec.ofNat 8 rs.length] ++ (rs.map Rec.bytes).flatten)).updHist n
          (fun h => { h with cursor := h.cursor + BitVec.ofNat 32 rs.length })) with
        lastServed := n }

/-! ## The consoles -/

/-- CON_CONFIG (R37 to R39): the refusals; the settings that come into force, with the values out of range moved; a changed rate
or parity, which appends a RATE_CHANGED marker; and an open record that the new record maximum closes. That the reply stands
last, behind a CON_DATA notice that the appended records may admit, is read from R8 (log entry 10, DEDUCED). No idle gap is due
at the time: what a repeated gap does to a due expiry is the model's choice (log entry 45), of which nothing is said here. -/
def Obligations.ConsoleIsConfigured : Prop :=
  ∀ (s : State) (tag : Byte) (p : List Byte), Ready s → p.length = 9 →
    ((3 < u8 p 0 ∨ 7 < u8 p 1 ∨ 2 < u8 p 2 ∨ 1 < u8 p 6 ∨ 1 < u8 p 7) →
      exec (.conConfig tag p) s = .next ((heard s).enqueueReply 0x10 tag (Reply.refuse .badArg))) ∧
    ∀ (n : Node) (parity : Parity), (n : Nat) = u8 p 0 → u8 p 1 ≤ 7 → u8 p 2 = parity.num → u8 p 6 ≤ 1 → u8 p 7 ≤ 1 →
      .idleGap n ∉ s.due →
      let old := (s.node n).rx.settings
      let c : Settings :=
        { rate := u8 p 1, parity := parity, recMax := clamp 16 240 (u8 p 3), idleGap := clamp 1 1000 (u16 p 4),
          lineMode := decide (u8 p 6 = 1), echo := decide (u8 p 7 = 1), pacing := clamp 0 50 (u8 p 8) }
      let adjusted := decide (c.recMax ≠ u8 p 3 ∨ c.idleGap ≠ u16 p 4 ∨ c.pacing ≠ u8 p 8)
      let fields := [BitVec.ofNat 8 c.rate, BitVec.ofNat 8 parity.num, BitVec.ofNat 8 c.recMax] ++ le 2 c.idleGap ++
        [BitVec.ofNat 8 (u8 p 6), BitVec.ofNat 8 (u8 p 7), BitVec.ofNat 8 c.pacing]
      (c.rate = old.rate → c.parity = old.parity → (∀ o, (s.node n).rx.opened = some o → o.payload.length < c.recMax) →
        exec (.conConfig tag p) s =
          .next (((heard s).updRx n fun r => { r with settings := c }).enqueueReply 0x10 tag (Reply.okay adjusted fields))) ∧
      (c.rate ≠ old.rate ∨ c.parity ≠ old.parity → ∃ t, exec (.conConfig tag p) s = .next t ∧
        (t.node n).rx = { (s.node n).rx with settings := c, opened := none } ∧
        (t.node n).hist.next = (s.node n).hist.next + (if (s.node n).rx.opened.isSome then 2 else 1) ∧
        (t.node n).hist.current.getLast? =
          some { seq := (t.node n).hist.next - 1, timestamp := s.timebase, body := .marker 7 (c.rate + 256 * parity.num) } ∧
        t.link.queue.getLast? =
          some { kind := 0x90, tag := tag, payload := [0, if adjusted = true then 1 else 0] ++ fields }) ∧
      ∀ o, c.rate = old.rate → c.parity = old.parity → (s.node n).rx.opened = some o → c.recMax ≤ o.payload.length →
        ∃ t, exec (.conConfig tag p) s = .next t ∧ (t.node n).rx = { (s.node n).rx with settings := c, opened := none } ∧
          (t.node n).hist.current.getLast? =
            some { seq := (s.node n).hist.next, timestamp := o.timestamp, body := .text { o.flags with full := true } o.payload }

/-- TEXT_LOAD, PAT_LOAD and PAT_ARM (R67, R69, R70): what each refuses, and the stored text or pattern record it leaves. After a
reset every text is empty, and a SEND_TEXT step whose text is empty fails at once (R64, R67). -/
def Obligations.TextsAndPatternsAreLoaded : Prop :=
  (∀ (s : State) (tag i : Byte) (text : List Byte), Ready s → text.length ≤ 32 →
    (15 < i.toNat → exec (.textLoad tag (i :: text)) s = .next ((heard s).enqueueReply 0x16 tag (Reply.refuse .badArg))) ∧
    ∀ k : Fin 16, (k : Nat) = i.toNat →
      ((∃ n, s.waitingOn n .waitingQueue = some (.sendText k)) →
        exec (.textLoad tag (i :: text)) s = .next ((heard s).enqueueReply 0x16 tag (Reply.refuse .busy))) ∧
      ((∀ n, s.waitingOn n .waitingQueue ≠ some (.sendText k)) →
        exec (.textLoad tag (i :: text)) s =
          .next (({ heard s with texts := s.texts.set k text } : State).enqueueReply 0x16 tag
            (Reply.okay false [i, BitVec.ofNat 8 text.length])))) ∧
  (∀ k : Fin 16, State.reset.texts[k] = []) ∧
  (∀ (s : State) (tag : Byte) (p : List Byte), Ready s → 33 < p.length → p.length ≤ 600 →
    exec (.textLoad tag p) s = .next ((heard s).enqueueReply 0x16 tag (Reply.refuse .badLength))) ∧
  (∀ (s : State) (tag : Byte) (n : Node) (k x : Fin 16) (pl : Plan) (limit : Nat), Ready s → s.plans[k] = some pl →
    s.hostPulse n = false → (s.node n).exec.run = none →
    pl.steps = [{ kind := .sendText x, timeout := limit, onFail := .abort }] → s.texts[x] = [] →
    ∃ t, exec (.planStart tag [BitVec.ofNat 8 n, BitVec.ofNat 8 k]) s = .next t ∧
      (t.node n).exec = { run := none, last := some { result := .failed, plan := k, step := 0, time := s.timebase } } ∧
      (t.node n).tx = (s.node n).tx) ∧
  (∀ (s : State) (tag : Byte) (p : List Byte), Ready s →
    (42 < p.length → p.length ≤ 600 → exec (.patLoad tag p) s = .next ((heard s).enqueueReply 0x17 tag (Reply.refuse .badLength))) ∧
    (10 ≤ p.length → p.length ≤ 42 →
      3 < u8 p 0 ∨ 7 < u8 p 1 ∨ 1 < u8 p 2 ∨ 1 < u8 p 3 ∨ 2 < u8 p 4 ∨ (u8 p 4 = 2 ∧ 15 < u8 p 5) →
      exec (.patLoad tag p) s = .next ((heard s).enqueueReply 0x17 tag (Reply.refuse .badArg))) ∧
    (p.length = 4 → 3 < u8 p 0 ∨ 7 < u8 p 1 ∨ 1 < u8 p 2 ∨ 1 < u8 p 3 →
      exec (.patArm tag p) s = .next ((heard s).enqueueReply 0x18 tag (Reply.refuse .badArg)))) ∧
  (∀ (s : State) (tag : Byte) (n : Node) (i : Fin 8) (fold rep : Bool) (a : PatAction) (plan : Byte) (wild : Nat) (bytes : List Byte),
    Ready s → bytes.length ≤ 32 → (∀ k : Fin 16, a = .startPlan k → plan.toNat = k) →
    let p := [BitVec.ofNat 8 n, BitVec.ofNat 8 i, if fold = true then 1 else 0, if rep = true then 1 else 0,
      BitVec.ofNat 8 a.num, plan] ++ le 4 wild ++ bytes
    (s.waitingOn n .waitingMatch = some (.waitMatch i) →
      exec (.patLoad tag p) s = .next ((heard s).enqueueReply 0x17 tag (Reply.refuse .busy))) ∧
    (s.waitingOn n .waitingMatch ≠ some (.waitMatch i) →
      exec (.patLoad tag p) s =
        .next (((heard s).updNode n fun c =>
            { c with patterns := c.patterns.set i (if bytes = [] then none else
                some { bytes := bytes, wild := BitVec.ofNat 32 (wild % 2 ^ bytes.length), fold := fold, rep := rep, armed := false,
                       action := a, hits := 0 }) }).enqueueReply 0x17 tag
          (Reply.okay false [BitVec.ofNat 8 i, BitVec.ofNat 8 bytes.length])))) ∧
  ∀ (s : State) (tag : Byte) (n : Node) (i : Fin 8) (arm zero : Bool), Ready s →
    let p : List Byte := [BitVec.ofNat 8 n, BitVec.ofNat 8 i, if arm = true then 1 else 0, if zero = true then 1 else 0]
    ((s.node n).patterns[i] = none → arm = true →
      exec (.patArm tag p) s = .next ((heard s).enqueueReply 0x18 tag (Reply.refuse .badState))) ∧
    ((s.node n).patterns[i] = none → arm = false →
      exec (.patArm tag p) s = .next ((heard s).enqueueReply 0x18 tag (Reply.okay false [0, 0, 0]))) ∧
    ∀ q, (s.node n).patterns[i] = some q →
      let hits := if zero = true then 0 else q.hits
      exec (.patArm tag p) s =
        .next (((heard s).updNode n fun c => { c with patterns := c.patterns.set i (some { q with armed := arm, hits := hits }) }).enqueueReply
          0x18 tag (Reply.okay false ([if arm = true then 1 else 0] ++ le 2 hits)))

/-- CON_INJECT and CON_BREAK (R61 to R63) are refused while the node's view is not RUNNING and where the TX queue has too few
free items; otherwise the bytes, the last with a message-end mark of their number, or the break are appended. CON_FLUSH (R65)
removes every item and cuts a break in progress short. That an item queued here does not begin with the request that queues it
is the model's choice (log entry 5). CON_FLUSH is stated where no step waits for room: the order of the marker and a waiting
step's retry is the model's choice (log entry 52), of which nothing is said here. -/
def Obligations.InjectionQueuesItems : Prop :=
  (∀ (s : State) (tag : Byte) (p : List Byte), Ready s →
    (p.length < 2 ∨ 257 < p.length → p.length ≤ 600 →
      exec (.conInject tag p) s = .next ((heard s).enqueueReply 0x13 tag (Reply.refuse .badLength))) ∧
    (2 ≤ p.length → p.length ≤ 257 → 3 < u8 p 0 →
      exec (.conInject tag p) s = .next ((heard s).enqueueReply 0x13 tag (Reply.refuse .badArg))) ∧
    (p.length = 3 → 3 < u8 p 0 →
      exec (.conBreak tag p) s = .next ((heard s).enqueueReply 0x14 tag (Reply.refuse .badArg)))) ∧
  (∀ (s : State) (tag : Byte) (n : Node) (bs : List Byte) (b : Byte), Ready s → bs.length < 256 →
    let items := bs.map (fun x => TxItem.byte x none) ++ [TxItem.byte b (some (bs.length + 1))]
    let c := Instr.conInject tag (BitVec.ofNat 8 n :: (bs ++ [b]))
    ((s.node n).lines.view ≠ .running → exec c s = .next ((heard s).enqueueReply 0x13 tag (Reply.refuse .badState))) ∧
    ((s.node n).lines.view = .running → 256 - (s.node n).tx.queue.length < bs.length + 1 →
      exec c s = .next ((heard s).enqueueReply 0x13 tag (Reply.refuse .full))) ∧
    ((s.node n).lines.view = .running → bs.length + 1 ≤ 256 - (s.node n).tx.queue.length →
      exec c s = .next (((heard s).updTx n fun t => { t with queue := t.queue ++ items }).enqueueReply 0x13 tag
        (Reply.okay false (le 2 ((s.node n).tx.queue.length + bs.length + 1)))))) ∧
  (∀ (s : State) (tag : Byte) (n : Node) (v : Nat), Ready s → v < 65536 →
    let ms := if v < 1 then 1 else if 2000 < v then 2000 else v
    let c := Instr.conBreak tag (BitVec.ofNat 8 n :: le 2 v)
    ((s.node n).lines.view ≠ .running → exec c s = .next ((heard s).enqueueReply 0x14 tag (Reply.refuse .badState))) ∧
    ((s.node n).lines.view = .running → 256 ≤ (s.node n).tx.queue.length →
      exec c s = .next ((heard s).enqueueReply 0x14 tag (Reply.refuse .full))) ∧
    ((s.node n).lines.view = .running → (s.node n).tx.queue.length < 256 →
      exec c s = .next (((heard s).updTx n fun t => { t with queue := t.queue ++ [.brk ms] }).enqueueReply 0x14 tag
        (Reply.okay (decide (ms ≠ v)) (le 2 ((s.node n).tx.queue.length + 1)))))) ∧
  ∀ (s : State) (tag : Byte) (n : Node), Ready s → s.waitingOn n .waitingQueue = none →
    ((∀ ms start rate parity, (s.node n).tx.inProgress ≠ some ⟨.brk ms, start, rate, parity⟩) →
      exec (.conFlush tag [BitVec.ofNat 8 n]) s = .next (((heard s).updTx n fun t => { t with queue := [] }).enqueueReply 0x15 tag
        (Reply.okay false (le 2 (s.node n).tx.queue.length)))) ∧
    ∀ ms start rate parity, (s.node n).tx.inProgress = some ⟨.brk ms, start, rate, parity⟩ →
      ∃ t, exec (.conFlush tag [BitVec.ofNat 8 n]) s = .next t ∧
      (t.node n).tx = { (s.node n).tx with queue := [], inProgress := none, breakEnd := s.timebase, lastWasByte := false } ∧
      (t.node n).hist.current.getLast? =
        some { seq := (t.node n).hist.next - 1, timestamp := s.timebase, body := .marker 5 (s.timebase - start).toNat }

/-- The head item of a TX queue begins (R59) when none is in progress and its gap is over: after a byte, a break begins at once and
a byte once the pacing gap is over; after a break, either begins once the line has been high for the time of one character.
A byte is sent as a start bit, eight data bits least significant first, its parity bit and a stop bit, at the rate and parity
with which it began, and a break holds the line low (R59, R60). A byte ends with its INJECTED marker if it carries a mark and echo
is ON (R61), a break with its BREAK_SENT marker (R60). A waiting step appends its items where there is room (R64). The model's
choices: the character time counted in whole milliseconds (log entry 5), the sense of the parity bit (log entry 44), and that
the events change nothing where nothing is due (log entries 3 and 36). -/
def Obligations.ItemsAreSent : Prop :=
  (∀ (s : State) (n : Node) (i : TxItem) (q : List TxItem), s.porst = false → (s.node n).tx.queue = i :: q →
    s.waitingOn n .waitingQueue = none →
    let c := (s.node n).rx.settings
    let x := (s.node n).tx
    let bits := if c.parity = .none then 10 else 11
    let baud := [9600, 19200, 38400, 57600, 115200, 230400, 460800].getD c.rate 921600
    (x.inProgress = none →
      (if x.lastWasByte = true then (∃ ms, i = .brk ms) ∨ c.pacing ≤ (s.timebase - x.lastByteEnd).toNat
        else bits * 1000 < ((s.timebase - x.breakEnd).toNat + 1) * baud) →
      ∃ t, exec (.txItemBegin n) s = .next t ∧
        t = s.updTx n (fun t => { t with
          queue := q, inProgress := some { item := i, start := s.timebase, rate := c.rate, parity := c.parity } }) ∧
        t.lineRate n = baud ∧
        match i with
        | .brk _ => t.lineLevels n = [false]
        | .byte b _ =>
          (t.lineLevels n).length = bits ∧ (t.lineLevels n).head? = some false ∧ (t.lineLevels n).getLast? = some true ∧
          (∀ k < 8, (t.lineLevels n)[k + 1]? = some (b.getLsbD k)) ∧
          (c.parity ≠ .none → ((t.lineLevels n).drop 1).dropLast.count true % 2 = if c.parity = .even then 0 else 1)) ∧
    (x.inProgress ≠ none ∨
        (if x.lastWasByte = true then (∃ b m, i = .byte b m) ∧ (s.timebase - x.lastByteEnd).toNat < c.pacing
          else ((s.timebase - x.breakEnd).toNat + 1) * baud ≤ bits * 1000) →
      exec (.txItemBegin n) s = .next s)) ∧
  (∀ (s t : State) (n : Node) (tag : Byte) (p : List Byte) (x : TxProgress), Ready s → (s.node n).tx.inProgress = some x →
    exec (.conConfig tag p) s = .next t → t.lineLevels n = s.lineLevels n ∧ t.lineRate n = s.lineRate n) ∧
  (∀ (s : State) (n : Node) (b : Byte) (mark : Option Nat) (start : Word32) (rate : Nat) (parity : Parity), s.porst = false →
    (s.node n).tx.inProgress = some ⟨.byte b mark, start, rate, parity⟩ →
    let sent := s.updTx n fun t => { t with inProgress := none, lastByteEnd := s.timebase, lastWasByte := true }
    (mark = none ∨ (s.node n).rx.settings.echo = false → exec (.byteSent n) s = .next sent) ∧
    ∀ k, mark = some k → (s.node n).rx.settings.echo = true → ∃ t, exec (.byteSent n) s = .next t ∧
      (t.node n).tx = (sent.node n).tx ∧ (t.node n).rx.opened = none ∧
      (t.node n).hist.current.getLast? =
        some { seq := (t.node n).hist.next - 1, timestamp := s.timebase, body := .marker 6 k }) ∧
  (∀ (s : State) (n : Node), s.porst = false → s.isDue (.breakSent n) = true → ∃ ms start rate parity t,
    (s.node n).tx.inProgress = some ⟨.brk ms, start, rate, parity⟩ ∧ exec (.breakSent n) s = .next t ∧
    (t.node n).tx = { (s.node n).tx with inProgress := none, breakEnd := s.timebase, lastWasByte := false } ∧
    (t.node n).hist.current.getLast? =
      some { seq := (t.node n).hist.next - 1, timestamp := s.timebase, body := .marker 5 ms }) ∧
  ∀ (s : State) (n : Node), s.porst = false →
    (s.waitingOn n .waitingQueue = none → exec (.waitingQueueRetry n) s = .next s) ∧
    ∀ (r : Run) (k : StepKind), (s.node n).exec.run = some r → s.waitingOn n .waitingQueue = some k →
      let items := stepItems s k
      ((s.node n).lines.view ≠ .running ∨ 256 - (s.node n).tx.queue.length < items.length →
        exec (.waitingQueueRetry n) s = .next s) ∧
      ((s.node n).lines.view = .running → items ≠ [] → items.length ≤ 256 - (s.node n).tx.queue.length →
        (s.planSteps r.plan).length = r.step + 1 → ∃ t, exec (.waitingQueueRetry n) s = .next t ∧
          (t.node n).tx = { (s.node n).tx with queue := (s.node n).tx.queue ++ items } ∧
          (t.node n).exec = { run := none, last := some { result := .ok, plan := r.plan, step := r.step, time := s.timebase } })

/-- The match window (R72 to R77): the last 32 bytes; when a record hits on them; a byte on which nothing hits only enters the
window; and a hit counts, disarms a record that does not repeat, latches CON_MATCH and offers the plan of a START_PLAN, a
refusal of which is MATCH_SUPPRESSED. A hit of a record that a step waits on completes the step. -/
def Obligations.WindowHitsAreHandled : Prop :=
  (∀ (p : Pattern) (w : List Byte), p.hitsOn w = true ↔ ∃ before tail, w = before ++ tail ∧ tail.length = p.bytes.length ∧
    ∀ j b c, p.bytes[j]? = some b → tail[j]? = some c →
      p.wild.getLsbD j = true ∨ b = c ∨ (p.fold = true ∧ isLetter b = true ∧ isLetter c = true ∧ b ^^^ c = 0x20)) ∧
  ∀ (s : State) (n : Node) (b : Byte),
    let w := ((s.node n).window ++ [b]).drop ((s.node n).window.length + 1 - 32)
    ((∀ i : Fin 8, ∀ q, (s.node n).patterns[i] = some q →
        (q.armed = false ∧ s.waitingOn n .waitingMatch ≠ some (.waitMatch i)) ∨ q.hitsOn w = false) →
      windowByte n b s = s.updNode n fun c => { c with window := w }) ∧
    ∀ (i : Fin 8) (q : Pattern), (s.node n).patterns[i] = some q → (∀ j, j ≠ i → (s.node n).patterns[j] = none) →
      q.hitsOn w = true →
      (q.armed = true → (s.node n).exec.run = none →
        let t := windowByte n b s
        (t.node n).patterns = (s.node n).patterns.set i (some { q with hits := min 65535 (q.hits + 1), armed := q.rep }) ∧
        (q.action = .none → t.events = s.events ∧ (t.node n).window = w ∧ (t.node n).exec = (s.node n).exec) ∧
        (q.action = .event → t.events = (latch (.node n .conMatch) i s).events ∧ (t.node n).window = w ∧ (t.node n).exec = (s.node n).exec) ∧
        (∀ k, q.action = .startPlan k → s.plans[k] = none ∨ s.hostPulse n = true →
          t.events = (latch (.node n .matchSuppressed) (i + 256 * k) (latch (.node n .conMatch) i s)).events ∧
            (t.node n).exec = (s.node n).exec) ∧
        ∀ k pl st ms, q.action = .startPlan k → s.plans[k] = some pl → s.hostPulse n = false → pl.steps[0]? = some st →
          st.kind = .delay ms → 0 < ms →
          (t.node n).exec =
            { run := some { state := .delaying, plan := k, priority := pl.priority, origin := .matched, step := 0,
                            stepStart := s.timebase, started := 1, touched := Vector.replicate 4 false },
              last := (s.node n).exec.last }) ∧
      ∀ r, q.armed = false → s.waitingOn n .waitingMatch = some (.waitMatch i) → (s.node n).exec.run = some r →
        (s.planSteps r.plan).length = r.step + 1 →
        ((windowByte n b s).node n).exec =
            { run := none, last := some { result := .ok, plan := r.plan, step := r.step, time := s.timebase } } ∧
          ((windowByte n b s).node n).patterns = (s.node n).patterns

/-! ## Control lines and power view -/

/-- LINE_SET, LINE_CONFIG of an output and the expiry of a host pulse (R81, R83 to R85, R87): an output takes its level and its
pulse; a change of CUT gives the view of R85, starts or stops the cut-settle timer, and a node that loses RUNNING goes dark; an
ACTIVE output is not configured. That an expiry that is not due changes nothing, and the time 0 in the reply for PWRBTN, RSTBTN
and NMI, are the model's choice (log entries 3 and 16). -/
def Obligations.OutputsAreDriven : Prop :=
  (∀ (s : State) (tag : Byte) (n : Node) (o : Output) (action : Byte) (v : Nat), Ready s → v < 65536 → action.toNat ≤ 2 →
    let ms := if v = 0 then 1 else v
    let active := decide (action.toNat ≠ 0)
    let pulse : Option Pulse := if action = 2 then some { source := .host, start := s.timebase, ms := ms } else none
    let c := Instr.lineSet tag ([BitVec.ofNat 8 n, BitVec.ofNat 8 (outIdx o), action] ++ le 2 v)
    ((s.node n).exec.run.isSome = true → exec c s = .next ((heard s).enqueueReply 0x21 tag (Reply.refuse .busy))) ∧
    ((s.node n).exec.run = none → o ≠ .cut ∨ (s.output n .cut).active = active →
      exec c s = .next (((heard s).updOutput n o fun l => { l with active := active, pulse := pulse }).enqueueReply 0x21 tag
        (Reply.okay (decide (action = 2 ∧ v = 0))
          ([if active = true then 1 else 0, if action = 2 then 1 else 0] ++ (if action = 2 then le 2 ms else [0xFF, 0xFF])
            ++ [BitVec.ofNat 8 (s.node n).lines.view.num])))) ∧
    ((s.node n).exec.run = none → o = .cut → (s.output n .cut).active ≠ active →
      ∃ t, exec c s = .next t ∧ t.output n .cut = { s.output n .cut with active := active, pulse := pulse } ∧
        (t.node n).lines.view =
          (if active = true then .cutOff else if (s.node n).lines.pgood.active = true then .running else .standby) ∧
        (t.node n).lines.settleStart = (if active = true then some s.timebase else none) ∧
        (t.node n).lines.cutFault = (active && (s.node n).lines.cutFault) ∧
        ((s.node n).lines.view = .running → active = true → (t.node n).tx.queue = [] ∧ (t.node n).tx.inProgress = none ∧
          (t.node n).window = [] ∧ (t.node n).port.pullUp = false) ∧
        ((s.node n).lines.view ≠ (t.node n).lines.view → s.events.recs[(Source.node n .powerChange).id].level ≠ 0 →
          t.events.recs[(Source.node n .powerChange).id].lastDetail =
            (t.node n).lines.view.num + 256 * (s.node n).lines.view.num))) ∧
  (∀ (s : State) (tag : Byte) (n : Node) (o : Output) (od hi : Bool) (v : Nat), Ready s → v < 65536 →
    let settle := if v < 500 then 500 else if 10000 < v then 10000 else v
    let c := Instr.lineConfig tag
      ([BitVec.ofNat 8 n, BitVec.ofNat 8 (outIdx o), if od = true then 1 else 0, if hi = true then 1 else 0] ++ le 2 v)
    ((s.output n o).active = true → exec c s = .next ((heard s).enqueueReply 0x20 tag (Reply.refuse .busy))) ∧
    ((s.output n o).active = false → .cutSettle n ∉ s.due →
      exec c s = .next ((((heard s).updOutput n o fun l => { l with openDrain := od, activeHigh := hi }).updLines n fun u =>
          { u with cutSettle := if o = .cut then settle else u.cutSettle }).enqueueReply 0x20 tag
        (Reply.okay (decide (o = .cut ∧ settle ≠ v))
          ([BitVec.ofNat 8 (outIdx o), if od = true then 1 else 0, if hi = true then 1 else 0]
            ++ le 2 (if o = .cut then settle else 0) ++ [0, BitVec.ofNat 8 (s.node n).lines.view.num]))))) ∧
  ∀ (s : State) (n : Node) (o : Output), s.porst = false →
    (s.isDue (.pulse n o) = false → exec (.pulseExpiry n o) s = .next s) ∧
    (s.isDue (.pulse n o) = true → o ≠ .cut → (∀ p, (s.output n o).pulse = some p → p.source = .host) →
      exec (.pulseExpiry n o) s = .next (({ s with due := s.due.erase (.pulse n o) } : State).updOutput n o fun l =>
        { l with active := false, pulse := none })) ∧
    ∀ r k, s.isDue (.pulse n o) = true → (∀ p, (s.output n o).pulse = some p → p.source = .plan) → (s.node n).exec.run = some r →
      s.waitingOn n .pulsing = some k → (s.planSteps r.plan).length = r.step + 1 → o ≠ .cut →
      ∃ t, exec (.pulseExpiry n o) s = .next t ∧ (t.output n o).active = false ∧ (t.output n o).pulse = none ∧
        (t.node n).exec = { run := none, last := some { result := .ok, plan := r.plan, step := r.step, time := s.timebase } }

/-- The inputs (R79, R82, R85, R88, R90) and the cut-settle timer (R87): a pin level becomes a candidate, is dropped when the
pin returns, and is accepted when its debounce time expires; an accepted PGOOD gives the view, an accepted AUXIN latches
AUX_CHANGE; an expired cut-settle timer with PGOOD still ACTIVE is a fault. That an expiry that is not due changes nothing, and
the drive mode 0 in the reply for AUXIN, are the model's choice (log entries 3 and 16). What LINE_CONFIG does to an input whose
debounce is due is not said here: a repeated time is the model's choice (log entry 45). -/
def Obligations.InputsAreFollowed : Prop :=
  (∀ (s : State) (n : Node) (i : Input) (high : Bool),
    (s.porst = true → exec (.inputPinChange n i high) s = .next (s.updInput n i fun l => { l with pin := high })) ∧
    (s.porst = false → high = ((s.node n).lines.input i).accepted →
      exec (.inputPinChange n i high) s = .next (s.updInput n i fun l => { l with pin := high, candidate := none })) ∧
    (s.porst = false → high ≠ ((s.node n).lines.input i).accepted → 0 < ((s.node n).lines.input i).debounce →
      exec (.inputPinChange n i high) s = .next (s.updInput n i fun l =>
        { l with pin := high, candidate := if l.candidate.isSome = true then l.candidate else some s.timebase }))) ∧
  (∀ (s : State) (n : Node) (high : Bool), s.porst = false → high ≠ (s.node n).lines.auxin.accepted →
    (s.node n).lines.auxin.debounce = 0 → (s.node n).lines.auxin.candidate = none → (s.node n).exec.run = none →
    exec (.inputPinChange n .auxin high) s =
      .next (latch (.node n .auxChange) (if high = (s.node n).lines.auxin.activeHigh then 1 else 0)
        (s.updInput n .auxin fun l => { l with pin := high, accepted := high }))) ∧
  (∀ (s : State) (n : Node) (i : Input), s.porst = false → s.isDue (.debounce n i) = false →
    exec (.debounceExpiry n i) s = .next s) ∧
  (∀ (s : State) (n : Node), s.porst = false → s.isDue (.debounce n .auxin) = true → (s.node n).exec.run = none →
    exec (.debounceExpiry n .auxin) s =
      .next (latch (.node n .auxChange) (if (s.node n).lines.auxin.active = true then 0 else 1)
        (({ s with due := s.due.erase (.debounce n .auxin) } : State).updInput n .auxin fun l =>
          { l with accepted := !l.accepted, candidate := none }))) ∧
  (∀ (s : State) (n : Node), s.porst = false → s.isDue (.debounce n .pgood) = true → (s.node n).exec.run = none →
    ∃ t, exec (.debounceExpiry n .pgood) s = .next t ∧
      (t.node n).lines.pgood = { (s.node n).lines.pgood with accepted := !(s.node n).lines.pgood.accepted, candidate := none } ∧
      (t.node n).lines.view =
        (if (s.output n .cut).active = true then .cutOff else if (s.node n).lines.pgood.active = true then .standby else .running) ∧
      (t.node n).lines.cutFault = (!(s.node n).lines.pgood.active && (s.node n).lines.cutFault) ∧
      ((s.node n).lines.view = .standby → (t.node n).lines.view = .running →
        (t.node n).hist.current.getLast? =
          some { seq := (t.node n).hist.next - 1, timestamp := s.timebase, body := .marker 1 1 }) ∧
      ((s.node n).lines.view = .running → (t.node n).lines.view = .standby →
        (t.node n).tx.queue = [] ∧ (t.node n).window = [] ∧ (t.node n).hist.current.getLast? =
          some { seq := (t.node n).hist.next - 1, timestamp := s.timebase, body := .marker 2 1 })) ∧
  (∀ (s : State) (n : Node), s.porst = false →
    (s.isDue (.cutSettle n) = false → exec (.cutSettleExpiry n) s = .next s) ∧
    (s.isDue (.cutSettle n) = true →
      let t := ({ s with due := s.due.erase (.cutSettle n) } : State).updLines n fun u =>
        { u with settleStart := none, cutFault := u.cutFault || u.pgood.active }
      exec (.cutSettleExpiry n) s =
        .next (if (s.node n).lines.pgood.active = true then latch (.node n .powerFault) (s.node n).lines.cutSettle t else t))) ∧
  ∀ (s : State) (tag : Byte) (n : Node) (drive : Byte) (hi : Bool) (v : Nat), Ready s → v < 65536 →
    (s.node n).exec.run = none → .debounce n .auxin ∉ s.due →
    let time := if 255 < v then 255 else v
    let t := (heard s).updInput n .auxin fun l => { l with activeHigh := hi, debounce := time }
    let t := if hi ≠ (s.node n).lines.auxin.activeHigh then
        latch (.node n .auxChange) (if (s.node n).lines.auxin.accepted = hi then 1 else 0) t
      else t
    exec (.lineConfig tag ([BitVec.ofNat 8 n, 5, drive, if hi = true then 1 else 0] ++ le 2 v)) s =
      .next (t.enqueueReply 0x20 tag (Reply.okay (decide (time ≠ v))
        ([5, 0, if hi = true then 1 else 0] ++ le 2 time
          ++ [if (s.node n).lines.auxin.accepted = hi then 1 else 0, BitVec.ofNat 8 (s.node n).lines.view.num])))

/-! ## Reboot plans -/

/-- PLAN_LOAD (R93 to R96, section 11.6): a plan with its step records in range is stored as it is sent, with its priority moved
into 1 to 3; a wrong index or count, or a plan that is executing, is refused; a pulse of 0 ms is moved to 1. INRUSH_CONFIG
(R118) sets the slot count while no slot is held. -/
def Obligations.PlansAreLoaded : Prop :=
  (∀ (s : State) (tag i prio : Byte) (steps : List PlanStep), Ready s → steps.length ≤ 66 →
    let c := Instr.planLoad tag ([i, prio, BitVec.ofNat 8 steps.length] ++ (steps.map stepRecord).flatten)
    let refuse := fun st => exec c s = .next ((heard s).enqueueReply 0x28 tag (Reply.refuse st))
    ((15 < i.toNat ∨ steps.length = 0 ∨ 16 < steps.length) → refuse .badArg) ∧
    ∀ k : Fin 16, (k : Nat) = i.toNat → 1 ≤ steps.length → steps.length ≤ 16 →
      ((∃ st ∈ steps, ∃ g, st.onFail = .goto g ∧ steps.length ≤ g ∧ g < 256) → refuse .badArg) ∧
      ((∀ st ∈ steps, stepInRange steps.length st = true) →
        ((∃ n r, (s.node n).exec.run = some r ∧ r.plan = k) → refuse .busy) ∧
        ((∀ n r, (s.node n).exec.run = some r → r.plan ≠ k) →
          let priority := if prio.toNat < 1 then 1 else if 3 < prio.toNat then 3 else prio.toNat
          exec c s = .next (({ heard s with plans := s.plans.set k (some { priority := priority, steps := steps }) } : State).enqueueReply
            0x28 tag (Reply.okay (decide (priority ≠ prio.toNat)) [i, BitVec.ofNat 8 priority, BitVec.ofNat 8 steps.length]))))) ∧
  (∀ (s : State) (tag : Byte) (k : Fin 16) (o : Output) (timeout : Nat), Ready s → timeout < 65536 →
    (∀ n r, (s.node n).exec.run = some r → r.plan ≠ k) →
    exec (.planLoad tag ([BitVec.ofNat 8 k, 1, 1] ++ [2, BitVec.ofNat 8 (outIdx o), 0, 0, 0, 0, 0] ++ le 2 timeout)) s =
      .next (({ heard s with
          plans := s.plans.set k
            (some { priority := 1, steps := [{ kind := .pulseLine o 1, timeout := timeout, onFail := .abort }] }) } : State).enqueueReply
        0x28 tag (Reply.okay true [BitVec.ofNat 8 k, 1, 1]))) ∧
  ∀ (s : State) (tag v : Byte), Ready s →
    (s.arbiter.holds ≠ [] ∨ s.arbiter.waiting ≠ [] →
      exec (.inrushConfig tag [v]) s = .next ((heard s).enqueueReply 0x2C tag (Reply.refuse .busy))) ∧
    (s.arbiter.holds = [] → s.arbiter.waiting = [] →
      let count := if v.toNat < 1 then 1 else if 4 < v.toNat then 4 else v.toNat
      exec (.inrushConfig tag [v]) s = .next (({ heard s with arbiter := { s.arbiter with count := count } } : State).enqueueReply 0x2C tag
        (Reply.okay (decide (count ≠ v.toNat)) [BitVec.ofNat 8 count])))

/-- PLAN_START (R110 to R112) is refused for an empty plan, during a host pulse, and against an execution of no lower priority;
otherwise it starts the plan, preempting what runs: here for a plan that begins with a DELAY, and for one that sets one line and
ends (R98, R99, R102). PLAN_ABORT (R113, R114) ends the execution, whose touched lines are released. That the reply to
PLAN_ABORT stands last, behind the EVENT_SUMMARY that PLAN_END and the CON_DATA notice that its marker may admit, is read from
R8 (log entry 10, DEDUCED). -/
def Obligations.PlansStartAndAbort : Prop :=
  (∀ (s : State) (tag : Byte) (n : Node) (k : Fin 16), Ready s →
    let c := Instr.planStart tag [BitVec.ofNat 8 n, BitVec.ofNat 8 k]
    let refuse := fun st => exec c s = .next ((heard s).enqueueReply 0x29 tag (Reply.refuse st))
    (s.plans[k] = none → refuse .badArg) ∧
    ∀ pl, s.plans[k] = some pl →
      (s.hostPulse n = true → refuse .busy) ∧
      (∀ r, (s.node n).exec.run = some r → pl.priority ≤ r.priority → refuse .busy) ∧
      (∀ st ms, s.hostPulse n = false → (s.node n).exec.run = none → pl.steps[0]? = some st → st.kind = .delay ms → 0 < ms →
        ∃ t, exec c s = .next t ∧
          (t.node n).exec =
            { run := some { state := .delaying, plan := k, priority := pl.priority, origin := .host, step := 0,
                            stepStart := s.timebase, started := 1, touched := Vector.replicate 4 false },
              last := (s.node n).exec.last } ∧
          (t.node n).hist.current.getLast? =
            some { seq := (t.node n).hist.next - 1, timestamp := s.timebase, body := .marker 3 k }) ∧
      (∀ o a limit f, s.hostPulse n = false → (s.node n).exec.run = none → o ≠ .cut →
        pl.steps = [{ kind := .setLine o a, timeout := limit, onFail := f }] →
        ∃ t, exec c s = .next t ∧ t.output n o = { s.output n o with active := a, pulse := none } ∧
          (t.node n).exec = { run := none, last := some { result := .ok, plan := k, step := 0, time := s.timebase } }) ∧
      ∀ r st ms, s.hostPulse n = false → (s.node n).exec.run = some r → r.priority < pl.priority → pl.steps[0]? = some st →
        st.kind = .delay ms → 0 < ms →
        ∃ t, exec c s = .next t ∧ (∃ r2, (t.node n).exec.run = some r2 ∧ r2.plan = k ∧ r2.state = .delaying) ∧
          (t.node n).exec.last = some { result := .preempted, plan := r.plan, step := r.step, time := s.timebase } ∧
          ∀ o, r.touched[outIdx o] = true → (t.output n o).active = false ∧ (t.output n o).pulse = none) ∧
  ∀ (s : State) (tag : Byte) (n : Node), Ready s →
    ((s.node n).exec.run = none → ∃ fields, fields.length = 8 ∧
      exec (.planAbort tag [BitVec.ofNat 8 n]) s = .next ((heard s).enqueueReply 0x2A tag (Reply.okay false fields))) ∧
    ∀ r, (s.node n).exec.run = some r → ∃ t, exec (.planAbort tag [BitVec.ofNat 8 n]) s = .next t ∧
      (t.node n).exec = { run := none, last := some { result := .aborted, plan := r.plan, step := r.step, time := s.timebase } } ∧
      (∀ o, r.touched[outIdx o] = true → (t.output n o).active = false ∧ (t.output n o).pulse = none) ∧
      (∀ o, r.touched[outIdx o] = false → t.output n o = s.output n o) ∧
      (s.events.recs[(Source.node n .planEnd).id].level ≠ 0 →
        t.events.recs[(Source.node n .planEnd).id].lastDetail = 2 + 256 * r.plan + 4096 * r.step) ∧
      t.link.queue.getLast? = some { kind := 0xAA, tag := tag, payload := [0, 0] ++
        [2, BitVec.ofNat 8 r.plan, BitVec.ofNat 8 r.step, 0] ++ le 4 s.timebase.toNat }

/-- The expiries of a step (R98 to R101, R107, R113, R116, R117): a timeout fails the step, which ends the execution or goes to
its target, and a delay completes it; a step past the 64th ends it with LOOP_LIMIT; a hold that ends passes its slot to the
longest waiting node. That an expiry that is not due changes nothing, and that the newest hold stands last, are the model's
choice (log entries 3 and 29). -/
def Obligations.StepsExpire : Prop :=
  (∀ (s : State) (n : Node), s.porst = false →
    (s.isDue (.step n) = false → exec (.stepTimeout n) s = .next s) ∧
    (s.isDue (.delay n) = false → exec (.delayExpiry n) s = .next s) ∧
    (s.isDue (.slotHold n) = false → exec (.slotHoldExpiry n) s = .next s)) ∧
  (∀ (s : State) (n : Node) (r : Run) (st : PlanStep), s.porst = false → s.isDue (.step n) = true → (s.node n).exec.run = some r →
    s.currentStep n = some st →
    (st.onFail = .abort → ∃ t, exec (.stepTimeout n) s = .next t ∧
      (t.node n).exec = { run := none, last := some { result := .failed, plan := r.plan, step := r.step, time := s.timebase } } ∧
      t.arbiter = { s.arbiter with waiting := s.arbiter.waiting.filter fun w => decide (w.node ≠ n) } ∧
      ∀ o, r.touched[outIdx o] = true → (t.output n o).active = false ∧ (t.output n o).pulse = none) ∧
    ∀ g, st.onFail = .goto g →
      (64 ≤ r.started → ∃ t, exec (.stepTimeout n) s = .next t ∧
        (t.node n).exec = { run := none, last := some { result := .loopLimit, plan := r.plan, step := g, time := s.timebase } }) ∧
      ∀ next ms, r.started < 64 → (s.planSteps r.plan)[g]? = some next → next.kind = .delay ms → 0 < ms →
        ∃ t, exec (.stepTimeout n) s = .next t ∧ (t.node n).exec.last = (s.node n).exec.last ∧
          (t.node n).exec.run =
            some { r with state := .delaying, step := g, stepStart := s.timebase, started := r.started + 1 }) ∧
  (∀ (s : State) (n : Node) (r : Run), s.porst = false → s.isDue (.delay n) = true → (s.node n).exec.run = some r →
    ((s.planSteps r.plan).length = r.step + 1 → ∃ t, exec (.delayExpiry n) s = .next t ∧
      (t.node n).exec = { run := none, last := some { result := .ok, plan := r.plan, step := r.step, time := s.timebase } } ∧
      ∀ o, t.output n o = s.output n o) ∧
    ∀ next ms, r.started < 64 → (s.planSteps r.plan)[r.step + 1]? = some next → next.kind = .delay ms → 0 < ms →
      exec (.delayExpiry n) s = .next (({ s with due := s.due.erase (.delay n) } : State).updExec n fun e =>
        { e with run := some { r with state := .delaying, step := r.step + 1, stepStart := s.timebase, started := r.started + 1 } })) ∧
  ∀ (s : State) (n : Node), s.porst = false → s.isDue (.slotHold n) = true →
    ∃ a h b, s.arbiter.holds = a ++ h :: b ∧ h.node = n ∧ h.ms ≤ (s.timebase - h.start).toNat ∧
      (s.arbiter.waiting = [] → exec (.slotHoldExpiry n) s =
        .next { s with due := s.due.erase (.slotHold n), arbiter := { s.arbiter with holds := a ++ b } }) ∧
      ∀ w ws r, s.arbiter.waiting = w :: ws → (∀ x ∈ ws, x.node ≠ w.node) → (s.node w.node).exec.run = some r →
        (s.planSteps r.plan).length = r.step + 1 →
        ∃ t, exec (.slotHoldExpiry n) s = .next t ∧
          t.arbiter = { s.arbiter with
            holds := a ++ b ++ [{ node := w.node, start := s.timebase, ms := w.hold }], waiting := ws } ∧
          (t.node w.node).exec =
            { run := none, last := some { result := .ok, plan := r.plan, step := r.step, time := s.timebase } }

/-! ## USB ports -/

/-- PORT_CONFIG, DESC_LOAD and the connect timer (R34, R120 to R125): the settings come into force and the four connect
conditions are tested; a port whose conditions hold waits its connect delay and then applies its pull-up in DEFAULT; one whose
conditions fail takes it off. That a connect timer that is not due changes nothing, and the numbers the descriptor check looks
for, are the model's choice (log entries 3 and 21). PORT_CONFIG is stated where no connect timer is due: what a repeated delay
does to a due one is the model's choice (log entry 45), of which nothing is said here. -/
def Obligations.PortsConnect : Prop :=
  (∀ (s : State) (tag : Byte) (n : Node) (en always fs : Bool) (v : Nat), Ready s → v < 65536 → .connect n ∉ s.due →
    let p := (s.node n).port
    let delay := if 10000 < v then 10000 else v
    let holds := en = true ∧ p.desc ≠ none ∧ (s.node n).lines.view = .running ∧
      (always = true ∨ (s.drive n 0).image ≠ none ∨ (s.drive n 1).image ≠ none)
    let rest : PortState := if en = true then .disconnected else .disabled
    let c := Instr.portConfig tag ([BitVec.ofNat 8 n, if en = true then 1 else 0, if always = true then 1 else 0] ++ le 2 v
      ++ [if fs = true then 1 else 0])
    let set := (heard s).updPort n fun p => { p with enabled := en, always := always, delay := delay, fullSpeedOnly := fs }
    let reply := fun st : PortState => Reply.okay (decide (10000 < v))
      ([if en = true then 1 else 0, if always = true then 1 else 0] ++ le 2 delay ++ [if fs = true then 1 else 0, BitVec.ofNat 8 st.num])
    (p.pullUp = false → p.state ≠ .connecting → holds → 0 < delay →
      exec c s = .next ((set.updPort n fun p => { p with state := .connecting, connectStart := some s.timebase }).enqueueReply 0x30 tag
        (reply .connecting))) ∧
    (p.pullUp = false → p.state ≠ .connecting → ¬holds →
      exec c s = .next ((set.updPort n fun p => { p with state := rest }).enqueueReply 0x30 tag (reply rest))) ∧
    (p.state = .connecting → ¬holds →
      exec c s = .next ((set.updPort n fun p => { p with state := rest, connectStart := none }).enqueueReply 0x30 tag (reply rest))) ∧
    (p.pullUp = true ∨ p.state = .connecting → holds → exec c s = .next (set.enqueueReply 0x30 tag (reply p.state))) ∧
    (p.pullUp = true → ¬holds → ∃ t, exec c s = .next t ∧
      (t.node n).port = { Port.reset with
        state := rest, enabled := en, always := always, delay := delay, fullSpeedOnly := fs, desc := p.desc, idleSince := p.idleSince,
        answer := p.answer } ∧
      (t.node n).ctx = { Context.reset with fwdTicket := (s.node n).ctx.fwdTicket } ∧
      (s.events.recs[(Source.node n .portChange).id].level ≠ 0 →
        t.events.recs[(Source.node n .portChange).id].lastDetail = 2))) ∧
  (∀ (s : State) (tag : Byte) (n : Node) (d : DescSet), Ready s → d.device.length < 256 → d.config.length < 256 →
    (∀ e ∈ d.strings.toList ++ d.inquiry.toList, e.length < 256) → (descRecord n d).length ≤ 600 →
    let p := (s.node n).port
    let c := Instr.descLoad tag (descRecord n d)
    let refuse := fun st => exec c s = .next ((heard s).enqueueReply 0x31 tag (Reply.refuse st))
    (p.pullUp = true → refuse .busy) ∧
    (p.pullUp = false → d.ok = false → refuse .badArg) ∧
    (p.pullUp = false → d.ok = true → p.desc = none → s.pool.free = 0 → (∀ l ∈ s.cache.lines, l.evictable = false) → refuse .noSpace) ∧
    (p.pullUp = false → d.ok = true → p.desc ≠ none ∨ 0 < s.pool.free → p.enabled = false → p.state ≠ .connecting →
      exec c s = .next ((((heard s).updPool fun q => { q with free := if p.desc = none then q.free - 1 else q.free }).updPort n fun q =>
        { q with desc := some d, state := .disabled }).enqueueReply 0x31 tag (Reply.okay false [0]))) ∧
    (p.pullUp = false → d.ok = true → p.desc = none → 0 < s.pool.free → p.enabled = true → p.state ≠ .connecting →
      p.always = true → (s.node n).lines.view = .running → 0 < p.delay →
      exec c s = .next ((((heard s).updPool fun q => { q with free := q.free - 1 }).updPort n fun q =>
        { q with desc := some d, state := .connecting, connectStart := some s.timebase }).enqueueReply 0x31 tag (Reply.okay false [2])))) ∧
  ∀ (s : State) (n : Node), s.porst = false →
    (s.isDue (.connect n) = false → exec (.connectTimerExpiry n) s = .next s) ∧
    (s.isDue (.connect n) = true → exec (.connectTimerExpiry n) s =
      .next (latch (.node n .portChange) 1 (({ s with due := s.due.erase (.connect n) } : State).updPort n fun p =>
        { Port.reset with
          state := .defaulted, enabled := p.enabled, always := p.always, delay := p.delay, fullSpeedOnly := p.fullSpeedOnly,
          desc := p.desc, idleSince := p.idleSince, stagingBlocked := p.stagingBlocked, answer := p.answer })))

/-- The events of a port's bus (R127 to R130): a bus reset leaves DEFAULT at the speed that was settled and clears the context;
3 ms of idleness suspend the port; activity returns it to the state it remembers. That these events change nothing without the
pull-up or when not due, and that RESUME counts as activity, are the model's choice (log entries 3 and 28). -/
def Obligations.BusEventsAct : Prop :=
  ∀ (s : State) (n : Node), s.porst = false →
    let p := (s.node n).port
    let rec_ := (Source.node n .portChange).id
    (∀ answered, p.pullUp = false → exec (.busReset n answered) s = .next s) ∧
    (∀ answered, p.pullUp = true → ∃ t, exec (.busReset n answered) s = .next t ∧
      (t.node n).port = { Port.reset with
        state := .defaulted, high := answered && !p.fullSpeedOnly, resetSeen := true, enabled := p.enabled, always := p.always,
        delay := p.delay, fullSpeedOnly := p.fullSpeedOnly, desc := p.desc, idleSince := s.timebase, answer := p.answer } ∧
      (t.node n).ctx = { Context.reset with fwdTicket := (s.node n).ctx.fwdTicket } ∧
      (∀ e ∈ t.cache.writes.toList, ∀ w, e.use = some w → w.node = n → w.cancelled = true) ∧
      (s.events.recs[rec_].level ≠ 0 →
        t.events.recs[rec_].lastDetail = 3 + 256 * (if (answered && !p.fullSpeedOnly) = true then 1 else 0))) ∧
    (s.isDue (.suspend n) = false → exec (.suspend n) s = .next s) ∧
    (s.isDue (.suspend n) = true → exec (.suspend n) s =
      .next (latch (.node n .portChange) (4 + 256 * (if p.high = true then 1 else 0))
        (({ s with due := s.due.erase (.suspend n) } : State).updPort n fun q => { q with state := .suspended, remembered := some p.state }))) ∧
    (p.pullUp = false → exec (.resume n) s = .next s ∧ exec (.busActivity n) s = .next s) ∧
    (p.pullUp = true → p.state ≠ .suspended →
      exec (.resume n) s = .next (s.updPort n fun q => { q with idleSince := s.timebase }) ∧
      exec (.busActivity n) s = .next (onBus n s)) ∧
    ∀ r, p.state = .suspended → p.remembered = some r →
      let back := latch (.node n .portChange) (5 + 256 * (if p.high = true then 1 else 0))
        (s.updPort n fun q => { q with idleSince := s.timebase, state := r, remembered := none })
      exec (.resume n) s = .next back ∧
      exec (.busActivity n) s = .next (back.updPort n fun q => { q with answer := .silent })

/-- The requests of endpoint 0 (R135 to R141): each SETUP is acknowledged, abandons the transfer before it, and is answered with
bytes, accepted with its effect, or put in STALLED, as every request to an interface other than 0 is (R135). The model's
choices: the request codes, the descriptor types 1, 2 and 3, the number 0 of the endpoint halt and the bits of GET_STATUS (log
entry 21); recipients other than such an interface that are not examined, and a string request that is answered whatever its
index (22); SET_FEATURE and CLEAR_FEATURE with a length above 0 (23); the direction of get-max-LUN (24); endpoint 0 as index 0
alone (46); and a request with direction OUT and a length that is answered as a read (47). -/
def Obligations.ControlRequestsAreDecided : Prop :=
  ∀ (s : State) (n : Node) (u : SetupFields), Answering s n →
    let p := (s.node n).port
    let a := p.address
    let base := onSetupTaken n s
    let answered := fun (r : ControlRequest) (t : State) (bytes : List Byte) => setControl n (answeredTransfer (r.setup u) bytes) t
    let stalled := fun r : ControlRequest => setControl n (stalledTransfer (r.setup u)) base
    let ended := fun r : ControlRequest => some (answeredTransfer (r.setup u) [])
    let named := decide (u.recipient = .endpoint) && decide (u.value = 0) && decide (p.state = .configured)
    let elsewhere := u.recipient = .iface ∧ u.index ≠ 0
    (∀ v : Setup, exec (.controlRequestStalled n a v) s = .next (setControl n (stalledTransfer v) base)) ∧
    (∀ r : ControlRequest, requestOf (r.setup u) = some r ∧ ((r.setup u).type = .classRequest ↔ r = .bulkReset ∨ r = .getMaxLun)) ∧
    (∀ d, p.desc = some d →
      (u.value = 0x0100 → ¬elsewhere → exec (.getDescriptor n a u) s = .next (answered .getDescriptor base (d.device.set 7 64))) ∧
      (u.value = 0x0200 → ¬elsewhere →
        exec (.getDescriptor n a u) s = .next (answered .getDescriptor base (patchConfig (if p.high = true then 512 else 64) d.config))) ∧
      (∀ k : Fin 4, u.value = BitVec.ofNat 16 (0x0300 + k) →
        exec (.getDescriptor n a u) s = .next (if d.strings[k] = [] then stalled .getDescriptor else answered .getDescriptor base d.strings[k])) ∧
      (u.value.toNat / 256 ∉ [1, 2, 3] ∨ (u.value.toNat / 256 ≤ 2 ∧ u.value.toNat % 256 ≠ 0) ∨ 3 < u.value.toNat % 256 →
        exec (.getDescriptor n a u) s = .next (stalled .getDescriptor))) ∧
    (elsewhere → u.value.toNat / 256 ≠ 3 → exec (.getDescriptor n a u) s = .next (stalled .getDescriptor)) ∧
    (elsewhere ∨ 127 < u.value.toNat ∨ u.length ≠ 0 ∨ p.state = .configured → exec (.setAddress n a u) s = .next (stalled .setAddress)) ∧
    (¬elsewhere → u.value.toNat ≤ 127 → u.length = 0 → p.state ≠ .configured → exec (.setAddress n a u) s =
      .next (answered .setAddress (base.updPort n fun q => { q with pendingAddress := some (u.value.truncate 7) }) [])) ∧
    (elsewhere ∨ 1 < u.value.toNat ∨ u.length ≠ 0 ∨ p.state = .defaulted → exec (.setConfiguration n a u) s = .next (stalled .setConfiguration)) ∧
    (¬elsewhere → u.value = 1 → u.length = 0 → p.state ≠ .defaulted → ∃ t, exec (.setConfiguration n a u) s = .next t ∧
      (t.node n).port = { (base.node n).port with
        state := .configured, configuration := true, toggleIn := false, toggleOut := false, haltIn := false, haltOut := false,
        recovery := false, pendingIn := none, stagingBlocked := false, control := ended .setConfiguration } ∧
      (t.node n).ctx = { Context.reset with fwdTicket := (s.node n).ctx.fwdTicket } ∧
      (s.events.recs[(Source.node n .portChange).id].level ≠ 0 →
        t.events.recs[(Source.node n .portChange).id].lastDetail = 6 + 256 * (if p.high = true then 1 else 0))) ∧
    (¬elsewhere → u.value = 0 → u.length = 0 → p.state = .configured → ∃ t, exec (.setConfiguration n a u) s = .next t ∧
      (t.node n).port = { (base.node n).port with
        state := .addressed, configuration := false, haltIn := false, haltOut := false, recovery := false, pendingIn := none,
        stagingBlocked := false, control := ended .setConfiguration } ∧
      (t.node n).ctx = { Context.reset with fwdTicket := (s.node n).ctx.fwdTicket }) ∧
    (¬elsewhere → u.value = 0 → u.length = 0 → p.state = .addressed →
      exec (.setConfiguration n a u) s = .next (answered .setConfiguration base [])) ∧
    (elsewhere ∨ p.state = .defaulted → exec (.getConfiguration n a u) s = .next (stalled .getConfiguration)) ∧
    (¬elsewhere → p.state ≠ .defaulted →
      exec (.getConfiguration n a u) s = .next (answered .getConfiguration base [if p.configuration = true then 1 else 0])) ∧
    (∀ d, u.recipient = .device → p.desc = some d →
      exec (.getStatus n a u) s = .next (answered .getStatus base [if (d.config.getD 7 0).getLsbD 6 = true then 1 else 0, 0])) ∧
    (u.recipient = .endpoint → u.index = 0 → exec (.getStatus n a u) s = .next (answered .getStatus base [0, 0])) ∧
    (u.recipient = .endpoint → u.index = 0x81 → p.state = .configured →
      exec (.getStatus n a u) s = .next (answered .getStatus base [if p.haltIn = true then 1 else 0, 0])) ∧
    (u.recipient = .endpoint → u.index = 0x02 → p.state = .configured →
      exec (.getStatus n a u) s = .next (answered .getStatus base [if p.haltOut = true then 1 else 0, 0])) ∧
    (u.recipient = .iface → u.index = 0 → p.state = .configured → exec (.getStatus n a u) s = .next (answered .getStatus base [0, 0])) ∧
    (u.recipient = .other ∨ (u.recipient = .iface ∧ (u.index ≠ 0 ∨ p.state ≠ .configured)) ∨
        (u.recipient = .endpoint ∧ u.index ≠ 0 ∧ ((u.index ≠ 0x81 ∧ u.index ≠ 0x02) ∨ p.state ≠ .configured)) →
      exec (.getStatus n a u) s = .next (stalled .getStatus)) ∧
    (named = false ∨ (u.index ≠ 0x81 ∧ u.index ≠ 0x02) →
      exec (.setFeature n a u) s = .next (stalled .setFeature) ∧ exec (.clearFeature n a u) s = .next (stalled .clearFeature)) ∧
    (named = true → u.index = 0x81 → exec (.setFeature n a u) s = .next (answered .setFeature (base.updPort n fun q => { q with haltIn := true }) [])) ∧
    (named = true → u.index = 0x02 → exec (.setFeature n a u) s = .next (answered .setFeature (base.updPort n fun q => { q with haltOut := true }) [])) ∧
    (named = true → u.index = 0x81 ∨ u.index = 0x02 → p.recovery = true → exec (.clearFeature n a u) s = .next (answered .clearFeature base [])) ∧
    (named = true → u.index = 0x02 → p.recovery = false → (s.node n).ctx.phase ≠ .haltThenStatus →
      exec (.clearFeature n a u) s = .next (answered .clearFeature (base.updPort n fun q => { q with haltOut := false, toggleOut := false }) [])) ∧
    (named = true → u.index = 0x81 → p.recovery = false → (s.node n).ctx.phase = .haltThenStatus →
      (s.node n).ctx.halted = some .bulkIn → (s.node n).ctx.command ≠ none → ∃ t, exec (.clearFeature n a u) s = .next t ∧
        (t.node n).port = { (base.node n).port with
          haltIn := false, toggleIn := false, pendingIn := none, control := ended .clearFeature } ∧
        (t.node n).ctx.phase = .status) ∧
    (p.state = .configured → u.recipient = .iface → u.index = 0 → u.value = 0 → u.length = 0 →
      ∃ t, exec (.bulkReset n a u) s = .next t ∧
        (t.node n).port = { (base.node n).port with
          recovery := false, pendingIn := none, stagingBlocked := false, control := ended .bulkReset } ∧
        (t.node n).ctx = { Context.reset with fwdTicket := (s.node n).ctx.fwdTicket }) ∧
    (p.state ≠ .configured ∨ u.recipient ≠ .iface ∨ u.index ≠ 0 ∨ u.value ≠ 0 → exec (.bulkReset n a u) s = .next (stalled .bulkReset) ∧
      exec (.getMaxLun n a u) s = .next (stalled .getMaxLun)) ∧
    (u.length ≠ 0 → exec (.bulkReset n a u) s = .next (stalled .bulkReset)) ∧
    (u.dirIn = false → exec (.getMaxLun n a u) s = .next (stalled .getMaxLun)) ∧
    (p.state = .configured → u.recipient = .iface → u.index = 0 → u.value = 0 → u.dirIn = true →
      exec (.getMaxLun n a u) s = .next (answered .getMaxLun base [1]))

/-- The packets of a control transfer (R135, R136, R138): what an IN token to endpoint 0 is answered with, what its
acknowledgement does, and the status stage on OUT; a pending address takes effect when its status packet is acknowledged. The
model's choices: an acknowledgement with no transfer changes nothing, it is not checked to follow its packet, and a read whose
bytes are all acknowledged stays in its data stage until the OUT token (log entries 3, 26 and 49). -/
def Obligations.ControlPacketsMove : Prop :=
  (∀ (u : Setup) (bytes : List Byte),
    (stalledTransfer u).nextPacket = none ∧
    (u.length = 0 → (answeredTransfer u bytes).nextPacket = some { toggle := true, data := [] }) ∧
    (u.length ≠ 0 → (answeredTransfer u bytes).nextPacket =
      some { toggle := true, data := bytes.take (min u.length.toNat 64) })) ∧
  ∀ (s : State) (n : Node), Answering s n →
    let a := (s.node n).port.address
    let answer := fun x => (onBus n s).updPort n fun q => { q with answer := x }
    ((s.node n).port.control = none →
      exec (.controlInToken n a) s = .next (answer .stall) ∧ exec (.controlOutToken n a) s = .next (answer .stall) ∧
        exec (.controlInAck n) s = .next s) ∧
    ∀ c, (s.node n).port.control = some c →
      (c.nextPacket = none → exec (.controlInToken n a) s = .next (answer .stall)) ∧
      (∀ k, c.nextPacket = some k → exec (.controlInToken n a) s =
        .next ((onBus n s).updPort n fun q => { q with answer := .data k, control := some { c with inFlight := some k } })) ∧
      (c.inFlight = none → c.stage = .data →
        c.nextPacket =
          if c.sent < c.bytes.length then some { toggle := c.toggle, data := (c.bytes.drop c.sent).take 64 }
          else if c.zlp = true then some { toggle := c.toggle, data := [] } else none) ∧
      (∀ k, c.inFlight = some k → c.stage = .data → c.nextPacket = some k ∧ exec (.controlInAck n) s =
        .next ((onBus n s).updPort n fun q => { q with
          control := some { c with sent := c.sent + k.data.length, zlp := c.zlp && !k.data.isEmpty, toggle := !c.toggle,
                                   inFlight := none } })) ∧
      (∀ k, c.inFlight = some k → c.stage = .status → (s.node n).port.pendingAddress = none →
        exec (.controlInAck n) s = .next ((onBus n s).updPort n fun q => { q with control := none })) ∧
      (∀ k addr, c.inFlight = some k → c.stage = .status → (s.node n).port.pendingAddress = some addr →
        (s.node n).port.state ≠ .configured → exec (.controlInAck n) s = .next ((onBus n s).updPort n fun q =>
          { q with control := none, address := addr, pendingAddress := none, state := if addr = 0 then .defaulted else .addressed })) ∧
      (c.stage = .data → exec (.controlOutToken n a) s =
        .next ((onBus n s).updPort n fun q => { q with answer := .ack, control := none })) ∧
      (c.stage ≠ .data → exec (.controlOutToken n a) s = .next (answer .stall))

/-- Packets on the bulk endpoints of a CONFIGURED port (R131 to R133, R149, R158, R162): STALL while halted or in recovery; the
pending packet again until it is acknowledged; the status wrapper, whose delivery ends the command; a packet with the wrong
toggle acknowledged without effect; NAK where the context has nothing to give or does not take. That an acknowledgement with
nothing pending changes nothing, its form, and PING at FULL speed are the model's choice (log entries 3, 26 and 25). -/
def Obligations.BulkPacketsMove : Prop :=
  ∀ (s : State) (n : Node), Answering s n → (s.node n).port.state = .configured →
    let p := (s.node n).port
    let x := (s.node n).ctx
    let a := p.address
    let answer := fun y => (onBus n s).updPort n fun q => { q with answer := y }
    let size := if p.high = true then 512 else 64
    (∀ b, b ≠ a → exec (.bulkInToken n b) s = .next (onBus n s) ∧ exec (.ping n b) s = .next (onBus n s)) ∧
    (p.haltIn = true ∨ p.recovery = true → exec (.bulkInToken n a) s = .next (answer .stall)) ∧
    (p.haltIn = false → p.recovery = false →
      (∀ k, p.pendingIn = some k → exec (.bulkInToken n a) s = .next (answer (.data k))) ∧
      (p.pendingIn = none → x.phase = .status → exec (.bulkInToken n a) s = .next ((onBus n s).updPort n fun q =>
        { q with answer := .data { toggle := q.toggleIn, data := x.statusBytes },
                 pendingIn := some { toggle := q.toggleIn, data := x.statusBytes } })) ∧
      (p.pendingIn = none → x.phase = .dataIn → x.mode = .composed → exec (.bulkInToken n a) s =
        .next ((onBus n s).updPort n fun q =>
          let k : Packet := { toggle := q.toggleIn, data := (x.composed.drop x.moved).take (min size (x.dn - x.moved)) }
          { q with answer := .data k, pendingIn := some k })) ∧
      (p.pendingIn = none → x.phase = .dataIn → x.mode = .read → x.result = .passed →
        x.ask.map Ask.index = some ((x.startByte + x.moved) / 4096) →
        (s.readyLine n = none → exec (.bulkInToken n a) s = .next (answer .nak)) ∧
        ∀ l, s.readyLine n = some l → exec (.bulkInToken n a) s = .next ((onBus n s).updPort n fun q =>
          let k : Packet :=
            { toggle := q.toggleIn, data := (l.content.drop ((x.startByte + x.moved) % 4096)).take (min size (x.dn - x.moved)) }
          { q with answer := .data k, pendingIn := some k })) ∧
      (p.pendingIn = none → x.phase = .expectCommand ∨ x.phase = .dataOut ∨ x.phase = .awaitHost →
        exec (.bulkInToken n a) s = .next (answer .nak))) ∧
    (p.pendingIn = none → exec (.bulkInAck n) s = .next s) ∧
    (∀ k, p.pendingIn = some k →
      let taken := (onBus n s).updPort n fun q => { q with pendingIn := none, toggleIn := !q.toggleIn }
      (x.phase = .status → exec (.bulkInAck n) s =
        .next (taken.updCtx n fun _ => { Context.reset with fwdTicket := x.fwdTicket, filling := x.filling })) ∧
      (x.phase = .dataIn → x.mode = .composed → x.moved + k.data.length ≠ x.dn →
        exec (.bulkInAck n) s = .next (taken.updCtx n fun x => { x with moved := x.moved + k.data.length })) ∧
      (x.phase = .dataIn → x.mode = .zlp → x.ask = none → x.command ≠ none → ∃ t, exec (.bulkInAck n) s = .next t ∧
        (t.node n).ctx.phase = .status)) ∧
    (∀ toggle data, size < data.length → exec (.bulkOutPacket n a toggle data) s = .next (onBus n s)) ∧
    (∀ toggle data, data.length ≤ size →
      (p.haltOut = true ∨ p.recovery = true →
        exec (.bulkOutPacket n a toggle data) s = .next (answer .stall) ∧ exec (.ping n a) s = .next (answer .stall)) ∧
      (p.haltOut = false → p.recovery = false →
        (toggle ≠ p.toggleOut → exec (.bulkOutPacket n a toggle data) s = .next (answer .ack)) ∧
        (toggle = p.toggleOut → x.phase = .status ∨ x.phase = .dataIn ∨ x.phase = .awaitHost →
          exec (.bulkOutPacket n a toggle data) s = .next (answer .nak)) ∧
        (toggle = p.toggleOut → x.phase = .dataOut → x.mode = .discard → data.length = size → x.moved + size < x.expected →
          exec (.bulkOutPacket n a toggle data) s =
            .next (((onBus n s).updPort n fun q => { q with answer := .ack, toggleOut := !q.toggleOut }).updCtx n fun x =>
              { x with moved := x.moved + size })))) ∧
    (p.haltOut = false → p.recovery = false →
      (x.phase = .expectCommand ∨ (x.phase = .dataOut ∧ x.mode = .discard) → exec (.ping n a) s = .next (answer .ack)) ∧
      (x.phase = .status ∨ x.phase = .dataIn ∨ x.phase = .awaitHost → exec (.ping n a) s = .next (answer .nak)))

/-! ## Drives and block commands -/

/-- DRIVE_INSERT and DRIVE_EJECT (R143 to R146, R180): the images that are refused; an insert into an EMPTY slot, and into a PRESENT one,
which ejects first; the connect test that follows; and an eject, which keeps the remembered image, frees the drive's lines and
fails a running read with 02/3A/00. -/
def Obligations.ImagesComeAndGo : Prop :=
  (∀ (s : State) (tag : Byte) (n : Node) (u : Lun) (i : Image), Ready s → i.size < 2 ^ 48 → i.block < 65536 →
    let c := Instr.driveInsert tag (insertRecord n u i)
    let d := s.drive n u
    let p := (s.node n).port
    let new := fun g : Byte => { Drive.reset with image := some i, generation := g, unitAttention := true, remembered := some i }
    let reply := fun g : Byte => Reply.okay false ([BitVec.ofNat 8 n, BitVec.ofNat 8 u, 1, g] ++ le 5 (i.size / i.block))
    (i.valid = false → exec c s = .next ((heard s).enqueueReply 0x38 tag (Reply.refuse .badArg))) ∧
    (i.valid = true → d.image = none → p.enabled = false → p.state = .disabled →
      exec c s = .next (((heard s).updDrive n u fun _ => new (d.generation + 1)).enqueueReply 0x38 tag (reply (d.generation + 1)))) ∧
    (i.valid = true → d.image = none → p.enabled = true → p.desc ≠ none → (s.node n).lines.view = .running →
      p.state = .disconnected → 0 < p.delay →
      exec c s = .next ((((heard s).updDrive n u fun _ => new (d.generation + 1)).updPort n fun q =>
        { q with state := .connecting, connectStart := some s.timebase }).enqueueReply 0x38 tag (reply (d.generation + 1)))) ∧
    (i.valid = true → d.image ≠ none → ∃ t, exec c s = .next t ∧ t.drive n u = new (d.generation + 2) ∧
      (∀ m v, (m, v) ≠ (n, u) → (t.drive m v).image = (s.drive m v).image ∧ (t.drive m v).generation = (s.drive m v).generation))) ∧
  ∀ (s : State) (tag : Byte) (n : Node) (u : Lun), Ready s →
    let c := Instr.driveEject tag [BitVec.ofNat 8 n, BitVec.ofNat 8 u]
    let d := s.drive n u
    let held : Byte := if d.remembered.isSome = true then 1 else 0
    (d.image = none → exec c s = .next ((heard s).enqueueReply 0x39 tag (Reply.okay false [0, d.generation, held]))) ∧
    (d.image ≠ none → s.pool.waiting = [] → s.cache.slotWait = [] → (∀ k, (s.node n).ctx.command = some k → k.lun ≠ u) →
      (s.node n).port.pullUp = false ∨ ((s.node n).port.always = true ∧ connectHolds s n = true) → ∃ t, exec c s = .next t ∧
        t.drive n u = { d with image := none, generation := d.generation + 1, unitAttention := false, lastRead := none } ∧
        t.link.queue.getLast? = some { kind := 0xB9, tag := tag, payload := [0, 0, 0, d.generation + 1, held] } ∧
        t.cache.lines = s.cache.lines.filter (fun l => !(l.node == n && l.lun == u)) ∧
        t.pool.free = s.pool.free + 8 * (s.cache.lines.filter fun l => l.node == n && l.lun == u).length) ∧
    ∀ k, d.image ≠ none → s.pool.waiting = [] → s.cache.slotWait = [] → Reading s n k → k.lun = u → (s.node n).port.always = true →
      connectHolds s n = true → ∃ t, exec c s = .next t ∧
        (t.node n).ctx.result = .failed { key := 0x02, code := 0x3A, qualifier := 0 } ∧
        (∀ l ∈ t.cache.lines, ¬(l.node = n ∧ l.lun = u))

/-- A wrapper (R150, R152 to R157, R163 to R165): what becomes of a packet that is no valid wrapper; the command a valid one
becomes; its refusals; the phase errors; and, for each of the seven kinds of command, the context in which it goes on. A READ(10)
whose first line is held hits it and attaches, and one that is sequential and has asked for its last line makes a prefetch run
(R172 to R174, R182). -/
def Obligations.WrappersAreDispatched : Prop :=
  (∀ (s : State) (n : Node) (toggle : Bool) (data : List Byte), TakesWrapper s n toggle → validWrapper data = false →
    data.length ≤ (if (s.node n).port.high = true then 512 else 64) →
    exec (.invalidWrapper n (s.node n).port.address toggle data) s =
      .next ((latch (.node n .mediaError) (1 + 256 * (if (data.getD 13 0) = 1 then 1 else 0))
        (((onBus n s).updPort n fun q => { q with haltIn := true, haltOut := true, recovery := true }).updCtx n fun x =>
          { Context.reset with fwdTicket := x.fwdTicket, filling := x.filling, phase := .recovery })).updPort n fun q =>
        { q with answer := .ack, toggleOut := !q.toggleOut })) ∧
  ∀ (s : State) (n : Node) (toggle : Bool) (w : Wrapper), TakesWrapper s n toggle →
    let a := (s.node n).port.address
    let fin := fun t : State => t.updPort n fun q => { q with answer := .ack, toggleOut := !q.toggleOut }
    let lun : Lun := if w.lun = 1 then 1 else 0
    let d := s.drive n lun
    let e := w.expected.toNat
    let cmd := fun op : Byte =>
      ({ tag := w.tag, expected := e, dirIn := w.flags.msb, lun := lun, block := (op :: w.rest.toList).take w.blockLen.toNat } : Command)
    let ctx := fun op : Byte =>
      { Context.reset with
        fwdTicket := (s.node n).ctx.fwdTicket, filling := (s.node n).ctx.filling, command := some (cmd op),
        blockSize := match d.image with
          | none => 0
          | some i => i.block }
    let closed := fun x : Context =>
      if w.flags.msb = true then { x with phase := .dataIn, mode := .zlp } else { x with phase := .dataOut, mode := .discard }
    let block := w.rest.toList
    let alloc := (block.getD 3 0).toNat
    let goes := fun (op : Byte) (t : State) => exec (wrapperCommand n a toggle op w) s = .next (fin t)
    (∀ op : Byte, wrapperOk w op = true → op ∈ executedOps → 0 < e →
      w.blockLen.toNat < (if op = 0x00 ∨ op = 0x03 ∨ op = 0x12 then 6 else 10) →
      goes op ((onBus n s).updCtx n fun _ => closed { ctx op with result := .failed { key := 5, code := 0x20, qualifier := 0 } })) ∧
    (∀ op : Byte, wrapperOk w op = true → 10 ≤ w.blockLen.toNat → op ≠ 0x12 → op ≠ 0x03 → 0 < e → d.image = none →
      goes op ((onBus n s).updCtx n fun _ => closed { ctx op with result := .failed { key := 2, code := 0x3A, qualifier := 0 } })) ∧
    (∀ op : Byte, wrapperOk w op = true → 10 ≤ w.blockLen.toNat → op ≠ 0x12 → op ≠ 0x03 → 0 < e → d.image ≠ none →
      d.unitAttention = true →
      goes op (((onBus n s).updDrive n lun fun d => { d with unitAttention := false }).updCtx n fun _ =>
        closed { ctx op with result := .failed { key := 6, code := 0x28, qualifier := 0 } })) ∧
    (wrapperOk w 0x00 = true → 6 ≤ w.blockLen.toNat → d.image ≠ none → d.unitAttention = false →
      (e = 0 → exec (.testUnitReady n a toggle w) s =
        .next (fin (((onBus n s).updDrive n lun fun d => { d with sense := none }).updCtx n fun _ =>
          { ctx 0x00 with phase := .status, statusBytes := le 4 0x53425355 ++ le 4 w.tag.toNat ++ [0, 0, 0, 0, 0] }))) ∧
      (0 < e → exec (.testUnitReady n a toggle w) s = .next (fin ((onBus n s).updCtx n fun _ => closed (ctx 0x00))))) ∧
    (wrapperOk w 0x03 = true → 6 ≤ w.blockLen.toNat → w.flags.msb = true → 0 < alloc → min 18 alloc ≤ e →
      exec (.requestSense n a toggle w) s = .next (fin (((onBus n s).updDrive n lun fun d => { d with sense := none }).updCtx n fun _ =>
        { ctx 0x03 with dn := min 18 alloc, phase := .dataIn, mode := .composed, composed := (senseBytes d.sense).take (min 18 alloc) }))) ∧
    (wrapperOk w 0x12 = true → 6 ≤ w.blockLen.toNat → w.flags.msb = true → ∀ ds, (s.node n).port.desc = some ds →
      let len := min 36 (256 * (block.getD 2 0).toNat + alloc)
      0 < len → len ≤ e →
      exec (.inquiry n a toggle w) s = .next (fin ((onBus n s).updCtx n fun _ =>
        { ctx 0x12 with dn := len, phase := .dataIn, mode := .composed, composed := ds.inquiry[lun].take len }))) ∧
    (∀ i, d.image = some i → d.unitAttention = false → 10 ≤ w.blockLen.toNat →
      (wrapperOk w 0x25 = true → w.flags.msb = true → 8 ≤ e → exec (.readCapacity n a toggle w) s =
        .next (fin ((onBus n s).updCtx n fun _ =>
          { ctx 0x25 with dn := 8, phase := .dataIn, mode := .composed, composed := be 4 (i.size / i.block - 1) ++ be 4 i.block }))) ∧
      (wrapperOk w 0x25 = true → e = 0 → ∃ t, exec (.readCapacity n a toggle w) s = .next t ∧ (t.node n).ctx.phase = .status ∧
        (t.node n).ctx.result = .phaseError) ∧
      (wrapperOk w 0x25 = true → w.flags.msb = true → 0 < e → e < 8 → ∃ t, exec (.readCapacity n a toggle w) s = .next t ∧
        (t.node n).ctx.phase = .haltThenStatus ∧ (t.node n).ctx.halted = some .bulkIn ∧ (t.node n).port.haltIn = true) ∧
      (let lba := (cmd 0x28).lba
       let count := (cmd 0x28).blocks
       let start := lba * i.block
       0 < count → 0 < i.block → count * i.block ≤ e →
       (wrapperOk w 0x28 = true → w.flags.msb = true → i.size / i.block < lba + count →
         exec (.read10 n a toggle w) s = .next (fin ((onBus n s).updCtx n fun _ =>
           closed { ctx 0x28 with dn := count * i.block, result := .failed { key := 5, code := 0x21, qualifier := 0 } }))) ∧
       (wrapperOk w 0x28 = true → w.flags.msb = true → lba + count ≤ i.size / i.block → d.lastRead = none → s.link.online = .online →
         s.pool.waiting = [] → s.cache.slotWait = [] → s.cache.lines.length < s.cache.limit → 8 ≤ s.pool.free →
         s.findLine n lun d.generation (start / 4096) = none → ∀ slot, s.lowestFreeSlot = some slot →
         ∃ t, exec (.read10 n a toggle w) s = .next t ∧ (t.node n).port.answer = .ack ∧ (t.node n).port.toggleOut = !toggle ∧
           (t.node n).ctx = { ctx 0x28 with
             dn := count * i.block, phase := .dataIn, mode := .read, running := true, startByte := start,
             lastLine := (start + count * i.block - 1) / 4096,
             ask := some { index := start / 4096, generation := d.generation, state := .attached } } ∧
           t.drive n lun = { d with misses := min 65535 (d.misses + 1), lastRead := some ((start + count * i.block - 1) / 4096) } ∧
           t.cache.lines = s.cache.lines ++
             [{ node := n, lun := lun, generation := d.generation, index := start / 4096, state := .fetching slot,
                chunks := Vector.replicate 8 none, pins := 1 }] ∧
           t.cache.slots[slot].ticket = s.cache.slots[slot].ticket + 1 ∧ t.pool.free = s.pool.free - 8) ∧
       (wrapperOk w 0x28 = true → w.flags.msb = true → lba + count ≤ i.size / i.block → ∀ l,
         let first := start / 4096
         let last := (start + count * i.block - 1) / 4096
         let sequential := decide (d.lastRead = some first ∨ d.lastRead.map (· + 1) = some first)
         s.findLine n lun d.generation first = some l →
         let hit := (((onBus n s).updDrive n lun fun d => { d with hits := min 65535 (d.hits + 1), lastRead := some last }).updCache fun q =>
             { q with lines := q.lines.eraseP (fun x => x.isFor n lun d.generation first) ++ [{ l with pins := l.pins + 1 }] }).updCtx n fun _ =>
           { ctx 0x28 with
             dn := count * i.block, phase := .dataIn, mode := .read, running := true, startByte := start, lastLine := last,
             sequential := sequential, ask := some { index := first, generation := d.generation, state := .attached } }
         exec (.read10 n a toggle w) s =
           .next (fin (if sequential = true ∧ first = last then prefetchRun n lun s.cache.depth (last + 1) hit else hit))) ∧
       (wrapperOk w 0x2A = true → w.flags.msb = false → lba + count ≤ i.size / i.block → i.writable = false →
         exec (.write10 n a toggle w) s = .next (fin ((onBus n s).updCtx n fun _ =>
           closed { ctx 0x2A with dn := count * i.block, result := .failed { key := 7, code := 0x27, qualifier := 0 } }))) ∧
       (wrapperOk w 0x2A = true → w.flags.msb = false → lba + count ≤ i.size / i.block → i.writable = true → s.link.online = .online →
         (∀ l ∈ s.cache.lines, ¬(l.node = n ∧ l.lun = lun)) →
         exec (.write10 n a toggle w) s = .next (fin ((onBus n s).updCtx n fun _ =>
           { ctx 0x2A with dn := count * i.block, phase := .dataOut, mode := .write, running := true, startByte := start })))) ∧
      ∀ op : Byte, wrapperOk w op = true → op ∉ executedOps →
        (w.flags.msb = false → 0 < e → exec (.forwardedCommand n a toggle op w) s = .next (fin ((onBus n s).updCtx n fun _ =>
          { ctx op with phase := .dataOut, mode := .forward }))) ∧
        (w.flags.msb = true → s.link.online = .online → s.link.held = false → s.link.waiting = [] → s.link.queue.length ≤ 28 →
          let ticket := (s.node n).ctx.fwdTicket + 1
          exec (.forwardedCommand n a toggle op w) s = .next (fin (((onBus n s).enqueueNotice 0xE4
            ([BitVec.ofNat 8 n, BitVec.ofNat 8 lun, ticket, BitVec.ofNat 8 (cmd op).block.length]
              ++ ((cmd op).block ++ List.replicate 16 0).take 16 ++ le 4 e ++ [1, 0, 0])).updCtx n fun _ =>
            { ctx op with phase := .awaitHost, fwdTicket := ticket, fwdStart := s.timebase, fwdTimeout := s.cache.timeout, fwdState := .sent }))))

/-- The end of a forward (R166, R167): FWD_RESULT gives the result and the data of a command that reads, else its status; one
that names no forward is stale; an expired forward fails with 02/04/00. That a timeout that is not due changes nothing is the
model's choice (log entry 3). -/
def Obligations.ForwardsEnd : Prop :=
  (∀ (s : State) (tag node ticket status key code qualifier : Byte) (data : List Byte), Fresh s → s.link.online = .online →
    data.length ≤ 512 →
    let c := Instr.fwdResult tag ([node, ticket, status, key, code, qualifier] ++ data)
    let result : CmdResult := if status = 0 then .passed else .failed { key := key, code := code, qualifier := qualifier }
    (3 < node.toNat → exec c s = .next (latch .staleAnswer 0x63 (heard s))) ∧
    ∀ n : Node, (n : Nat) = node.toNat →
      let x := (s.node n).ctx
      (x.fwdState ≠ .sent ∨ x.fwdTicket ≠ ticket → exec c s = .next (latch .staleAnswer 0x63 (heard s))) ∧
      ∀ k, x.fwdState = .sent → x.fwdTicket = ticket → x.command = some k →
        (k.dirIn = true → data.take k.expected ≠ [] → exec c s = .next ((heard s).updCtx n fun x =>
          { x with fwdState := .none, result := result, phase := .dataIn, mode := .forwarded, fwdBuffer := data.take k.expected,
                   dn := min k.expected data.length })) ∧
        (k.dirIn = true → 0 < k.expected → data = [] → exec c s = .next ((heard s).updCtx n fun x =>
          { x with fwdState := .none, result := result, phase := .dataIn, mode := .zlp, fwdBuffer := [], dn := 0 })) ∧
        (k.dirIn = false ∨ k.expected = 0 → exec c s =
          .next (((heard s).updDrive n k.lun fun d => d.afterStatus k.op x.blockSize x.moved result).updCtx n fun x =>
            { x with fwdState := .none, result := result, phase := .status, mode := .none,
                     statusBytes := le 4 0x53425355 ++ le 4 k.tag.toNat ++ le 4 (k.expected - x.moved) ++
                       [if status = 0 then 0 else 1] }))) ∧
  ∀ (s : State) (n : Node), s.porst = false →
    (s.isDue (.forward n) = false → exec (.fwdTimeout n) s = .next s) ∧
    ∀ k, s.isDue (.forward n) = true → (s.node n).ctx.command = some k → k.dirIn = true → 0 < k.expected →
      exec (.fwdTimeout n) s = .next (latch (.node n .mediaError) (3 + 256 * k.lun)
        ((({ s with due := s.due.erase (.forward n) } : State).updLink fun l =>
            { l with waiting := l.waiting.filter (· ≠ .forward n) }).updCtx n fun x =>
          { x with fwdState := .none, result := .failed { key := 2, code := 4, qualifier := 0 }, phase := .dataIn, mode := .zlp }))

/-! ## The media cache -/

/-- The end of a fetch (R175, R178, R179): a stale answer; a chunk that is stored, one already received, one that completes its
line; and a fetch that fails, whose line is freed and whose reader fails with 03/11/00. That a timeout that is not due changes
nothing is the model's choice (log entry 3). -/
def Obligations.FetchesEnd : Prop :=
  (∀ (s : State) (tag slot ticket generation k : Byte) (data : List Byte), Fresh s → s.link.online = .online →
    1 ≤ data.length → data.length ≤ 512 →
    let c := Instr.fetchData tag ([slot, ticket, generation, k] ++ data)
    let f := Instr.fetchFail tag [slot, ticket, generation, k]
    (15 < slot.toNat → exec c s = .next (latch .staleAnswer 0x60 (heard s)) ∧ exec f s = .next (latch .staleAnswer 0x61 (heard s))) ∧
    ∀ i : Fin 16, (i : Nat) = slot.toNat →
      ((∀ start ms, s.cache.slots[i].use ≠ .sent start ms) ∨ s.cache.slots[i].ticket ≠ ticket ∨
          (∀ l, s.slotLine i = some l → l.generation ≠ generation) →
        exec c s = .next (latch .staleAnswer 0x60 (heard s)) ∧ exec f s = .next (latch .staleAnswer 0x61 (heard s))) ∧
      ∀ l start ms, s.cache.slots[i].use = .sent start ms → s.cache.slots[i].ticket = ticket → s.slotLine i = some l →
        l.generation = generation →
        let len := (s.drive l.node l.lun).lineLength l.index
        let fails := fun cause : Nat =>
          latch (.node l.node .mediaError) (cause + 256 * l.lun)
            (((((heard s).updLink fun q => { q with waiting := q.waiting.filter (· ≠ .fetch i) }).updCache fun q =>
                { q with lines := q.lines.eraseP fun x => x.inSlot i }).updPool fun q => { q with free := q.free + 8 }).updSlot i fun x =>
              { x with use := .free })
        (∀ j : Fin 8, (j : Nat) = k.toNat → (j : Nat) < (len + 511) / 512 → data.length = min 512 (len - 512 * j) →
          (l.chunks[j] ≠ none → exec c s = .next (heard s)) ∧
          (l.chunks[j] = none →
            let stored := fun x : Line => { x with chunks := x.chunks.set j (some data) }
            ((stored l).complete len = false → exec c s = .next ((heard s).updCache fun q =>
              { q with lines := q.lines.map fun x => if x.inSlot i = true then stored x else x })) ∧
            ((stored l).complete len = true → l.state = .fetching i → 0 < l.pins → s.cache.slotWait = [] →
              exec c s = .next (((heard s).updCache fun q =>
                { q with lines := q.lines.map fun x => if x.inSlot i = true then { stored x with state := .valid } else x }).updSlot i fun x =>
                { x with use := .free })))) ∧
        (l.state = .fetching i → l.pins = 0 → s.cache.slotWait = [] → s.pool.waiting = [] →
          ((8 ≤ k.toNat ∨ (len + 511) / 512 ≤ k.toNat ∨ data.length ≠ min 512 (len - 512 * k.toNat)) →
            exec c s = .next (fails 6)) ∧
          exec f s = .next (fails (if k = 2 then 5 else 4))) ∧
        ∀ q, l.state = .fetching i → 0 < l.pins → s.cache.slotWait = [] → s.pool.waiting = [] → Reading s l.node q →
          ∃ t, exec f s = .next t ∧ (t.node l.node).ctx.result = .failed { key := 3, code := 0x11, qualifier := 0 } ∧
            t.cache.slots[i].use = .free ∧ t.pool.free = s.pool.free + 8 ∧
            (t.cache.lines.filter fun x => x.inSlot i).length + 1 = (s.cache.lines.filter fun x => x.inSlot i).length) ∧
  ∀ (s : State) (i : Fin 16) (l : Line), s.porst = false →
    (s.isDue (.fetch i) = false → exec (.fetchTimeout i) s = .next s) ∧
    (s.isDue (.fetch i) = true → s.slotLine i = some l → l.state = .fetching i → l.pins = 0 → s.cache.slotWait = [] →
      s.pool.waiting = [] → exec (.fetchTimeout i) s =
        .next (latch (.node l.node .mediaError) (7 + 256 * l.lun)
          ((((({ s with due := s.due.erase (.fetch i) } : State).updLink fun q =>
              { q with waiting := q.waiting.filter (· ≠ .fetch i) }).updCache fun q =>
              { q with lines := q.lines.eraseP fun x => x.inSlot i }).updPool fun q => { q with free := q.free + 8 }).updSlot i fun x =>
            { x with use := .free })))

/-- The slot-wait list and the waiting allocations (R31, R176): a FREE slot passes to the head of the list, whose line is
created; a read that has waited for the fetch timeout fails with 03/11/00 and MEDIA_ERROR FETCH_TIMEOUT. That a timeout that is
not due, and a grant that finds nothing to do, change nothing is the model's choice (log entries 3 and 36). -/
def Obligations.WaitingReadsEnd : Prop :=
  (∀ s : State, s.porst = false →
    (s.cache.slotWait = [] ∨ s.lowestFreeSlot = none → exec .slotWaitGrant s = .next s) ∧
    ∀ w i k a, s.cache.slotWait = [w] → s.lowestFreeSlot = some i → s.cache.lines.length < s.cache.limit → 8 ≤ s.pool.free →
      (s.node w.node).ctx.command = some k → (s.node w.node).ctx.ask = some a → ∃ t, exec .slotWaitGrant s = .next t ∧
        t.cache.slotWait = [] ∧ t.pool.free = s.pool.free - 8 ∧
        t.cache.slots[i].ticket = s.cache.slots[i].ticket + 1 ∧
        (t.cache.slots[i].use = .offered s.timebase s.cache.timeout ∨ t.cache.slots[i].use = .sent s.timebase s.cache.timeout) ∧
        t.cache.lines = s.cache.lines ++
          [{ node := w.node, lun := k.lun, generation := (s.drive w.node k.lun).generation, index := a.index,
             state := .fetching i, chunks := Vector.replicate 8 none, pins := 1 }]) ∧
  (∀ (s : State) (n : Node), s.porst = false →
    (s.isDue (.slotWait n) = false → exec (.slotWaitTimeout n) s = .next s) ∧
    (s.isDue (.allocationWait n) = false → exec (.allocationWaitTimeout n) s = .next s)) ∧
  ∀ (s : State) (n : Node) (k : Command) (a : Ask), s.porst = false → Reading s n k → (s.node n).ctx.ask = some a →
    (s.isDue (.slotWait n) = true → a.state = .waitingSlot → (∀ i : Fin 16, s.cache.slots[i].use ≠ .reserved n) →
      ∃ t, exec (.slotWaitTimeout n) s = .next t ∧ t.cache.slotWait = s.cache.slotWait.filter (fun w => decide (w.node ≠ n)) ∧
        (t.node n).ctx.result = .failed { key := 3, code := 0x11, qualifier := 0 } ∧ (t.node n).ctx.ask = none ∧
        (s.events.recs[(Source.node n .mediaError).id].level ≠ 0 →
          t.events.recs[(Source.node n .mediaError).id].lastDetail = 7 + 256 * k.lun)) ∧
    ∀ i, s.isDue (.allocationWait n) = true → a.state = .waitingPages → s.reservedSlot n = some i → s.cache.slotWait = [] →
      ∃ t, exec (.allocationWaitTimeout n) s = .next t ∧
        t.pool = { s.pool with waiting := s.pool.waiting.filter fun w => decide (w.node ≠ n) } ∧ t.cache.slots[i].use = .free ∧
        (t.node n).ctx.result = .failed { key := 3, code := 0x11, qualifier := 0 } ∧ (t.node n).ctx.ask = none ∧
        (s.events.recs[(Source.node n .mediaError).id].level ≠ 0 →
          t.events.recs[(Source.node n .mediaError).id].lastDetail = 7 + 256 * k.lun)

/-- The writes (R33, R160, R161, R184, R185): a full unit of 512 bytes takes a staging page and the lowest FREE entry;
WRITE_DONE frees its entry and its page, and the last one ends the command; a failure is 03/0C/00; an expired entry whose
command is gone is freed; other answers are stale. That a timeout that is not due changes nothing is the model's choice (log
entry 3). -/
def Obligations.WritesAreAnswered : Prop :=
  (∀ (s : State) (n : Node) (toggle : Bool) (data : List Byte) (k : Command) (i : Fin 32), Answering s n →
    let p := (s.node n).port
    let x := (s.node n).ctx
    p.state = .configured → p.haltOut = false → p.recovery = false → p.toggleOut = toggle → p.high = true → data.length = 512 →
    x.command = some k → x.phase = .dataOut → x.mode = .write → x.running = true → x.result = .passed → x.filling = none →
    x.moved % 512 = 0 → x.moved + 512 < x.dn → x.dn ≤ k.expected → s.stagingPages n < 8 → 0 < s.pool.free → s.link.online = .online →
    (s.cache.writes[i].use = none ∧ ∀ j, j < i → s.cache.writes[j].use ≠ none) → ∃ t,
      exec (.bulkOutPacket n p.address toggle data) s = .next t ∧ (t.node n).port.answer = .ack ∧ (t.node n).port.toggleOut = !toggle ∧
      (t.node n).ctx = { x with moved := x.moved + 512 } ∧ t.pool = { s.pool with free := s.pool.free - 1 } ∧
      t.cache.writes[i].ticket = s.cache.writes[i].ticket + 1 ∧ ∃ sent, t.cache.writes[i].use = some
        { sent := sent, node := n, lun := k.lun, handle := ((s.drive n k.lun).image.map Image.handle).getD 0,
          offset := x.startByte + x.moved, data := data, start := s.timebase, timeout := s.cache.timeout, cancelled := false }) ∧
  (∀ (s : State) (tag entry ticket status : Byte), Fresh s → s.link.online = .online →
    let c := Instr.writeDone tag [entry, ticket, status]
    (31 < entry.toNat → exec c s = .next (latch .staleAnswer 0x62 (heard s))) ∧
    ∀ i : Fin 32, (i : Nat) = entry.toNat →
      ((∀ w, s.cache.writes[i].use = some w → w.sent = false) ∨ s.cache.writes[i].ticket ≠ ticket →
        exec c s = .next (latch .staleAnswer 0x62 (heard s))) ∧
      ∀ w, s.cache.writes[i].use = some w → w.sent = true → s.cache.writes[i].ticket = ticket → s.pool.waiting = [] →
        let freed := (((heard s).updLink fun q => { q with waiting := q.waiting.filter (· ≠ .write i) }).updEntry i fun e =>
          { e with use := none }).updPool fun q => { q with free := q.free + 1 }
        (w.cancelled = true →
          (status = 0 → exec c s = .next freed) ∧
          (status ≠ 0 → exec c s = .next (latch (.node w.node .mediaError) (9 + 256 * w.lun) freed))) ∧
        ∀ k, w.cancelled = false → (s.node w.node).ctx.command = some k → (s.node w.node).ctx.phase = .awaitHost →
          (s.node w.node).ctx.running = true →
          (∀ j v, s.cache.writes[j].use = some v → v.node = w.node → v.cancelled = false → j = i) →
          (s.node w.node).ctx.result = .passed → (s.node w.node).ctx.filling = none → ∃ t, exec c s = .next t ∧
            t.cache = freed.cache ∧ t.pool = freed.pool ∧ (t.node w.node).ctx.phase = .status ∧
            (t.node w.node).ctx.result = (if status = 0 then .passed else .failed { key := 3, code := 0x0C, qualifier := 0 }) ∧
            (t.node w.node).ctx.statusBytes = le 4 0x53425355 ++ le 4 k.tag.toNat ++
              le 4 (k.expected - (s.node w.node).ctx.moved) ++ [if status = 0 then 0 else 1]) ∧
  ∀ (s : State) (i : Fin 32) (w : WriteUse), s.porst = false → s.cache.writes[i].use = some w →
    (s.isDue (.write i) = false → exec (.writeTimeout i) s = .next s) ∧
    (s.isDue (.write i) = true → w.cancelled = true → s.pool.waiting = [] → exec (.writeTimeout i) s =
      .next (latch (.node w.node .mediaError) (10 + 256 * w.lun)
        (((({ s with due := s.due.erase (.write i) } : State).updLink fun q =>
            { q with waiting := q.waiting.filter (· ≠ .write i) }).updEntry i fun e => { e with use := none }).updPool fun q =>
          { q with free := q.free + 1 })))

/-! ## Settings of the cache and the event table, and reports -/

/-- CACHE_CONFIG and CACHE_DROP (R180, R181, R187), EVENT_CONFIG and EVENT_TAKE (R192, R195): what each refuses, the settings
and the generation that come into force, the lines that are freed or DOOMED, the levels given, and the sources that are taken,
the higher levels first. That EVENT_TAKE offers its EVENT_SUMMARY before the reply is queued, with room for it measured without
the reply, so that the reply stands last, is read from R8 (log entry 10, DEDUCED); R195 gives no such order. -/
def Obligations.CacheAndEventsAreSet : Prop :=
  (State.reset.cache.limit = 64 ∧ State.reset.cache.depth = 2 ∧ State.reset.cache.timeout = 3000) ∧
  (∀ (s : State) (tag limit depth : Byte) (v : Nat), Ready s → v < 65536 →
    let c := Instr.cacheConfig tag ([limit, depth] ++ le 2 v)
    let l := min 96 limit.toNat
    let k := min 4 depth.toNat
    let ms := if v < 100 then 100 else if 10000 < v then 10000 else v
    ((∃ n u, (s.drive n u).image ≠ none) → exec c s = .next ((heard s).enqueueReply 0x3B tag (Reply.refuse .badState))) ∧
    ((∀ n u, (s.drive n u).image = none) → exec c s =
      .next (((heard s).updCache fun q => { q with limit := l, depth := k, timeout := ms }).enqueueReply 0x3B tag
        (Reply.okay (decide (l ≠ limit.toNat ∨ k ≠ depth.toNat ∨ ms ≠ v)) ([BitVec.ofNat 8 l, BitVec.ofNat 8 k] ++ le 2 ms))))) ∧
  (∀ (s : State) (tag : Byte) (n : Node) (u : Lun), Ready s →
    let c := Instr.cacheDrop tag [BitVec.ofNat 8 n, BitVec.ofNat 8 u]
    let mine := fun l : Line => l.node == n && l.lun == u
    ((s.drive n u).image = none → exec c s = .next ((heard s).enqueueReply 0x3C tag (Reply.refuse .badState))) ∧
    ((s.drive n u).image ≠ none → (s.node n).ctx.ask = none → s.pool.waiting = [] → exec c s =
      .next (((((heard s).updDrive n u fun d => { d with generation := d.generation + 1, lastRead := none }).updCache fun q =>
          { q with lines := (q.lines.filter fun l => !(mine l && decide (l.state = .valid))).map fun l =>
              if mine l = true then
                match l.state with
                | .fetching i => { l with state := .doomed i }
                | _ => l
              else l }).updPool fun q =>
          { q with free := q.free + 8 * (s.cache.lines.filter fun l => mine l && decide (l.state = .valid)).length }).enqueueReply 0x3C tag
        (Reply.okay false [(s.drive n u).generation + 1])))) ∧
  (∀ (s : State) (tag level : Byte) (mask : Nat), Ready s → mask < 2 ^ 64 →
    let c := Instr.eventConfig tag (le 8 mask ++ [level])
    (2 ^ 52 ≤ mask → exec c s = .next ((heard s).enqueueReply 0x40 tag (Reply.refuse .badArg))) ∧
    (mask < 2 ^ 52 → ∃ t, exec c s = .next t ∧ t = { s with link := t.link, events := t.events } ∧
      t.events.owed = s.events.owed ∧
      (∀ i : Fin 52, t.events.recs[i] =
        { s.events.recs[i] with level := if mask.testBit i = true then min 3 level.toNat else s.events.recs[i].level }) ∧
      t.link.queue = s.link.queue ++ [{ kind := 0xC0, tag := tag, payload :=
        [0, if 3 < level.toNat then 1 else 0] ++ t.events.recs.toList.map fun r => BitVec.ofNat 8 r.level }])) ∧
  ∀ (s : State) (tag : Byte) (mask : Nat), Ready s → mask < 2 ^ 64 →
    let c := Instr.eventTake tag (le 8 mask)
    (2 ^ 52 ≤ mask → exec c s = .next ((heard s).enqueueReply 0x41 tag (Reply.refuse .badArg))) ∧
    (mask < 2 ^ 52 → (∀ r ∈ s.events.recs.toList, r.level ≤ 3) → ∃ t, exec c s = .next t ∧
      t = { s with link := t.link, events := t.events } ∧
      (∀ i : Fin 52, t.events.recs[i] = if mask.testBit i = true ∧ 0 < s.events.recs[i].count then
        { level := s.events.recs[i].level, count := 0, lastDetail := 0, firstTime := none } else s.events.recs[i]) ∧
      ((∀ i : Fin 52, 0 < t.events.recs[i].count → t.events.recs[i].level < s.link.threshold) → t.events.owed = false) ∧
      ((∃ i : Fin 52, 0 < t.events.recs[i].count ∧ s.link.threshold ≤ t.events.recs[i].level) →
        let room := s.link.queue.length ≤ 30 ∧ ∀ f ∈ s.link.queue, f.kind ≠ 0xE5
        (t.events.owed = true ↔ s.events.owed = true ∧ ¬room) ∧
          t.link.queue.length = s.link.queue.length + (if s.events.owed = true ∧ room then 2 else 1)) ∧
      s.link.queue <+: t.link.queue ∧
      ∃ ids : List (Fin 52),
        ids.Pairwise (fun i j => s.events.recs[j].level < s.events.recs[i].level ∨
          (s.events.recs[i].level = s.events.recs[j].level ∧ i < j)) ∧
        (∀ i, i ∈ ids ↔ mask.testBit i = true ∧ 0 < s.events.recs[i].count) ∧
        t.link.queue.getLast? = some { kind := 0xC1, tag := tag, payload := [0, 0, BitVec.ofNat 8 ids.length] ++ le 8 t.pendingMask ++
          (ids.map fun i : Fin 52 => [BitVec.ofNat 8 i, BitVec.ofNat 8 s.events.recs[i].level, BitVec.ofNat 8 s.events.recs[i].count] ++
            le 2 s.events.recs[i].lastDetail ++ le 4 (s.events.recs[i].firstTime.getD 0).toNat).flatten })

/-- The reports (R35, R71, R91, R118, R142, R147, R188, R197): each changes nothing but the outbound queue and answers OK with
the bytes of its table of section 11.3, field by field. The model's choices: the mode and the action that PAT_STATE gives for an
empty record, what CACHE_STATE gives for a slot without a line, and the order of the held slots in PLAN_STATE (log entries 15,
17 and 29). -/
def Obligations.ReportsAreTaken : Prop :=
  ∀ (s : State) (tag : Byte) (n : Node) (u : Lun), Ready s →
    let reports := fun (c : Instr) (kind : Byte) (len : Nat) (fields : List Byte) => fields.length = len ∧
      exec c s = .next ((heard s).enqueueReply kind tag (Reply.okay false fields))
    let b := fun v : Nat => [BitVec.ofNat 8 v]
    let f := fun v : Bool => ([if v = true then 1 else 0] : List Byte)
    let orNone := fun v : Option Nat => [BitVec.ofNat 8 (v.getD 0xFF)]
    let left := fun (width none_ : Nat) (v : Option (Word32 × Nat)) =>
      le width ((v.map fun x => x.2 - (s.timebase - x.1).toNat).getD none_)
    let image := fun i : Option Image => match i with
      | none => List.replicate 13 (0 : Byte)
      | some i => le 4 i.handle.toNat ++ le 6 i.size ++ le 2 i.block ++ f i.writable
    let x := s.node n
    let p := x.port
    let pulse := fun o => (s.output n o).pulse.map fun q => (q.start, q.ms)
    reports (.poolState tag []) 0x09 36
      (le 2 s.pool.free ++ (allNodes.map fun m =>
          le 2 (s.node m).hist.holding ++ le 2 (s.node m).hist.reserve ++ le 2 (s.node m).hist.maximum
            ++ b ((s.cache.writes.toList.filter fun e => decide (e.use.map WriteUse.node = some m)).length
              + if (s.node m).ctx.filling = none then 0 else 1)
            ++ f (s.node m).port.desc.isSome).flatten
        ++ b s.cache.lines.length ++ b s.pool.waiting.length) ∧
    reports (.patState tag (b n)) 0x19 65
      (((List.finRange 8).map fun i =>
          (match x.patterns[i] with
            | none => [0, 0, 0, 0xFF, 0, 0, 0]
            | some q => b q.bytes.length ++ f q.rep ++ b q.action.num
              ++ orNone (match q.action with
                | .startPlan k => some k
                | _ => none)
              ++ f q.armed ++ le 2 q.hits)
            ++ f (decide (s.waitingOn n .waitingMatch = some (.waitMatch i)))).flatten ++ b x.window.length) ∧
    reports (.nodeState tag (b n)) 0x22 46
      (b x.lines.view.num
        ++ (allOutputs.map fun o =>
          f (s.output n o).active ++ f (s.output n o).openDrain ++ f (s.output n o).activeHigh ++ b (pulseSourceNum (s.output n o).pulse)
            ++ left 2 0xFFFF (pulse o)).flatten
        ++ ([x.lines.pgood, x.lines.auxin].map fun l =>
          f l.accepted ++ f (decide (l.accepted = l.activeHigh)) ++ f l.activeHigh ++ b l.debounce ++ f l.candidate.isSome).flatten
        ++ f x.lines.settleStart.isSome ++ left 2 0xFFFF (x.lines.settleStart.map fun q => (q, x.lines.cutSettle))
        ++ le 2 x.lines.cutSettle ++ f x.lines.cutFault ++ b ((x.exec.run.map fun r => r.state.num).getD 0)
        ++ orNone (x.exec.run.map fun r => (r.plan : Nat)) ++ f (s.hostPulse n) ++ le 2 x.tx.queue.length) ∧
    reports (.planState tag (b n)) 0x2B 59
      ((match x.exec.run with
        | none => [0, 0xFF, 0xFF, 0xFF, 0xFF, 0xFF, 0, 0, 0, 0, 0xFF, 0xFF, 0xFF, 0xFF, 0, 0]
        | some r => b r.state.num ++ b r.plan ++ b r.priority ++ b r.origin.num ++ b r.step
            ++ orNone ((s.currentStep n).map fun st => st.kind.num) ++ le 4 r.stepStart.toNat
            ++ left 4 0xFFFFFFFF (match s.currentStep n with
              | none => none
              | some st => match r.state, st.kind with
                | .pulsing, .pulseLine o _ => pulse o
                | .delaying, .delay ms => some (r.stepStart, ms)
                | .runningStep, _ => none
                | _, _ => if st.timeout = 0 then none else some (r.stepStart, st.timeout))
            ++ b r.started ++ b ((allOutputs.map fun o => if r.touched[outIdx o] = true then 2 ^ (outIdx o : Nat) else 0).sum))
        ++ (match x.exec.last with
          | none => [0xFF, 0, 0, 0, 0, 0, 0, 0]
          | some e => b e.result.num ++ b e.plan ++ b e.step ++ [0] ++ le 4 e.time.toNat)
        ++ b s.arbiter.count ++ b s.arbiter.holds.length
        ++ ((s.arbiter.holds.map fun h : Hold => b h.node ++ left 4 0 (some (h.start, h.ms))).flatten ++ List.replicate 20 0).take 20
        ++ b s.arbiter.waiting.length
        ++ ((s.arbiter.waiting.map fun w : SlotWaiter => b w.node ++ le 2 w.hold).flatten ++ List.replicate 12 0).take 12) ∧
    reports (.portState tag (b n)) 0x32 23
      (b p.state.num ++ orNone (p.remembered.map PortState.num) ++ f p.enabled ++ f p.always ++ le 2 p.delay ++ f p.fullSpeedOnly
        ++ b ((if p.enabled = true then 1 else 0) + (if p.desc.isSome = true then 2 else 0)
          + (if x.lines.view = .running then 4 else 0)
          + (if p.always = true ∨ (s.drive n 0).image.isSome = true ∨ (s.drive n 1).image.isSome = true then 8 else 0))
        ++ left 2 0xFFFF (p.connectStart.map fun q => (q, p.delay)) ++ f p.pullUp ++ f p.high ++ b p.address.toNat
        ++ orNone (p.pendingAddress.map BitVec.toNat) ++ f p.configuration
        ++ b ((if p.haltIn = true then 1 else 0) + (if p.haltOut = true then 2 else 0))
        ++ b ((if p.toggleIn = true then 1 else 0) + (if p.toggleOut = true then 2 else 0))
        ++ f p.recovery ++ f p.pendingIn.isSome ++ [(p.control.map fun q => q.setup.code).getD 0]
        ++ b ((p.control.map fun q => q.stage.num).getD 0) ++ f p.desc.isSome ++ b x.ctx.phase.num) ∧
    (let d := s.drive n u
     reports (.driveState tag (b n ++ b u)) 0x3A 47
      (f d.image.isSome ++ image d.image ++ le 5 ((d.image.map fun i => i.size / i.block).getD 0) ++ [d.generation] ++ f d.unitAttention
        ++ f d.sense.isSome ++ (match d.sense with
          | none => [0, 0, 0]
          | some y => [y.key, y.code, y.qualifier])
        ++ f d.remembered.isSome ++ image d.remembered ++ le 2 d.blocksRead ++ le 2 d.hits ++ le 2 d.misses
        ++ f (decide (x.ctx.command.map Command.lun = some u)) ++ b x.ctx.phase.num)) ∧
    reports (.cacheState tag []) 0x3D 524
      (b s.cache.limit ++ b s.cache.depth ++ le 2 s.cache.timeout
        ++ b (s.cache.lines.filter Line.isFetching).length ++ b (s.cache.lines.filter fun l => decide (l.state = .valid)).length
        ++ b (s.cache.lines.filter Line.isDoomed).length
        ++ b (s.cache.lines.filter fun l => decide (l.state ≠ .valid ∨ 0 < l.pins)).length
        ++ (allSlots.map fun i =>
          b s.cache.slots[i].use.num ++ [s.cache.slots[i].ticket]
            ++ (match s.slotLine i with
              | none => [0xFF, 0xFF, 0xFF, 0xFF, 0xFF, 0]
              | some l => b (2 * l.node + l.lun) ++ le 4 l.index
                ++ b ((List.finRange 8).map fun k : Fin 8 => if l.chunks[k].isSome = true then 2 ^ (k : Nat) else 0).sum)
            ++ left 2 0xFFFF (match s.cache.slots[i].use with
              | .offered start ms => some (start, ms)
              | .sent start ms => some (start, ms)
              | _ => none)).flatten
        ++ (s.cache.slotWait.map (fun w : Waiter => (BitVec.ofNat 8 w.node : Byte)) ++ List.replicate 4 0).take 4
        ++ (allEntries.map fun i =>
          match s.cache.writes[i].use with
          | none => [0, s.cache.writes[i].ticket, 0xFF, 0, 0, 0, 0, 0, 0xFF, 0xFF]
          | some w => b (if w.sent = true then 2 else 1) ++ [s.cache.writes[i].ticket] ++ b (2 * w.node + w.lun)
              ++ le 4 (w.offset / 512) ++ f w.cancelled ++ left 2 0xFFFF (some (w.start, w.timeout))).flatten
        ++ (allNodes.map fun m => ([0, 1] : List Lun).map fun v => le 4 ((s.drive m v).lastRead.getD 0xFFFFFFFF)).flatten.flatten)
end

