-- ==== Sys2Proof/Laws/State.lean ====
section
/-! SUPPORT. One lemma for each field and each update of the state: what an update gives back for every field it does not
change, and what it gives for the one it changes. Later proofs rewrite with these and unfold no update. -/

namespace Sys2Proof.Machine

open Sys2Proof

/-! ## The top-level updates -/

@[simp] theorem updLink_pending (s : State) (f : Link → Link) : (s.updLink f).pending = s.pending := rfl
@[simp] theorem updLink_porst (s : State) (f : Link → Link) : (s.updLink f).porst = s.porst := rfl
@[simp] theorem updLink_timebase (s : State) (f : Link → Link) : (s.updLink f).timebase = s.timebase := rfl
@[simp] theorem updLink_due (s : State) (f : Link → Link) : (s.updLink f).due = s.due := rfl
@[simp] theorem updLink_link (s : State) (f : Link → Link) : (s.updLink f).link = f s.link := rfl
@[simp] theorem updLink_events (s : State) (f : Link → Link) : (s.updLink f).events = s.events := rfl
@[simp] theorem updLink_pool (s : State) (f : Link → Link) : (s.updLink f).pool = s.pool := rfl
@[simp] theorem updLink_lastServed (s : State) (f : Link → Link) : (s.updLink f).lastServed = s.lastServed := rfl
@[simp] theorem updLink_texts (s : State) (f : Link → Link) : (s.updLink f).texts = s.texts := rfl
@[simp] theorem updLink_plans (s : State) (f : Link → Link) : (s.updLink f).plans = s.plans := rfl
@[simp] theorem updLink_arbiter (s : State) (f : Link → Link) : (s.updLink f).arbiter = s.arbiter := rfl
@[simp] theorem updLink_cache (s : State) (f : Link → Link) : (s.updLink f).cache = s.cache := rfl
@[simp] theorem updLink_nodes (s : State) (f : Link → Link) : (s.updLink f).nodes = s.nodes := rfl

@[simp] theorem updPool_pending (s : State) (f : Pool → Pool) : (s.updPool f).pending = s.pending := rfl
@[simp] theorem updPool_porst (s : State) (f : Pool → Pool) : (s.updPool f).porst = s.porst := rfl
@[simp] theorem updPool_timebase (s : State) (f : Pool → Pool) : (s.updPool f).timebase = s.timebase := rfl
@[simp] theorem updPool_due (s : State) (f : Pool → Pool) : (s.updPool f).due = s.due := rfl
@[simp] theorem updPool_link (s : State) (f : Pool → Pool) : (s.updPool f).link = s.link := rfl
@[simp] theorem updPool_events (s : State) (f : Pool → Pool) : (s.updPool f).events = s.events := rfl
@[simp] theorem updPool_pool (s : State) (f : Pool → Pool) : (s.updPool f).pool = f s.pool := rfl
@[simp] theorem updPool_lastServed (s : State) (f : Pool → Pool) : (s.updPool f).lastServed = s.lastServed := rfl
@[simp] theorem updPool_texts (s : State) (f : Pool → Pool) : (s.updPool f).texts = s.texts := rfl
@[simp] theorem updPool_plans (s : State) (f : Pool → Pool) : (s.updPool f).plans = s.plans := rfl
@[simp] theorem updPool_arbiter (s : State) (f : Pool → Pool) : (s.updPool f).arbiter = s.arbiter := rfl
@[simp] theorem updPool_cache (s : State) (f : Pool → Pool) : (s.updPool f).cache = s.cache := rfl
@[simp] theorem updPool_nodes (s : State) (f : Pool → Pool) : (s.updPool f).nodes = s.nodes := rfl

@[simp] theorem updCache_pending (s : State) (f : Cache → Cache) : (s.updCache f).pending = s.pending := rfl
@[simp] theorem updCache_porst (s : State) (f : Cache → Cache) : (s.updCache f).porst = s.porst := rfl
@[simp] theorem updCache_timebase (s : State) (f : Cache → Cache) : (s.updCache f).timebase = s.timebase := rfl
@[simp] theorem updCache_due (s : State) (f : Cache → Cache) : (s.updCache f).due = s.due := rfl
@[simp] theorem updCache_link (s : State) (f : Cache → Cache) : (s.updCache f).link = s.link := rfl
@[simp] theorem updCache_events (s : State) (f : Cache → Cache) : (s.updCache f).events = s.events := rfl
@[simp] theorem updCache_pool (s : State) (f : Cache → Cache) : (s.updCache f).pool = s.pool := rfl
@[simp] theorem updCache_lastServed (s : State) (f : Cache → Cache) : (s.updCache f).lastServed = s.lastServed := rfl
@[simp] theorem updCache_texts (s : State) (f : Cache → Cache) : (s.updCache f).texts = s.texts := rfl
@[simp] theorem updCache_plans (s : State) (f : Cache → Cache) : (s.updCache f).plans = s.plans := rfl
@[simp] theorem updCache_arbiter (s : State) (f : Cache → Cache) : (s.updCache f).arbiter = s.arbiter := rfl
@[simp] theorem updCache_cache (s : State) (f : Cache → Cache) : (s.updCache f).cache = f s.cache := rfl
@[simp] theorem updCache_nodes (s : State) (f : Cache → Cache) : (s.updCache f).nodes = s.nodes := rfl

@[simp] theorem updArbiter_pending (s : State) (f : Arbiter → Arbiter) : (s.updArbiter f).pending = s.pending := rfl
@[simp] theorem updArbiter_porst (s : State) (f : Arbiter → Arbiter) : (s.updArbiter f).porst = s.porst := rfl
@[simp] theorem updArbiter_timebase (s : State) (f : Arbiter → Arbiter) : (s.updArbiter f).timebase = s.timebase := rfl
@[simp] theorem updArbiter_due (s : State) (f : Arbiter → Arbiter) : (s.updArbiter f).due = s.due := rfl
@[simp] theorem updArbiter_link (s : State) (f : Arbiter → Arbiter) : (s.updArbiter f).link = s.link := rfl
@[simp] theorem updArbiter_events (s : State) (f : Arbiter → Arbiter) : (s.updArbiter f).events = s.events := rfl
@[simp] theorem updArbiter_pool (s : State) (f : Arbiter → Arbiter) : (s.updArbiter f).pool = s.pool := rfl
@[simp] theorem updArbiter_lastServed (s : State) (f : Arbiter → Arbiter) : (s.updArbiter f).lastServed = s.lastServed := rfl
@[simp] theorem updArbiter_texts (s : State) (f : Arbiter → Arbiter) : (s.updArbiter f).texts = s.texts := rfl
@[simp] theorem updArbiter_plans (s : State) (f : Arbiter → Arbiter) : (s.updArbiter f).plans = s.plans := rfl
@[simp] theorem updArbiter_arbiter (s : State) (f : Arbiter → Arbiter) : (s.updArbiter f).arbiter = f s.arbiter := rfl
@[simp] theorem updArbiter_cache (s : State) (f : Arbiter → Arbiter) : (s.updArbiter f).cache = s.cache := rfl
@[simp] theorem updArbiter_nodes (s : State) (f : Arbiter → Arbiter) : (s.updArbiter f).nodes = s.nodes := rfl

@[simp] theorem updNode_pending (s : State) (n : Node) (f : NodeState → NodeState) : (s.updNode n f).pending = s.pending := rfl
@[simp] theorem updNode_porst (s : State) (n : Node) (f : NodeState → NodeState) : (s.updNode n f).porst = s.porst := rfl
@[simp] theorem updNode_timebase (s : State) (n : Node) (f : NodeState → NodeState) : (s.updNode n f).timebase = s.timebase := rfl
@[simp] theorem updNode_due (s : State) (n : Node) (f : NodeState → NodeState) : (s.updNode n f).due = s.due := rfl
@[simp] theorem updNode_link (s : State) (n : Node) (f : NodeState → NodeState) : (s.updNode n f).link = s.link := rfl
@[simp] theorem updNode_events (s : State) (n : Node) (f : NodeState → NodeState) : (s.updNode n f).events = s.events := rfl
@[simp] theorem updNode_pool (s : State) (n : Node) (f : NodeState → NodeState) : (s.updNode n f).pool = s.pool := rfl
@[simp] theorem updNode_lastServed (s : State) (n : Node) (f : NodeState → NodeState) : (s.updNode n f).lastServed = s.lastServed := rfl
@[simp] theorem updNode_texts (s : State) (n : Node) (f : NodeState → NodeState) : (s.updNode n f).texts = s.texts := rfl
@[simp] theorem updNode_plans (s : State) (n : Node) (f : NodeState → NodeState) : (s.updNode n f).plans = s.plans := rfl
@[simp] theorem updNode_arbiter (s : State) (n : Node) (f : NodeState → NodeState) : (s.updNode n f).arbiter = s.arbiter := rfl
@[simp] theorem updNode_cache (s : State) (n : Node) (f : NodeState → NodeState) : (s.updNode n f).cache = s.cache := rfl
@[simp] theorem updNode_nodes (s : State) (n : Node) (f : NodeState → NodeState) : (s.updNode n f).nodes = s.nodes.set n (f s.nodes[n]) := rfl

@[simp] theorem enqueue_pending (s : State) (x : Frame) : (s.enqueue x).pending = s.pending := rfl
@[simp] theorem enqueue_porst (s : State) (x : Frame) : (s.enqueue x).porst = s.porst := rfl
@[simp] theorem enqueue_timebase (s : State) (x : Frame) : (s.enqueue x).timebase = s.timebase := rfl
@[simp] theorem enqueue_due (s : State) (x : Frame) : (s.enqueue x).due = s.due := rfl
@[simp] theorem enqueue_link (s : State) (x : Frame) : (s.enqueue x).link = { s.link with queue := s.link.queue ++ [x] } := rfl
@[simp] theorem enqueue_events (s : State) (x : Frame) : (s.enqueue x).events = s.events := rfl
@[simp] theorem enqueue_pool (s : State) (x : Frame) : (s.enqueue x).pool = s.pool := rfl
@[simp] theorem enqueue_lastServed (s : State) (x : Frame) : (s.enqueue x).lastServed = s.lastServed := rfl
@[simp] theorem enqueue_texts (s : State) (x : Frame) : (s.enqueue x).texts = s.texts := rfl
@[simp] theorem enqueue_plans (s : State) (x : Frame) : (s.enqueue x).plans = s.plans := rfl
@[simp] theorem enqueue_arbiter (s : State) (x : Frame) : (s.enqueue x).arbiter = s.arbiter := rfl
@[simp] theorem enqueue_cache (s : State) (x : Frame) : (s.enqueue x).cache = s.cache := rfl
@[simp] theorem enqueue_nodes (s : State) (x : Frame) : (s.enqueue x).nodes = s.nodes := rfl

@[simp] theorem enqueueNotice_pending (s : State) (k : Byte) (p : List Byte) : (s.enqueueNotice k p).pending = s.pending := rfl
@[simp] theorem enqueueNotice_porst (s : State) (k : Byte) (p : List Byte) : (s.enqueueNotice k p).porst = s.porst := rfl
@[simp] theorem enqueueNotice_timebase (s : State) (k : Byte) (p : List Byte) : (s.enqueueNotice k p).timebase = s.timebase := rfl
@[simp] theorem enqueueNotice_due (s : State) (k : Byte) (p : List Byte) : (s.enqueueNotice k p).due = s.due := rfl
@[simp] theorem enqueueNotice_link (s : State) (k : Byte) (p : List Byte) : (s.enqueueNotice k p).link = { s.link with queue := s.link.queue ++ [{ kind := k, tag := s.link.noticeCount, payload := p }], noticeCount := s.link.noticeCount + 1 } := rfl
@[simp] theorem enqueueNotice_events (s : State) (k : Byte) (p : List Byte) : (s.enqueueNotice k p).events = s.events := rfl
@[simp] theorem enqueueNotice_pool (s : State) (k : Byte) (p : List Byte) : (s.enqueueNotice k p).pool = s.pool := rfl
@[simp] theorem enqueueNotice_lastServed (s : State) (k : Byte) (p : List Byte) : (s.enqueueNotice k p).lastServed = s.lastServed := rfl
@[simp] theorem enqueueNotice_texts (s : State) (k : Byte) (p : List Byte) : (s.enqueueNotice k p).texts = s.texts := rfl
@[simp] theorem enqueueNotice_plans (s : State) (k : Byte) (p : List Byte) : (s.enqueueNotice k p).plans = s.plans := rfl
@[simp] theorem enqueueNotice_arbiter (s : State) (k : Byte) (p : List Byte) : (s.enqueueNotice k p).arbiter = s.arbiter := rfl
@[simp] theorem enqueueNotice_cache (s : State) (k : Byte) (p : List Byte) : (s.enqueueNotice k p).cache = s.cache := rfl
@[simp] theorem enqueueNotice_nodes (s : State) (k : Byte) (p : List Byte) : (s.enqueueNotice k p).nodes = s.nodes := rfl

@[simp] theorem clearDue_pending (s : State) (t : Timer) : (s.clearDue t).pending = s.pending := rfl
@[simp] theorem clearDue_porst (s : State) (t : Timer) : (s.clearDue t).porst = s.porst := rfl
@[simp] theorem clearDue_timebase (s : State) (t : Timer) : (s.clearDue t).timebase = s.timebase := rfl
@[simp] theorem clearDue_due (s : State) (t : Timer) : (s.clearDue t).due = s.due.filter (· ≠ t) := rfl
@[simp] theorem clearDue_link (s : State) (t : Timer) : (s.clearDue t).link = s.link := rfl
@[simp] theorem clearDue_events (s : State) (t : Timer) : (s.clearDue t).events = s.events := rfl
@[simp] theorem clearDue_pool (s : State) (t : Timer) : (s.clearDue t).pool = s.pool := rfl
@[simp] theorem clearDue_lastServed (s : State) (t : Timer) : (s.clearDue t).lastServed = s.lastServed := rfl
@[simp] theorem clearDue_texts (s : State) (t : Timer) : (s.clearDue t).texts = s.texts := rfl
@[simp] theorem clearDue_plans (s : State) (t : Timer) : (s.clearDue t).plans = s.plans := rfl
@[simp] theorem clearDue_arbiter (s : State) (t : Timer) : (s.clearDue t).arbiter = s.arbiter := rfl
@[simp] theorem clearDue_cache (s : State) (t : Timer) : (s.clearDue t).cache = s.cache := rfl
@[simp] theorem clearDue_nodes (s : State) (t : Timer) : (s.clearDue t).nodes = s.nodes := rfl

/-! ## Columns -/

/-- A column after an update of a column. -/
theorem updNode_node (s : State) (n m : Node) (f : NodeState → NodeState) :
    (s.updNode n f).node m = if n = m then f (s.node n) else s.node m := by
  simp only [State.node, State.updNode]
  rcases eq_or_ne n m with h | h
  · subst h; simp
  · have : (n : Nat) ≠ m := fun e => h (Fin.ext e)
    simp [h, Vector.getElem_set_ne, this]

@[simp] theorem updNode_node_self (s : State) (n : Node) (f : NodeState → NodeState) :
    (s.updNode n f).node n = f (s.node n) := by simp [updNode_node]

theorem updNode_node_ne (s : State) {n m : Node} (f : NodeState → NodeState) (h : n ≠ m) :
    (s.updNode n f).node m = s.node m := by simp [updNode_node, h]

@[simp] theorem updLink_node (s : State) (f : Link → Link) (m : Node) : (s.updLink f).node m = s.node m := rfl
@[simp] theorem updPool_node (s : State) (f : Pool → Pool) (m : Node) : (s.updPool f).node m = s.node m := rfl
@[simp] theorem updCache_node (s : State) (f : Cache → Cache) (m : Node) : (s.updCache f).node m = s.node m := rfl
@[simp] theorem updArbiter_node (s : State) (f : Arbiter → Arbiter) (m : Node) : (s.updArbiter f).node m = s.node m := rfl
@[simp] theorem enqueue_node (s : State) (x : Frame) (m : Node) : (s.enqueue x).node m = s.node m := rfl
@[simp] theorem enqueueNotice_node (s : State) (k : Byte) (p : List Byte) (m : Node) : (s.enqueueNotice k p).node m = s.node m := rfl
@[simp] theorem clearDue_node (s : State) (t : Timer) (m : Node) : (s.clearDue t).node m = s.node m := rfl

/-! ## Updates of one part of a column -/

@[simp] theorem updRx_pending (s : State) (n : Node) (f : Receiver → Receiver) : (s.updRx n f).pending = s.pending := rfl
@[simp] theorem updRx_porst (s : State) (n : Node) (f : Receiver → Receiver) : (s.updRx n f).porst = s.porst := rfl
@[simp] theorem updRx_timebase (s : State) (n : Node) (f : Receiver → Receiver) : (s.updRx n f).timebase = s.timebase := rfl
@[simp] theorem updRx_due (s : State) (n : Node) (f : Receiver → Receiver) : (s.updRx n f).due = s.due := rfl
@[simp] theorem updRx_link (s : State) (n : Node) (f : Receiver → Receiver) : (s.updRx n f).link = s.link := rfl
@[simp] theorem updRx_events (s : State) (n : Node) (f : Receiver → Receiver) : (s.updRx n f).events = s.events := rfl
@[simp] theorem updRx_pool (s : State) (n : Node) (f : Receiver → Receiver) : (s.updRx n f).pool = s.pool := rfl
@[simp] theorem updRx_lastServed (s : State) (n : Node) (f : Receiver → Receiver) : (s.updRx n f).lastServed = s.lastServed := rfl
@[simp] theorem updRx_texts (s : State) (n : Node) (f : Receiver → Receiver) : (s.updRx n f).texts = s.texts := rfl
@[simp] theorem updRx_plans (s : State) (n : Node) (f : Receiver → Receiver) : (s.updRx n f).plans = s.plans := rfl
@[simp] theorem updRx_arbiter (s : State) (n : Node) (f : Receiver → Receiver) : (s.updRx n f).arbiter = s.arbiter := rfl
@[simp] theorem updRx_cache (s : State) (n : Node) (f : Receiver → Receiver) : (s.updRx n f).cache = s.cache := rfl
theorem updRx_node (s : State) (n m : Node) (f : Receiver → Receiver) :
    (s.updRx n f).node m = if n = m then { s.node n with rx := f (s.node n).rx } else s.node m := updNode_node ..
@[simp] theorem updRx_node_self (s : State) (n : Node) (f : Receiver → Receiver) :
    (s.updRx n f).node n = { s.node n with rx := f (s.node n).rx } := updNode_node_self ..
theorem updRx_node_ne (s : State) {n m : Node} (f : Receiver → Receiver) (h : n ≠ m) : (s.updRx n f).node m = s.node m := updNode_node_ne s _ h
@[simp] theorem updRx_hist (s : State) (n m : Node) (f : Receiver → Receiver) : ((s.updRx n f).node m).hist = (s.node m).hist := by
  rw [updRx_node]; split <;> simp_all
@[simp] theorem updRx_tx (s : State) (n m : Node) (f : Receiver → Receiver) : ((s.updRx n f).node m).tx = (s.node m).tx := by
  rw [updRx_node]; split <;> simp_all
@[simp] theorem updRx_patterns (s : State) (n m : Node) (f : Receiver → Receiver) : ((s.updRx n f).node m).patterns = (s.node m).patterns := by
  rw [updRx_node]; split <;> simp_all
@[simp] theorem updRx_window (s : State) (n m : Node) (f : Receiver → Receiver) : ((s.updRx n f).node m).window = (s.node m).window := by
  rw [updRx_node]; split <;> simp_all
@[simp] theorem updRx_lines (s : State) (n m : Node) (f : Receiver → Receiver) : ((s.updRx n f).node m).lines = (s.node m).lines := by
  rw [updRx_node]; split <;> simp_all
@[simp] theorem updRx_exec (s : State) (n m : Node) (f : Receiver → Receiver) : ((s.updRx n f).node m).exec = (s.node m).exec := by
  rw [updRx_node]; split <;> simp_all
@[simp] theorem updRx_port (s : State) (n m : Node) (f : Receiver → Receiver) : ((s.updRx n f).node m).port = (s.node m).port := by
  rw [updRx_node]; split <;> simp_all
@[simp] theorem updRx_ctx (s : State) (n m : Node) (f : Receiver → Receiver) : ((s.updRx n f).node m).ctx = (s.node m).ctx := by
  rw [updRx_node]; split <;> simp_all
@[simp] theorem updRx_drives (s : State) (n m : Node) (f : Receiver → Receiver) : ((s.updRx n f).node m).drives = (s.node m).drives := by
  rw [updRx_node]; split <;> simp_all

@[simp] theorem updHist_pending (s : State) (n : Node) (f : History → History) : (s.updHist n f).pending = s.pending := rfl
@[simp] theorem updHist_porst (s : State) (n : Node) (f : History → History) : (s.updHist n f).porst = s.porst := rfl
@[simp] theorem updHist_timebase (s : State) (n : Node) (f : History → History) : (s.updHist n f).timebase = s.timebase := rfl
@[simp] theorem updHist_due (s : State) (n : Node) (f : History → History) : (s.updHist n f).due = s.due := rfl
@[simp] theorem updHist_link (s : State) (n : Node) (f : History → History) : (s.updHist n f).link = s.link := rfl
@[simp] theorem updHist_events (s : State) (n : Node) (f : History → History) : (s.updHist n f).events = s.events := rfl
@[simp] theorem updHist_pool (s : State) (n : Node) (f : History → History) : (s.updHist n f).pool = s.pool := rfl
@[simp] theorem updHist_lastServed (s : State) (n : Node) (f : History → History) : (s.updHist n f).lastServed = s.lastServed := rfl
@[simp] theorem updHist_texts (s : State) (n : Node) (f : History → History) : (s.updHist n f).texts = s.texts := rfl
@[simp] theorem updHist_plans (s : State) (n : Node) (f : History → History) : (s.updHist n f).plans = s.plans := rfl
@[simp] theorem updHist_arbiter (s : State) (n : Node) (f : History → History) : (s.updHist n f).arbiter = s.arbiter := rfl
@[simp] theorem updHist_cache (s : State) (n : Node) (f : History → History) : (s.updHist n f).cache = s.cache := rfl
theorem updHist_node (s : State) (n m : Node) (f : History → History) :
    (s.updHist n f).node m = if n = m then { s.node n with hist := f (s.node n).hist } else s.node m := updNode_node ..
@[simp] theorem updHist_node_self (s : State) (n : Node) (f : History → History) :
    (s.updHist n f).node n = { s.node n with hist := f (s.node n).hist } := updNode_node_self ..
theorem updHist_node_ne (s : State) {n m : Node} (f : History → History) (h : n ≠ m) : (s.updHist n f).node m = s.node m := updNode_node_ne s _ h
@[simp] theorem updHist_rx (s : State) (n m : Node) (f : History → History) : ((s.updHist n f).node m).rx = (s.node m).rx := by
  rw [updHist_node]; split <;> simp_all
@[simp] theorem updHist_tx (s : State) (n m : Node) (f : History → History) : ((s.updHist n f).node m).tx = (s.node m).tx := by
  rw [updHist_node]; split <;> simp_all
@[simp] theorem updHist_patterns (s : State) (n m : Node) (f : History → History) : ((s.updHist n f).node m).patterns = (s.node m).patterns := by
  rw [updHist_node]; split <;> simp_all
@[simp] theorem updHist_window (s : State) (n m : Node) (f : History → History) : ((s.updHist n f).node m).window = (s.node m).window := by
  rw [updHist_node]; split <;> simp_all
@[simp] theorem updHist_lines (s : State) (n m : Node) (f : History → History) : ((s.updHist n f).node m).lines = (s.node m).lines := by
  rw [updHist_node]; split <;> simp_all
@[simp] theorem updHist_exec (s : State) (n m : Node) (f : History → History) : ((s.updHist n f).node m).exec = (s.node m).exec := by
  rw [updHist_node]; split <;> simp_all
@[simp] theorem updHist_port (s : State) (n m : Node) (f : History → History) : ((s.updHist n f).node m).port = (s.node m).port := by
  rw [updHist_node]; split <;> simp_all
@[simp] theorem updHist_ctx (s : State) (n m : Node) (f : History → History) : ((s.updHist n f).node m).ctx = (s.node m).ctx := by
  rw [updHist_node]; split <;> simp_all
@[simp] theorem updHist_drives (s : State) (n m : Node) (f : History → History) : ((s.updHist n f).node m).drives = (s.node m).drives := by
  rw [updHist_node]; split <;> simp_all

@[simp] theorem updTx_pending (s : State) (n : Node) (f : Transmitter → Transmitter) : (s.updTx n f).pending = s.pending := rfl
@[simp] theorem updTx_porst (s : State) (n : Node) (f : Transmitter → Transmitter) : (s.updTx n f).porst = s.porst := rfl
@[simp] theorem updTx_timebase (s : State) (n : Node) (f : Transmitter → Transmitter) : (s.updTx n f).timebase = s.timebase := rfl
@[simp] theorem updTx_due (s : State) (n : Node) (f : Transmitter → Transmitter) : (s.updTx n f).due = s.due := rfl
@[simp] theorem updTx_link (s : State) (n : Node) (f : Transmitter → Transmitter) : (s.updTx n f).link = s.link := rfl
@[simp] theorem updTx_events (s : State) (n : Node) (f : Transmitter → Transmitter) : (s.updTx n f).events = s.events := rfl
@[simp] theorem updTx_pool (s : State) (n : Node) (f : Transmitter → Transmitter) : (s.updTx n f).pool = s.pool := rfl
@[simp] theorem updTx_lastServed (s : State) (n : Node) (f : Transmitter → Transmitter) : (s.updTx n f).lastServed = s.lastServed := rfl
@[simp] theorem updTx_texts (s : State) (n : Node) (f : Transmitter → Transmitter) : (s.updTx n f).texts = s.texts := rfl
@[simp] theorem updTx_plans (s : State) (n : Node) (f : Transmitter → Transmitter) : (s.updTx n f).plans = s.plans := rfl
@[simp] theorem updTx_arbiter (s : State) (n : Node) (f : Transmitter → Transmitter) : (s.updTx n f).arbiter = s.arbiter := rfl
@[simp] theorem updTx_cache (s : State) (n : Node) (f : Transmitter → Transmitter) : (s.updTx n f).cache = s.cache := rfl
theorem updTx_node (s : State) (n m : Node) (f : Transmitter → Transmitter) :
    (s.updTx n f).node m = if n = m then { s.node n with tx := f (s.node n).tx } else s.node m := updNode_node ..
@[simp] theorem updTx_node_self (s : State) (n : Node) (f : Transmitter → Transmitter) :
    (s.updTx n f).node n = { s.node n with tx := f (s.node n).tx } := updNode_node_self ..
theorem updTx_node_ne (s : State) {n m : Node} (f : Transmitter → Transmitter) (h : n ≠ m) : (s.updTx n f).node m = s.node m := updNode_node_ne s _ h
@[simp] theorem updTx_rx (s : State) (n m : Node) (f : Transmitter → Transmitter) : ((s.updTx n f).node m).rx = (s.node m).rx := by
  rw [updTx_node]; split <;> simp_all
@[simp] theorem updTx_hist (s : State) (n m : Node) (f : Transmitter → Transmitter) : ((s.updTx n f).node m).hist = (s.node m).hist := by
  rw [updTx_node]; split <;> simp_all
@[simp] theorem updTx_patterns (s : State) (n m : Node) (f : Transmitter → Transmitter) : ((s.updTx n f).node m).patterns = (s.node m).patterns := by
  rw [updTx_node]; split <;> simp_all
@[simp] theorem updTx_window (s : State) (n m : Node) (f : Transmitter → Transmitter) : ((s.updTx n f).node m).window = (s.node m).window := by
  rw [updTx_node]; split <;> simp_all
@[simp] theorem updTx_lines (s : State) (n m : Node) (f : Transmitter → Transmitter) : ((s.updTx n f).node m).lines = (s.node m).lines := by
  rw [updTx_node]; split <;> simp_all
@[simp] theorem updTx_exec (s : State) (n m : Node) (f : Transmitter → Transmitter) : ((s.updTx n f).node m).exec = (s.node m).exec := by
  rw [updTx_node]; split <;> simp_all
@[simp] theorem updTx_port (s : State) (n m : Node) (f : Transmitter → Transmitter) : ((s.updTx n f).node m).port = (s.node m).port := by
  rw [updTx_node]; split <;> simp_all
@[simp] theorem updTx_ctx (s : State) (n m : Node) (f : Transmitter → Transmitter) : ((s.updTx n f).node m).ctx = (s.node m).ctx := by
  rw [updTx_node]; split <;> simp_all
@[simp] theorem updTx_drives (s : State) (n m : Node) (f : Transmitter → Transmitter) : ((s.updTx n f).node m).drives = (s.node m).drives := by
  rw [updTx_node]; split <;> simp_all

@[simp] theorem updLines_pending (s : State) (n : Node) (f : LineUnit → LineUnit) : (s.updLines n f).pending = s.pending := rfl
@[simp] theorem updLines_porst (s : State) (n : Node) (f : LineUnit → LineUnit) : (s.updLines n f).porst = s.porst := rfl
@[simp] theorem updLines_timebase (s : State) (n : Node) (f : LineUnit → LineUnit) : (s.updLines n f).timebase = s.timebase := rfl
@[simp] theorem updLines_due (s : State) (n : Node) (f : LineUnit → LineUnit) : (s.updLines n f).due = s.due := rfl
@[simp] theorem updLines_link (s : State) (n : Node) (f : LineUnit → LineUnit) : (s.updLines n f).link = s.link := rfl
@[simp] theorem updLines_events (s : State) (n : Node) (f : LineUnit → LineUnit) : (s.updLines n f).events = s.events := rfl
@[simp] theorem updLines_pool (s : State) (n : Node) (f : LineUnit → LineUnit) : (s.updLines n f).pool = s.pool := rfl
@[simp] theorem updLines_lastServed (s : State) (n : Node) (f : LineUnit → LineUnit) : (s.updLines n f).lastServed = s.lastServed := rfl
@[simp] theorem updLines_texts (s : State) (n : Node) (f : LineUnit → LineUnit) : (s.updLines n f).texts = s.texts := rfl
@[simp] theorem updLines_plans (s : State) (n : Node) (f : LineUnit → LineUnit) : (s.updLines n f).plans = s.plans := rfl
@[simp] theorem updLines_arbiter (s : State) (n : Node) (f : LineUnit → LineUnit) : (s.updLines n f).arbiter = s.arbiter := rfl
@[simp] theorem updLines_cache (s : State) (n : Node) (f : LineUnit → LineUnit) : (s.updLines n f).cache = s.cache := rfl
theorem updLines_node (s : State) (n m : Node) (f : LineUnit → LineUnit) :
    (s.updLines n f).node m = if n = m then { s.node n with lines := f (s.node n).lines } else s.node m := updNode_node ..
@[simp] theorem updLines_node_self (s : State) (n : Node) (f : LineUnit → LineUnit) :
    (s.updLines n f).node n = { s.node n with lines := f (s.node n).lines } := updNode_node_self ..
theorem updLines_node_ne (s : State) {n m : Node} (f : LineUnit → LineUnit) (h : n ≠ m) : (s.updLines n f).node m = s.node m := updNode_node_ne s _ h
@[simp] theorem updLines_rx (s : State) (n m : Node) (f : LineUnit → LineUnit) : ((s.updLines n f).node m).rx = (s.node m).rx := by
  rw [updLines_node]; split <;> simp_all
@[simp] theorem updLines_hist (s : State) (n m : Node) (f : LineUnit → LineUnit) : ((s.updLines n f).node m).hist = (s.node m).hist := by
  rw [updLines_node]; split <;> simp_all
@[simp] theorem updLines_tx (s : State) (n m : Node) (f : LineUnit → LineUnit) : ((s.updLines n f).node m).tx = (s.node m).tx := by
  rw [updLines_node]; split <;> simp_all
@[simp] theorem updLines_patterns (s : State) (n m : Node) (f : LineUnit → LineUnit) : ((s.updLines n f).node m).patterns = (s.node m).patterns := by
  rw [updLines_node]; split <;> simp_all
@[simp] theorem updLines_window (s : State) (n m : Node) (f : LineUnit → LineUnit) : ((s.updLines n f).node m).window = (s.node m).window := by
  rw [updLines_node]; split <;> simp_all
@[simp] theorem updLines_exec (s : State) (n m : Node) (f : LineUnit → LineUnit) : ((s.updLines n f).node m).exec = (s.node m).exec := by
  rw [updLines_node]; split <;> simp_all
@[simp] theorem updLines_port (s : State) (n m : Node) (f : LineUnit → LineUnit) : ((s.updLines n f).node m).port = (s.node m).port := by
  rw [updLines_node]; split <;> simp_all
@[simp] theorem updLines_ctx (s : State) (n m : Node) (f : LineUnit → LineUnit) : ((s.updLines n f).node m).ctx = (s.node m).ctx := by
  rw [updLines_node]; split <;> simp_all
@[simp] theorem updLines_drives (s : State) (n m : Node) (f : LineUnit → LineUnit) : ((s.updLines n f).node m).drives = (s.node m).drives := by
  rw [updLines_node]; split <;> simp_all

@[simp] theorem updExec_pending (s : State) (n : Node) (f : Executor → Executor) : (s.updExec n f).pending = s.pending := rfl
@[simp] theorem updExec_porst (s : State) (n : Node) (f : Executor → Executor) : (s.updExec n f).porst = s.porst := rfl
@[simp] theorem updExec_timebase (s : State) (n : Node) (f : Executor → Executor) : (s.updExec n f).timebase = s.timebase := rfl
@[simp] theorem updExec_due (s : State) (n : Node) (f : Executor → Executor) : (s.updExec n f).due = s.due := rfl
@[simp] theorem updExec_link (s : State) (n : Node) (f : Executor → Executor) : (s.updExec n f).link = s.link := rfl
@[simp] theorem updExec_events (s : State) (n : Node) (f : Executor → Executor) : (s.updExec n f).events = s.events := rfl
@[simp] theorem updExec_pool (s : State) (n : Node) (f : Executor → Executor) : (s.updExec n f).pool = s.pool := rfl
@[simp] theorem updExec_lastServed (s : State) (n : Node) (f : Executor → Executor) : (s.updExec n f).lastServed = s.lastServed := rfl
@[simp] theorem updExec_texts (s : State) (n : Node) (f : Executor → Executor) : (s.updExec n f).texts = s.texts := rfl
@[simp] theorem updExec_plans (s : State) (n : Node) (f : Executor → Executor) : (s.updExec n f).plans = s.plans := rfl
@[simp] theorem updExec_arbiter (s : State) (n : Node) (f : Executor → Executor) : (s.updExec n f).arbiter = s.arbiter := rfl
@[simp] theorem updExec_cache (s : State) (n : Node) (f : Executor → Executor) : (s.updExec n f).cache = s.cache := rfl
theorem updExec_node (s : State) (n m : Node) (f : Executor → Executor) :
    (s.updExec n f).node m = if n = m then { s.node n with exec := f (s.node n).exec } else s.node m := updNode_node ..
@[simp] theorem updExec_node_self (s : State) (n : Node) (f : Executor → Executor) :
    (s.updExec n f).node n = { s.node n with exec := f (s.node n).exec } := updNode_node_self ..
theorem updExec_node_ne (s : State) {n m : Node} (f : Executor → Executor) (h : n ≠ m) : (s.updExec n f).node m = s.node m := updNode_node_ne s _ h
@[simp] theorem updExec_rx (s : State) (n m : Node) (f : Executor → Executor) : ((s.updExec n f).node m).rx = (s.node m).rx := by
  rw [updExec_node]; split <;> simp_all
@[simp] theorem updExec_hist (s : State) (n m : Node) (f : Executor → Executor) : ((s.updExec n f).node m).hist = (s.node m).hist := by
  rw [updExec_node]; split <;> simp_all
@[simp] theorem updExec_tx (s : State) (n m : Node) (f : Executor → Executor) : ((s.updExec n f).node m).tx = (s.node m).tx := by
  rw [updExec_node]; split <;> simp_all
@[simp] theorem updExec_patterns (s : State) (n m : Node) (f : Executor → Executor) : ((s.updExec n f).node m).patterns = (s.node m).patterns := by
  rw [updExec_node]; split <;> simp_all
@[simp] theorem updExec_window (s : State) (n m : Node) (f : Executor → Executor) : ((s.updExec n f).node m).window = (s.node m).window := by
  rw [updExec_node]; split <;> simp_all
@[simp] theorem updExec_lines (s : State) (n m : Node) (f : Executor → Executor) : ((s.updExec n f).node m).lines = (s.node m).lines := by
  rw [updExec_node]; split <;> simp_all
@[simp] theorem updExec_port (s : State) (n m : Node) (f : Executor → Executor) : ((s.updExec n f).node m).port = (s.node m).port := by
  rw [updExec_node]; split <;> simp_all
@[simp] theorem updExec_ctx (s : State) (n m : Node) (f : Executor → Executor) : ((s.updExec n f).node m).ctx = (s.node m).ctx := by
  rw [updExec_node]; split <;> simp_all
@[simp] theorem updExec_drives (s : State) (n m : Node) (f : Executor → Executor) : ((s.updExec n f).node m).drives = (s.node m).drives := by
  rw [updExec_node]; split <;> simp_all

@[simp] theorem updPort_pending (s : State) (n : Node) (f : Port → Port) : (s.updPort n f).pending = s.pending := rfl
@[simp] theorem updPort_porst (s : State) (n : Node) (f : Port → Port) : (s.updPort n f).porst = s.porst := rfl
@[simp] theorem updPort_timebase (s : State) (n : Node) (f : Port → Port) : (s.updPort n f).timebase = s.timebase := rfl
@[simp] theorem updPort_due (s : State) (n : Node) (f : Port → Port) : (s.updPort n f).due = s.due := rfl
@[simp] theorem updPort_link (s : State) (n : Node) (f : Port → Port) : (s.updPort n f).link = s.link := rfl
@[simp] theorem updPort_events (s : State) (n : Node) (f : Port → Port) : (s.updPort n f).events = s.events := rfl
@[simp] theorem updPort_pool (s : State) (n : Node) (f : Port → Port) : (s.updPort n f).pool = s.pool := rfl
@[simp] theorem updPort_lastServed (s : State) (n : Node) (f : Port → Port) : (s.updPort n f).lastServed = s.lastServed := rfl
@[simp] theorem updPort_texts (s : State) (n : Node) (f : Port → Port) : (s.updPort n f).texts = s.texts := rfl
@[simp] theorem updPort_plans (s : State) (n : Node) (f : Port → Port) : (s.updPort n f).plans = s.plans := rfl
@[simp] theorem updPort_arbiter (s : State) (n : Node) (f : Port → Port) : (s.updPort n f).arbiter = s.arbiter := rfl
@[simp] theorem updPort_cache (s : State) (n : Node) (f : Port → Port) : (s.updPort n f).cache = s.cache := rfl
theorem updPort_node (s : State) (n m : Node) (f : Port → Port) :
    (s.updPort n f).node m = if n = m then { s.node n with port := f (s.node n).port } else s.node m := updNode_node ..
@[simp] theorem updPort_node_self (s : State) (n : Node) (f : Port → Port) :
    (s.updPort n f).node n = { s.node n with port := f (s.node n).port } := updNode_node_self ..
theorem updPort_node_ne (s : State) {n m : Node} (f : Port → Port) (h : n ≠ m) : (s.updPort n f).node m = s.node m := updNode_node_ne s _ h
@[simp] theorem updPort_rx (s : State) (n m : Node) (f : Port → Port) : ((s.updPort n f).node m).rx = (s.node m).rx := by
  rw [updPort_node]; split <;> simp_all
@[simp] theorem updPort_hist (s : State) (n m : Node) (f : Port → Port) : ((s.updPort n f).node m).hist = (s.node m).hist := by
  rw [updPort_node]; split <;> simp_all
@[simp] theorem updPort_tx (s : State) (n m : Node) (f : Port → Port) : ((s.updPort n f).node m).tx = (s.node m).tx := by
  rw [updPort_node]; split <;> simp_all
@[simp] theorem updPort_patterns (s : State) (n m : Node) (f : Port → Port) : ((s.updPort n f).node m).patterns = (s.node m).patterns := by
  rw [updPort_node]; split <;> simp_all
@[simp] theorem updPort_window (s : State) (n m : Node) (f : Port → Port) : ((s.updPort n f).node m).window = (s.node m).window := by
  rw [updPort_node]; split <;> simp_all
@[simp] theorem updPort_lines (s : State) (n m : Node) (f : Port → Port) : ((s.updPort n f).node m).lines = (s.node m).lines := by
  rw [updPort_node]; split <;> simp_all
@[simp] theorem updPort_exec (s : State) (n m : Node) (f : Port → Port) : ((s.updPort n f).node m).exec = (s.node m).exec := by
  rw [updPort_node]; split <;> simp_all
@[simp] theorem updPort_ctx (s : State) (n m : Node) (f : Port → Port) : ((s.updPort n f).node m).ctx = (s.node m).ctx := by
  rw [updPort_node]; split <;> simp_all
@[simp] theorem updPort_drives (s : State) (n m : Node) (f : Port → Port) : ((s.updPort n f).node m).drives = (s.node m).drives := by
  rw [updPort_node]; split <;> simp_all

@[simp] theorem updCtx_pending (s : State) (n : Node) (f : Context → Context) : (s.updCtx n f).pending = s.pending := rfl
@[simp] theorem updCtx_porst (s : State) (n : Node) (f : Context → Context) : (s.updCtx n f).porst = s.porst := rfl
@[simp] theorem updCtx_timebase (s : State) (n : Node) (f : Context → Context) : (s.updCtx n f).timebase = s.timebase := rfl
@[simp] theorem updCtx_due (s : State) (n : Node) (f : Context → Context) : (s.updCtx n f).due = s.due := rfl
@[simp] theorem updCtx_link (s : State) (n : Node) (f : Context → Context) : (s.updCtx n f).link = s.link := rfl
@[simp] theorem updCtx_events (s : State) (n : Node) (f : Context → Context) : (s.updCtx n f).events = s.events := rfl
@[simp] theorem updCtx_pool (s : State) (n : Node) (f : Context → Context) : (s.updCtx n f).pool = s.pool := rfl
@[simp] theorem updCtx_lastServed (s : State) (n : Node) (f : Context → Context) : (s.updCtx n f).lastServed = s.lastServed := rfl
@[simp] theorem updCtx_texts (s : State) (n : Node) (f : Context → Context) : (s.updCtx n f).texts = s.texts := rfl
@[simp] theorem updCtx_plans (s : State) (n : Node) (f : Context → Context) : (s.updCtx n f).plans = s.plans := rfl
@[simp] theorem updCtx_arbiter (s : State) (n : Node) (f : Context → Context) : (s.updCtx n f).arbiter = s.arbiter := rfl
@[simp] theorem updCtx_cache (s : State) (n : Node) (f : Context → Context) : (s.updCtx n f).cache = s.cache := rfl
theorem updCtx_node (s : State) (n m : Node) (f : Context → Context) :
    (s.updCtx n f).node m = if n = m then { s.node n with ctx := f (s.node n).ctx } else s.node m := updNode_node ..
@[simp] theorem updCtx_node_self (s : State) (n : Node) (f : Context → Context) :
    (s.updCtx n f).node n = { s.node n with ctx := f (s.node n).ctx } := updNode_node_self ..
theorem updCtx_node_ne (s : State) {n m : Node} (f : Context → Context) (h : n ≠ m) : (s.updCtx n f).node m = s.node m := updNode_node_ne s _ h
@[simp] theorem updCtx_rx (s : State) (n m : Node) (f : Context → Context) : ((s.updCtx n f).node m).rx = (s.node m).rx := by
  rw [updCtx_node]; split <;> simp_all
@[simp] theorem updCtx_hist (s : State) (n m : Node) (f : Context → Context) : ((s.updCtx n f).node m).hist = (s.node m).hist := by
  rw [updCtx_node]; split <;> simp_all
@[simp] theorem updCtx_tx (s : State) (n m : Node) (f : Context → Context) : ((s.updCtx n f).node m).tx = (s.node m).tx := by
  rw [updCtx_node]; split <;> simp_all
@[simp] theorem updCtx_patterns (s : State) (n m : Node) (f : Context → Context) : ((s.updCtx n f).node m).patterns = (s.node m).patterns := by
  rw [updCtx_node]; split <;> simp_all
@[simp] theorem updCtx_window (s : State) (n m : Node) (f : Context → Context) : ((s.updCtx n f).node m).window = (s.node m).window := by
  rw [updCtx_node]; split <;> simp_all
@[simp] theorem updCtx_lines (s : State) (n m : Node) (f : Context → Context) : ((s.updCtx n f).node m).lines = (s.node m).lines := by
  rw [updCtx_node]; split <;> simp_all
@[simp] theorem updCtx_exec (s : State) (n m : Node) (f : Context → Context) : ((s.updCtx n f).node m).exec = (s.node m).exec := by
  rw [updCtx_node]; split <;> simp_all
@[simp] theorem updCtx_port (s : State) (n m : Node) (f : Context → Context) : ((s.updCtx n f).node m).port = (s.node m).port := by
  rw [updCtx_node]; split <;> simp_all
@[simp] theorem updCtx_drives (s : State) (n m : Node) (f : Context → Context) : ((s.updCtx n f).node m).drives = (s.node m).drives := by
  rw [updCtx_node]; split <;> simp_all

/-! ## Updates inside a part -/

@[simp] theorem updDrive_pending (s : State) (n : Node) (u : Lun) (f : Drive → Drive) : (s.updDrive n u f).pending = s.pending := rfl
@[simp] theorem updDrive_porst (s : State) (n : Node) (u : Lun) (f : Drive → Drive) : (s.updDrive n u f).porst = s.porst := rfl
@[simp] theorem updDrive_timebase (s : State) (n : Node) (u : Lun) (f : Drive → Drive) : (s.updDrive n u f).timebase = s.timebase := rfl
@[simp] theorem updDrive_due (s : State) (n : Node) (u : Lun) (f : Drive → Drive) : (s.updDrive n u f).due = s.due := rfl
@[simp] theorem updDrive_link (s : State) (n : Node) (u : Lun) (f : Drive → Drive) : (s.updDrive n u f).link = s.link := rfl
@[simp] theorem updDrive_events (s : State) (n : Node) (u : Lun) (f : Drive → Drive) : (s.updDrive n u f).events = s.events := rfl
@[simp] theorem updDrive_pool (s : State) (n : Node) (u : Lun) (f : Drive → Drive) : (s.updDrive n u f).pool = s.pool := rfl
@[simp] theorem updDrive_lastServed (s : State) (n : Node) (u : Lun) (f : Drive → Drive) : (s.updDrive n u f).lastServed = s.lastServed := rfl
@[simp] theorem updDrive_texts (s : State) (n : Node) (u : Lun) (f : Drive → Drive) : (s.updDrive n u f).texts = s.texts := rfl
@[simp] theorem updDrive_plans (s : State) (n : Node) (u : Lun) (f : Drive → Drive) : (s.updDrive n u f).plans = s.plans := rfl
@[simp] theorem updDrive_arbiter (s : State) (n : Node) (u : Lun) (f : Drive → Drive) : (s.updDrive n u f).arbiter = s.arbiter := rfl
@[simp] theorem updDrive_cache (s : State) (n : Node) (u : Lun) (f : Drive → Drive) : (s.updDrive n u f).cache = s.cache := rfl
theorem updDrive_node_ne (s : State) (n : Node) (u : Lun) (f : Drive → Drive) (m : Node) (h : n ≠ m) : (s.updDrive n u f).node m = s.node m := updNode_node_ne s _ h
@[simp] theorem updDrive_rx (s : State) (n : Node) (u : Lun) (f : Drive → Drive) (m : Node) : ((s.updDrive n u f).node m).rx = (s.node m).rx := by
  rw [State.updDrive, updNode_node]; split <;> simp_all
@[simp] theorem updDrive_hist (s : State) (n : Node) (u : Lun) (f : Drive → Drive) (m : Node) : ((s.updDrive n u f).node m).hist = (s.node m).hist := by
  rw [State.updDrive, updNode_node]; split <;> simp_all
@[simp] theorem updDrive_tx (s : State) (n : Node) (u : Lun) (f : Drive → Drive) (m : Node) : ((s.updDrive n u f).node m).tx = (s.node m).tx := by
  rw [State.updDrive, updNode_node]; split <;> simp_all
@[simp] theorem updDrive_patterns (s : State) (n : Node) (u : Lun) (f : Drive → Drive) (m : Node) : ((s.updDrive n u f).node m).patterns = (s.node m).patterns := by
  rw [State.updDrive, updNode_node]; split <;> simp_all
@[simp] theorem updDrive_window (s : State) (n : Node) (u : Lun) (f : Drive → Drive) (m : Node) : ((s.updDrive n u f).node m).window = (s.node m).window := by
  rw [State.updDrive, updNode_node]; split <;> simp_all
@[simp] theorem updDrive_lines (s : State) (n : Node) (u : Lun) (f : Drive → Drive) (m : Node) : ((s.updDrive n u f).node m).lines = (s.node m).lines := by
  rw [State.updDrive, updNode_node]; split <;> simp_all
@[simp] theorem updDrive_exec (s : State) (n : Node) (u : Lun) (f : Drive → Drive) (m : Node) : ((s.updDrive n u f).node m).exec = (s.node m).exec := by
  rw [State.updDrive, updNode_node]; split <;> simp_all
@[simp] theorem updDrive_port (s : State) (n : Node) (u : Lun) (f : Drive → Drive) (m : Node) : ((s.updDrive n u f).node m).port = (s.node m).port := by
  rw [State.updDrive, updNode_node]; split <;> simp_all
@[simp] theorem updDrive_ctx (s : State) (n : Node) (u : Lun) (f : Drive → Drive) (m : Node) : ((s.updDrive n u f).node m).ctx = (s.node m).ctx := by
  rw [State.updDrive, updNode_node]; split <;> simp_all

@[simp] theorem updOutput_pending (s : State) (n : Node) (o : Output) (f : OutLine → OutLine) : (s.updOutput n o f).pending = s.pending := rfl
@[simp] theorem updOutput_porst (s : State) (n : Node) (o : Output) (f : OutLine → OutLine) : (s.updOutput n o f).porst = s.porst := rfl
@[simp] theorem updOutput_timebase (s : State) (n : Node) (o : Output) (f : OutLine → OutLine) : (s.updOutput n o f).timebase = s.timebase := rfl
@[simp] theorem updOutput_due (s : State) (n : Node) (o : Output) (f : OutLine → OutLine) : (s.updOutput n o f).due = s.due := rfl
@[simp] theorem updOutput_link (s : State) (n : Node) (o : Output) (f : OutLine → OutLine) : (s.updOutput n o f).link = s.link := rfl
@[simp] theorem updOutput_events (s : State) (n : Node) (o : Output) (f : OutLine → OutLine) : (s.updOutput n o f).events = s.events := rfl
@[simp] theorem updOutput_pool (s : State) (n : Node) (o : Output) (f : OutLine → OutLine) : (s.updOutput n o f).pool = s.pool := rfl
@[simp] theorem updOutput_lastServed (s : State) (n : Node) (o : Output) (f : OutLine → OutLine) : (s.updOutput n o f).lastServed = s.lastServed := rfl
@[simp] theorem updOutput_texts (s : State) (n : Node) (o : Output) (f : OutLine → OutLine) : (s.updOutput n o f).texts = s.texts := rfl
@[simp] theorem updOutput_plans (s : State) (n : Node) (o : Output) (f : OutLine → OutLine) : (s.updOutput n o f).plans = s.plans := rfl
@[simp] theorem updOutput_arbiter (s : State) (n : Node) (o : Output) (f : OutLine → OutLine) : (s.updOutput n o f).arbiter = s.arbiter := rfl
@[simp] theorem updOutput_cache (s : State) (n : Node) (o : Output) (f : OutLine → OutLine) : (s.updOutput n o f).cache = s.cache := rfl
theorem updOutput_node_ne (s : State) (n : Node) (o : Output) (f : OutLine → OutLine) (m : Node) (h : n ≠ m) : (s.updOutput n o f).node m = s.node m := updNode_node_ne s _ h
@[simp] theorem updOutput_rx (s : State) (n : Node) (o : Output) (f : OutLine → OutLine) (m : Node) : ((s.updOutput n o f).node m).rx = (s.node m).rx := by
  rw [State.updOutput, State.updLines, updNode_node]; split <;> simp_all
@[simp] theorem updOutput_hist (s : State) (n : Node) (o : Output) (f : OutLine → OutLine) (m : Node) : ((s.updOutput n o f).node m).hist = (s.node m).hist := by
  rw [State.updOutput, State.updLines, updNode_node]; split <;> simp_all
@[simp] theorem updOutput_tx (s : State) (n : Node) (o : Output) (f : OutLine → OutLine) (m : Node) : ((s.updOutput n o f).node m).tx = (s.node m).tx := by
  rw [State.updOutput, State.updLines, updNode_node]; split <;> simp_all
@[simp] theorem updOutput_patterns (s : State) (n : Node) (o : Output) (f : OutLine → OutLine) (m : Node) : ((s.updOutput n o f).node m).patterns = (s.node m).patterns := by
  rw [State.updOutput, State.updLines, updNode_node]; split <;> simp_all
@[simp] theorem updOutput_window (s : State) (n : Node) (o : Output) (f : OutLine → OutLine) (m : Node) : ((s.updOutput n o f).node m).window = (s.node m).window := by
  rw [State.updOutput, State.updLines, updNode_node]; split <;> simp_all
@[simp] theorem updOutput_exec (s : State) (n : Node) (o : Output) (f : OutLine → OutLine) (m : Node) : ((s.updOutput n o f).node m).exec = (s.node m).exec := by
  rw [State.updOutput, State.updLines, updNode_node]; split <;> simp_all
@[simp] theorem updOutput_port (s : State) (n : Node) (o : Output) (f : OutLine → OutLine) (m : Node) : ((s.updOutput n o f).node m).port = (s.node m).port := by
  rw [State.updOutput, State.updLines, updNode_node]; split <;> simp_all
@[simp] theorem updOutput_ctx (s : State) (n : Node) (o : Output) (f : OutLine → OutLine) (m : Node) : ((s.updOutput n o f).node m).ctx = (s.node m).ctx := by
  rw [State.updOutput, State.updLines, updNode_node]; split <;> simp_all
@[simp] theorem updOutput_drives (s : State) (n : Node) (o : Output) (f : OutLine → OutLine) (m : Node) : ((s.updOutput n o f).node m).drives = (s.node m).drives := by
  rw [State.updOutput, State.updLines, updNode_node]; split <;> simp_all

@[simp] theorem updInput_pending (s : State) (n : Node) (i : Input) (f : InLine → InLine) : (s.updInput n i f).pending = s.pending := rfl
@[simp] theorem updInput_porst (s : State) (n : Node) (i : Input) (f : InLine → InLine) : (s.updInput n i f).porst = s.porst := rfl
@[simp] theorem updInput_timebase (s : State) (n : Node) (i : Input) (f : InLine → InLine) : (s.updInput n i f).timebase = s.timebase := rfl
@[simp] theorem updInput_due (s : State) (n : Node) (i : Input) (f : InLine → InLine) : (s.updInput n i f).due = s.due := rfl
@[simp] theorem updInput_link (s : State) (n : Node) (i : Input) (f : InLine → InLine) : (s.updInput n i f).link = s.link := rfl
@[simp] theorem updInput_events (s : State) (n : Node) (i : Input) (f : InLine → InLine) : (s.updInput n i f).events = s.events := rfl
@[simp] theorem updInput_pool (s : State) (n : Node) (i : Input) (f : InLine → InLine) : (s.updInput n i f).pool = s.pool := rfl
@[simp] theorem updInput_lastServed (s : State) (n : Node) (i : Input) (f : InLine → InLine) : (s.updInput n i f).lastServed = s.lastServed := rfl
@[simp] theorem updInput_texts (s : State) (n : Node) (i : Input) (f : InLine → InLine) : (s.updInput n i f).texts = s.texts := rfl
@[simp] theorem updInput_plans (s : State) (n : Node) (i : Input) (f : InLine → InLine) : (s.updInput n i f).plans = s.plans := rfl
@[simp] theorem updInput_arbiter (s : State) (n : Node) (i : Input) (f : InLine → InLine) : (s.updInput n i f).arbiter = s.arbiter := rfl
@[simp] theorem updInput_cache (s : State) (n : Node) (i : Input) (f : InLine → InLine) : (s.updInput n i f).cache = s.cache := rfl
theorem updInput_node_ne (s : State) (n : Node) (i : Input) (f : InLine → InLine) (m : Node) (h : n ≠ m) : (s.updInput n i f).node m = s.node m := updNode_node_ne s _ h
@[simp] theorem updInput_rx (s : State) (n : Node) (i : Input) (f : InLine → InLine) (m : Node) : ((s.updInput n i f).node m).rx = (s.node m).rx := by
  rw [State.updInput, State.updLines, updNode_node]; split <;> simp_all
@[simp] theorem updInput_hist (s : State) (n : Node) (i : Input) (f : InLine → InLine) (m : Node) : ((s.updInput n i f).node m).hist = (s.node m).hist := by
  rw [State.updInput, State.updLines, updNode_node]; split <;> simp_all
@[simp] theorem updInput_tx (s : State) (n : Node) (i : Input) (f : InLine → InLine) (m : Node) : ((s.updInput n i f).node m).tx = (s.node m).tx := by
  rw [State.updInput, State.updLines, updNode_node]; split <;> simp_all
@[simp] theorem updInput_patterns (s : State) (n : Node) (i : Input) (f : InLine → InLine) (m : Node) : ((s.updInput n i f).node m).patterns = (s.node m).patterns := by
  rw [State.updInput, State.updLines, updNode_node]; split <;> simp_all
@[simp] theorem updInput_window (s : State) (n : Node) (i : Input) (f : InLine → InLine) (m : Node) : ((s.updInput n i f).node m).window = (s.node m).window := by
  rw [State.updInput, State.updLines, updNode_node]; split <;> simp_all
@[simp] theorem updInput_exec (s : State) (n : Node) (i : Input) (f : InLine → InLine) (m : Node) : ((s.updInput n i f).node m).exec = (s.node m).exec := by
  rw [State.updInput, State.updLines, updNode_node]; split <;> simp_all
@[simp] theorem updInput_port (s : State) (n : Node) (i : Input) (f : InLine → InLine) (m : Node) : ((s.updInput n i f).node m).port = (s.node m).port := by
  rw [State.updInput, State.updLines, updNode_node]; split <;> simp_all
@[simp] theorem updInput_ctx (s : State) (n : Node) (i : Input) (f : InLine → InLine) (m : Node) : ((s.updInput n i f).node m).ctx = (s.node m).ctx := by
  rw [State.updInput, State.updLines, updNode_node]; split <;> simp_all
@[simp] theorem updInput_drives (s : State) (n : Node) (i : Input) (f : InLine → InLine) (m : Node) : ((s.updInput n i f).node m).drives = (s.node m).drives := by
  rw [State.updInput, State.updLines, updNode_node]; split <;> simp_all

@[simp] theorem updRun_pending (s : State) (n : Node) (f : Run → Run) : (s.updRun n f).pending = s.pending := rfl
@[simp] theorem updRun_porst (s : State) (n : Node) (f : Run → Run) : (s.updRun n f).porst = s.porst := rfl
@[simp] theorem updRun_timebase (s : State) (n : Node) (f : Run → Run) : (s.updRun n f).timebase = s.timebase := rfl
@[simp] theorem updRun_due (s : State) (n : Node) (f : Run → Run) : (s.updRun n f).due = s.due := rfl
@[simp] theorem updRun_link (s : State) (n : Node) (f : Run → Run) : (s.updRun n f).link = s.link := rfl
@[simp] theorem updRun_events (s : State) (n : Node) (f : Run → Run) : (s.updRun n f).events = s.events := rfl
@[simp] theorem updRun_pool (s : State) (n : Node) (f : Run → Run) : (s.updRun n f).pool = s.pool := rfl
@[simp] theorem updRun_lastServed (s : State) (n : Node) (f : Run → Run) : (s.updRun n f).lastServed = s.lastServed := rfl
@[simp] theorem updRun_texts (s : State) (n : Node) (f : Run → Run) : (s.updRun n f).texts = s.texts := rfl
@[simp] theorem updRun_plans (s : State) (n : Node) (f : Run → Run) : (s.updRun n f).plans = s.plans := rfl
@[simp] theorem updRun_arbiter (s : State) (n : Node) (f : Run → Run) : (s.updRun n f).arbiter = s.arbiter := rfl
@[simp] theorem updRun_cache (s : State) (n : Node) (f : Run → Run) : (s.updRun n f).cache = s.cache := rfl
theorem updRun_node_ne (s : State) (n : Node) (f : Run → Run) (m : Node) (h : n ≠ m) : (s.updRun n f).node m = s.node m := updNode_node_ne s _ h
@[simp] theorem updRun_rx (s : State) (n : Node) (f : Run → Run) (m : Node) : ((s.updRun n f).node m).rx = (s.node m).rx := by
  rw [State.updRun, State.updExec, updNode_node]; split <;> simp_all
@[simp] theorem updRun_hist (s : State) (n : Node) (f : Run → Run) (m : Node) : ((s.updRun n f).node m).hist = (s.node m).hist := by
  rw [State.updRun, State.updExec, updNode_node]; split <;> simp_all
@[simp] theorem updRun_tx (s : State) (n : Node) (f : Run → Run) (m : Node) : ((s.updRun n f).node m).tx = (s.node m).tx := by
  rw [State.updRun, State.updExec, updNode_node]; split <;> simp_all
@[simp] theorem updRun_patterns (s : State) (n : Node) (f : Run → Run) (m : Node) : ((s.updRun n f).node m).patterns = (s.node m).patterns := by
  rw [State.updRun, State.updExec, updNode_node]; split <;> simp_all
@[simp] theorem updRun_window (s : State) (n : Node) (f : Run → Run) (m : Node) : ((s.updRun n f).node m).window = (s.node m).window := by
  rw [State.updRun, State.updExec, updNode_node]; split <;> simp_all
@[simp] theorem updRun_lines (s : State) (n : Node) (f : Run → Run) (m : Node) : ((s.updRun n f).node m).lines = (s.node m).lines := by
  rw [State.updRun, State.updExec, updNode_node]; split <;> simp_all
@[simp] theorem updRun_port (s : State) (n : Node) (f : Run → Run) (m : Node) : ((s.updRun n f).node m).port = (s.node m).port := by
  rw [State.updRun, State.updExec, updNode_node]; split <;> simp_all
@[simp] theorem updRun_ctx (s : State) (n : Node) (f : Run → Run) (m : Node) : ((s.updRun n f).node m).ctx = (s.node m).ctx := by
  rw [State.updRun, State.updExec, updNode_node]; split <;> simp_all
@[simp] theorem updRun_drives (s : State) (n : Node) (f : Run → Run) (m : Node) : ((s.updRun n f).node m).drives = (s.node m).drives := by
  rw [State.updRun, State.updExec, updNode_node]; split <;> simp_all

@[simp] theorem updPattern_pending (s : State) (n : Node) (i : Fin 8) (f : Pattern → Pattern) : (s.updPattern n i f).pending = s.pending := rfl
@[simp] theorem updPattern_porst (s : State) (n : Node) (i : Fin 8) (f : Pattern → Pattern) : (s.updPattern n i f).porst = s.porst := rfl
@[simp] theorem updPattern_timebase (s : State) (n : Node) (i : Fin 8) (f : Pattern → Pattern) : (s.updPattern n i f).timebase = s.timebase := rfl
@[simp] theorem updPattern_due (s : State) (n : Node) (i : Fin 8) (f : Pattern → Pattern) : (s.updPattern n i f).due = s.due := rfl
@[simp] theorem updPattern_link (s : State) (n : Node) (i : Fin 8) (f : Pattern → Pattern) : (s.updPattern n i f).link = s.link := rfl
@[simp] theorem updPattern_events (s : State) (n : Node) (i : Fin 8) (f : Pattern → Pattern) : (s.updPattern n i f).events = s.events := rfl
@[simp] theorem updPattern_pool (s : State) (n : Node) (i : Fin 8) (f : Pattern → Pattern) : (s.updPattern n i f).pool = s.pool := rfl
@[simp] theorem updPattern_lastServed (s : State) (n : Node) (i : Fin 8) (f : Pattern → Pattern) : (s.updPattern n i f).lastServed = s.lastServed := rfl
@[simp] theorem updPattern_texts (s : State) (n : Node) (i : Fin 8) (f : Pattern → Pattern) : (s.updPattern n i f).texts = s.texts := rfl
@[simp] theorem updPattern_plans (s : State) (n : Node) (i : Fin 8) (f : Pattern → Pattern) : (s.updPattern n i f).plans = s.plans := rfl
@[simp] theorem updPattern_arbiter (s : State) (n : Node) (i : Fin 8) (f : Pattern → Pattern) : (s.updPattern n i f).arbiter = s.arbiter := rfl
@[simp] theorem updPattern_cache (s : State) (n : Node) (i : Fin 8) (f : Pattern → Pattern) : (s.updPattern n i f).cache = s.cache := rfl
theorem updPattern_node_ne (s : State) (n : Node) (i : Fin 8) (f : Pattern → Pattern) (m : Node) (h : n ≠ m) : (s.updPattern n i f).node m = s.node m := updNode_node_ne s _ h
@[simp] theorem updPattern_rx (s : State) (n : Node) (i : Fin 8) (f : Pattern → Pattern) (m : Node) : ((s.updPattern n i f).node m).rx = (s.node m).rx := by
  rw [State.updPattern, updNode_node]; split <;> simp_all
@[simp] theorem updPattern_hist (s : State) (n : Node) (i : Fin 8) (f : Pattern → Pattern) (m : Node) : ((s.updPattern n i f).node m).hist = (s.node m).hist := by
  rw [State.updPattern, updNode_node]; split <;> simp_all
@[simp] theorem updPattern_tx (s : State) (n : Node) (i : Fin 8) (f : Pattern → Pattern) (m : Node) : ((s.updPattern n i f).node m).tx = (s.node m).tx := by
  rw [State.updPattern, updNode_node]; split <;> simp_all
@[simp] theorem updPattern_window (s : State) (n : Node) (i : Fin 8) (f : Pattern → Pattern) (m : Node) : ((s.updPattern n i f).node m).window = (s.node m).window := by
  rw [State.updPattern, updNode_node]; split <;> simp_all
@[simp] theorem updPattern_lines (s : State) (n : Node) (i : Fin 8) (f : Pattern → Pattern) (m : Node) : ((s.updPattern n i f).node m).lines = (s.node m).lines := by
  rw [State.updPattern, updNode_node]; split <;> simp_all
@[simp] theorem updPattern_exec (s : State) (n : Node) (i : Fin 8) (f : Pattern → Pattern) (m : Node) : ((s.updPattern n i f).node m).exec = (s.node m).exec := by
  rw [State.updPattern, updNode_node]; split <;> simp_all
@[simp] theorem updPattern_port (s : State) (n : Node) (i : Fin 8) (f : Pattern → Pattern) (m : Node) : ((s.updPattern n i f).node m).port = (s.node m).port := by
  rw [State.updPattern, updNode_node]; split <;> simp_all
@[simp] theorem updPattern_ctx (s : State) (n : Node) (i : Fin 8) (f : Pattern → Pattern) (m : Node) : ((s.updPattern n i f).node m).ctx = (s.node m).ctx := by
  rw [State.updPattern, updNode_node]; split <;> simp_all
@[simp] theorem updPattern_drives (s : State) (n : Node) (i : Fin 8) (f : Pattern → Pattern) (m : Node) : ((s.updPattern n i f).node m).drives = (s.node m).drives := by
  rw [State.updPattern, updNode_node]; split <;> simp_all

@[simp] theorem updSlot_pending (s : State) (i : Fin 16) (f : FetchSlot → FetchSlot) : (s.updSlot i f).pending = s.pending := rfl
@[simp] theorem updSlot_porst (s : State) (i : Fin 16) (f : FetchSlot → FetchSlot) : (s.updSlot i f).porst = s.porst := rfl
@[simp] theorem updSlot_timebase (s : State) (i : Fin 16) (f : FetchSlot → FetchSlot) : (s.updSlot i f).timebase = s.timebase := rfl
@[simp] theorem updSlot_due (s : State) (i : Fin 16) (f : FetchSlot → FetchSlot) : (s.updSlot i f).due = s.due := rfl
@[simp] theorem updSlot_link (s : State) (i : Fin 16) (f : FetchSlot → FetchSlot) : (s.updSlot i f).link = s.link := rfl
@[simp] theorem updSlot_events (s : State) (i : Fin 16) (f : FetchSlot → FetchSlot) : (s.updSlot i f).events = s.events := rfl
@[simp] theorem updSlot_pool (s : State) (i : Fin 16) (f : FetchSlot → FetchSlot) : (s.updSlot i f).pool = s.pool := rfl
@[simp] theorem updSlot_lastServed (s : State) (i : Fin 16) (f : FetchSlot → FetchSlot) : (s.updSlot i f).lastServed = s.lastServed := rfl
@[simp] theorem updSlot_texts (s : State) (i : Fin 16) (f : FetchSlot → FetchSlot) : (s.updSlot i f).texts = s.texts := rfl
@[simp] theorem updSlot_plans (s : State) (i : Fin 16) (f : FetchSlot → FetchSlot) : (s.updSlot i f).plans = s.plans := rfl
@[simp] theorem updSlot_arbiter (s : State) (i : Fin 16) (f : FetchSlot → FetchSlot) : (s.updSlot i f).arbiter = s.arbiter := rfl
@[simp] theorem updSlot_nodes (s : State) (i : Fin 16) (f : FetchSlot → FetchSlot) : (s.updSlot i f).nodes = s.nodes := rfl
@[simp] theorem updSlot_cache_limit (s : State) (i : Fin 16) (f : FetchSlot → FetchSlot) : (s.updSlot i f).cache.limit = s.cache.limit := rfl
@[simp] theorem updSlot_cache_depth (s : State) (i : Fin 16) (f : FetchSlot → FetchSlot) : (s.updSlot i f).cache.depth = s.cache.depth := rfl
@[simp] theorem updSlot_cache_timeout (s : State) (i : Fin 16) (f : FetchSlot → FetchSlot) : (s.updSlot i f).cache.timeout = s.cache.timeout := rfl
@[simp] theorem updSlot_cache_lines (s : State) (i : Fin 16) (f : FetchSlot → FetchSlot) : (s.updSlot i f).cache.lines = s.cache.lines := rfl
@[simp] theorem updSlot_cache_slotWait (s : State) (i : Fin 16) (f : FetchSlot → FetchSlot) : (s.updSlot i f).cache.slotWait = s.cache.slotWait := rfl
@[simp] theorem updSlot_cache_writes (s : State) (i : Fin 16) (f : FetchSlot → FetchSlot) : (s.updSlot i f).cache.writes = s.cache.writes := rfl
@[simp] theorem updSlot_node (s : State) (i : Fin 16) (f : FetchSlot → FetchSlot) (m : Node) : (s.updSlot i f).node m = s.node m := rfl

@[simp] theorem updEntry_pending (s : State) (i : Fin 32) (f : WriteEntry → WriteEntry) : (s.updEntry i f).pending = s.pending := rfl
@[simp] theorem updEntry_porst (s : State) (i : Fin 32) (f : WriteEntry → WriteEntry) : (s.updEntry i f).porst = s.porst := rfl
@[simp] theorem updEntry_timebase (s : State) (i : Fin 32) (f : WriteEntry → WriteEntry) : (s.updEntry i f).timebase = s.timebase := rfl
@[simp] theorem updEntry_due (s : State) (i : Fin 32) (f : WriteEntry → WriteEntry) : (s.updEntry i f).due = s.due := rfl
@[simp] theorem updEntry_link (s : State) (i : Fin 32) (f : WriteEntry → WriteEntry) : (s.updEntry i f).link = s.link := rfl
@[simp] theorem updEntry_events (s : State) (i : Fin 32) (f : WriteEntry → WriteEntry) : (s.updEntry i f).events = s.events := rfl
@[simp] theorem updEntry_pool (s : State) (i : Fin 32) (f : WriteEntry → WriteEntry) : (s.updEntry i f).pool = s.pool := rfl
@[simp] theorem updEntry_lastServed (s : State) (i : Fin 32) (f : WriteEntry → WriteEntry) : (s.updEntry i f).lastServed = s.lastServed := rfl
@[simp] theorem updEntry_texts (s : State) (i : Fin 32) (f : WriteEntry → WriteEntry) : (s.updEntry i f).texts = s.texts := rfl
@[simp] theorem updEntry_plans (s : State) (i : Fin 32) (f : WriteEntry → WriteEntry) : (s.updEntry i f).plans = s.plans := rfl
@[simp] theorem updEntry_arbiter (s : State) (i : Fin 32) (f : WriteEntry → WriteEntry) : (s.updEntry i f).arbiter = s.arbiter := rfl
@[simp] theorem updEntry_nodes (s : State) (i : Fin 32) (f : WriteEntry → WriteEntry) : (s.updEntry i f).nodes = s.nodes := rfl
@[simp] theorem updEntry_cache_limit (s : State) (i : Fin 32) (f : WriteEntry → WriteEntry) : (s.updEntry i f).cache.limit = s.cache.limit := rfl
@[simp] theorem updEntry_cache_depth (s : State) (i : Fin 32) (f : WriteEntry → WriteEntry) : (s.updEntry i f).cache.depth = s.cache.depth := rfl
@[simp] theorem updEntry_cache_timeout (s : State) (i : Fin 32) (f : WriteEntry → WriteEntry) : (s.updEntry i f).cache.timeout = s.cache.timeout := rfl
@[simp] theorem updEntry_cache_lines (s : State) (i : Fin 32) (f : WriteEntry → WriteEntry) : (s.updEntry i f).cache.lines = s.cache.lines := rfl
@[simp] theorem updEntry_cache_slotWait (s : State) (i : Fin 32) (f : WriteEntry → WriteEntry) : (s.updEntry i f).cache.slotWait = s.cache.slotWait := rfl
@[simp] theorem updEntry_cache_slots (s : State) (i : Fin 32) (f : WriteEntry → WriteEntry) : (s.updEntry i f).cache.slots = s.cache.slots := rfl
@[simp] theorem updEntry_node (s : State) (i : Fin 32) (f : WriteEntry → WriteEntry) (m : Node) : (s.updEntry i f).node m = s.node m := rfl

@[simp] theorem setSlotUse_pending (s : State) (i : Fin 16) (v : SlotUse) : (s.setSlotUse i v).pending = s.pending := rfl
@[simp] theorem setSlotUse_porst (s : State) (i : Fin 16) (v : SlotUse) : (s.setSlotUse i v).porst = s.porst := rfl
@[simp] theorem setSlotUse_timebase (s : State) (i : Fin 16) (v : SlotUse) : (s.setSlotUse i v).timebase = s.timebase := rfl
@[simp] theorem setSlotUse_due (s : State) (i : Fin 16) (v : SlotUse) : (s.setSlotUse i v).due = s.due := rfl
@[simp] theorem setSlotUse_link (s : State) (i : Fin 16) (v : SlotUse) : (s.setSlotUse i v).link = s.link := rfl
@[simp] theorem setSlotUse_events (s : State) (i : Fin 16) (v : SlotUse) : (s.setSlotUse i v).events = s.events := rfl
@[simp] theorem setSlotUse_pool (s : State) (i : Fin 16) (v : SlotUse) : (s.setSlotUse i v).pool = s.pool := rfl
@[simp] theorem setSlotUse_lastServed (s : State) (i : Fin 16) (v : SlotUse) : (s.setSlotUse i v).lastServed = s.lastServed := rfl
@[simp] theorem setSlotUse_texts (s : State) (i : Fin 16) (v : SlotUse) : (s.setSlotUse i v).texts = s.texts := rfl
@[simp] theorem setSlotUse_plans (s : State) (i : Fin 16) (v : SlotUse) : (s.setSlotUse i v).plans = s.plans := rfl
@[simp] theorem setSlotUse_arbiter (s : State) (i : Fin 16) (v : SlotUse) : (s.setSlotUse i v).arbiter = s.arbiter := rfl
@[simp] theorem setSlotUse_nodes (s : State) (i : Fin 16) (v : SlotUse) : (s.setSlotUse i v).nodes = s.nodes := rfl
@[simp] theorem setSlotUse_cache_limit (s : State) (i : Fin 16) (v : SlotUse) : (s.setSlotUse i v).cache.limit = s.cache.limit := rfl
@[simp] theorem setSlotUse_cache_depth (s : State) (i : Fin 16) (v : SlotUse) : (s.setSlotUse i v).cache.depth = s.cache.depth := rfl
@[simp] theorem setSlotUse_cache_timeout (s : State) (i : Fin 16) (v : SlotUse) : (s.setSlotUse i v).cache.timeout = s.cache.timeout := rfl
@[simp] theorem setSlotUse_cache_lines (s : State) (i : Fin 16) (v : SlotUse) : (s.setSlotUse i v).cache.lines = s.cache.lines := rfl
@[simp] theorem setSlotUse_cache_slotWait (s : State) (i : Fin 16) (v : SlotUse) : (s.setSlotUse i v).cache.slotWait = s.cache.slotWait := rfl
@[simp] theorem setSlotUse_cache_writes (s : State) (i : Fin 16) (v : SlotUse) : (s.setSlotUse i v).cache.writes = s.cache.writes := rfl
@[simp] theorem setSlotUse_node (s : State) (i : Fin 16) (v : SlotUse) (m : Node) : (s.setSlotUse i v).node m = s.node m := rfl

@[simp] theorem setAnswer_pending (s : State) (n : Node) (x : UsbAnswer) : (setAnswer n x s).pending = s.pending := rfl
@[simp] theorem setAnswer_porst (s : State) (n : Node) (x : UsbAnswer) : (setAnswer n x s).porst = s.porst := rfl
@[simp] theorem setAnswer_timebase (s : State) (n : Node) (x : UsbAnswer) : (setAnswer n x s).timebase = s.timebase := rfl
@[simp] theorem setAnswer_due (s : State) (n : Node) (x : UsbAnswer) : (setAnswer n x s).due = s.due := rfl
@[simp] theorem setAnswer_link (s : State) (n : Node) (x : UsbAnswer) : (setAnswer n x s).link = s.link := rfl
@[simp] theorem setAnswer_events (s : State) (n : Node) (x : UsbAnswer) : (setAnswer n x s).events = s.events := rfl
@[simp] theorem setAnswer_pool (s : State) (n : Node) (x : UsbAnswer) : (setAnswer n x s).pool = s.pool := rfl
@[simp] theorem setAnswer_lastServed (s : State) (n : Node) (x : UsbAnswer) : (setAnswer n x s).lastServed = s.lastServed := rfl
@[simp] theorem setAnswer_texts (s : State) (n : Node) (x : UsbAnswer) : (setAnswer n x s).texts = s.texts := rfl
@[simp] theorem setAnswer_plans (s : State) (n : Node) (x : UsbAnswer) : (setAnswer n x s).plans = s.plans := rfl
@[simp] theorem setAnswer_arbiter (s : State) (n : Node) (x : UsbAnswer) : (setAnswer n x s).arbiter = s.arbiter := rfl
@[simp] theorem setAnswer_cache (s : State) (n : Node) (x : UsbAnswer) : (setAnswer n x s).cache = s.cache := rfl
@[simp] theorem setAnswer_rx (s : State) (n : Node) (x : UsbAnswer) (m : Node) : ((setAnswer n x s).node m).rx = (s.node m).rx := updPort_rx ..
@[simp] theorem setAnswer_hist (s : State) (n : Node) (x : UsbAnswer) (m : Node) : ((setAnswer n x s).node m).hist = (s.node m).hist := updPort_hist ..
@[simp] theorem setAnswer_tx (s : State) (n : Node) (x : UsbAnswer) (m : Node) : ((setAnswer n x s).node m).tx = (s.node m).tx := updPort_tx ..
@[simp] theorem setAnswer_patterns (s : State) (n : Node) (x : UsbAnswer) (m : Node) : ((setAnswer n x s).node m).patterns = (s.node m).patterns := updPort_patterns ..
@[simp] theorem setAnswer_window (s : State) (n : Node) (x : UsbAnswer) (m : Node) : ((setAnswer n x s).node m).window = (s.node m).window := updPort_window ..
@[simp] theorem setAnswer_lines (s : State) (n : Node) (x : UsbAnswer) (m : Node) : ((setAnswer n x s).node m).lines = (s.node m).lines := updPort_lines ..
@[simp] theorem setAnswer_exec (s : State) (n : Node) (x : UsbAnswer) (m : Node) : ((setAnswer n x s).node m).exec = (s.node m).exec := updPort_exec ..
@[simp] theorem setAnswer_ctx (s : State) (n : Node) (x : UsbAnswer) (m : Node) : ((setAnswer n x s).node m).ctx = (s.node m).ctx := updPort_ctx ..
@[simp] theorem setAnswer_drives (s : State) (n : Node) (x : UsbAnswer) (m : Node) : ((setAnswer n x s).node m).drives = (s.node m).drives := updPort_drives ..

@[simp] theorem setControl_pending (s : State) (n : Node) (x : Control) : (setControl n x s).pending = s.pending := rfl
@[simp] theorem setControl_porst (s : State) (n : Node) (x : Control) : (setControl n x s).porst = s.porst := rfl
@[simp] theorem setControl_timebase (s : State) (n : Node) (x : Control) : (setControl n x s).timebase = s.timebase := rfl
@[simp] theorem setControl_due (s : State) (n : Node) (x : Control) : (setControl n x s).due = s.due := rfl
@[simp] theorem setControl_link (s : State) (n : Node) (x : Control) : (setControl n x s).link = s.link := rfl
@[simp] theorem setControl_events (s : State) (n : Node) (x : Control) : (setControl n x s).events = s.events := rfl
@[simp] theorem setControl_pool (s : State) (n : Node) (x : Control) : (setControl n x s).pool = s.pool := rfl
@[simp] theorem setControl_lastServed (s : State) (n : Node) (x : Control) : (setControl n x s).lastServed = s.lastServed := rfl
@[simp] theorem setControl_texts (s : State) (n : Node) (x : Control) : (setControl n x s).texts = s.texts := rfl
@[simp] theorem setControl_plans (s : State) (n : Node) (x : Control) : (setControl n x s).plans = s.plans := rfl
@[simp] theorem setControl_arbiter (s : State) (n : Node) (x : Control) : (setControl n x s).arbiter = s.arbiter := rfl
@[simp] theorem setControl_cache (s : State) (n : Node) (x : Control) : (setControl n x s).cache = s.cache := rfl
@[simp] theorem setControl_rx (s : State) (n : Node) (x : Control) (m : Node) : ((setControl n x s).node m).rx = (s.node m).rx := updPort_rx ..
@[simp] theorem setControl_hist (s : State) (n : Node) (x : Control) (m : Node) : ((setControl n x s).node m).hist = (s.node m).hist := updPort_hist ..
@[simp] theorem setControl_tx (s : State) (n : Node) (x : Control) (m : Node) : ((setControl n x s).node m).tx = (s.node m).tx := updPort_tx ..
@[simp] theorem setControl_patterns (s : State) (n : Node) (x : Control) (m : Node) : ((setControl n x s).node m).patterns = (s.node m).patterns := updPort_patterns ..
@[simp] theorem setControl_window (s : State) (n : Node) (x : Control) (m : Node) : ((setControl n x s).node m).window = (s.node m).window := updPort_window ..
@[simp] theorem setControl_lines (s : State) (n : Node) (x : Control) (m : Node) : ((setControl n x s).node m).lines = (s.node m).lines := updPort_lines ..
@[simp] theorem setControl_exec (s : State) (n : Node) (x : Control) (m : Node) : ((setControl n x s).node m).exec = (s.node m).exec := updPort_exec ..
@[simp] theorem setControl_ctx (s : State) (n : Node) (x : Control) (m : Node) : ((setControl n x s).node m).ctx = (s.node m).ctx := updPort_ctx ..
@[simp] theorem setControl_drives (s : State) (n : Node) (x : Control) (m : Node) : ((setControl n x s).node m).drives = (s.node m).drives := updPort_drives ..

@[simp] theorem setInbound_pending (s : State) (x : Inbound) : (setInbound x s).pending = s.pending := rfl
@[simp] theorem setInbound_porst (s : State) (x : Inbound) : (setInbound x s).porst = s.porst := rfl
@[simp] theorem setInbound_timebase (s : State) (x : Inbound) : (setInbound x s).timebase = s.timebase := rfl
@[simp] theorem setInbound_due (s : State) (x : Inbound) : (setInbound x s).due = s.due := rfl
@[simp] theorem setInbound_events (s : State) (x : Inbound) : (setInbound x s).events = s.events := rfl
@[simp] theorem setInbound_pool (s : State) (x : Inbound) : (setInbound x s).pool = s.pool := rfl
@[simp] theorem setInbound_lastServed (s : State) (x : Inbound) : (setInbound x s).lastServed = s.lastServed := rfl
@[simp] theorem setInbound_texts (s : State) (x : Inbound) : (setInbound x s).texts = s.texts := rfl
@[simp] theorem setInbound_plans (s : State) (x : Inbound) : (setInbound x s).plans = s.plans := rfl
@[simp] theorem setInbound_arbiter (s : State) (x : Inbound) : (setInbound x s).arbiter = s.arbiter := rfl
@[simp] theorem setInbound_cache (s : State) (x : Inbound) : (setInbound x s).cache = s.cache := rfl
@[simp] theorem setInbound_nodes (s : State) (x : Inbound) : (setInbound x s).nodes = s.nodes := rfl
@[simp] theorem setInbound_link (s : State) (x : Inbound) : (setInbound x s).link = { s.link with inbound := x } := rfl
@[simp] theorem setInbound_node (s : State) (x : Inbound) (m : Node) : (setInbound x s).node m = s.node m := rfl

@[simp] theorem freeSlotLine_pending (i : Fin 16) (s : State) : (freeSlotLine i s).pending = s.pending := rfl
@[simp] theorem freeSlotLine_porst (i : Fin 16) (s : State) : (freeSlotLine i s).porst = s.porst := rfl
@[simp] theorem freeSlotLine_timebase (i : Fin 16) (s : State) : (freeSlotLine i s).timebase = s.timebase := rfl
@[simp] theorem freeSlotLine_due (i : Fin 16) (s : State) : (freeSlotLine i s).due = s.due := rfl
@[simp] theorem freeSlotLine_link (i : Fin 16) (s : State) : (freeSlotLine i s).link = s.link := rfl
@[simp] theorem freeSlotLine_events (i : Fin 16) (s : State) : (freeSlotLine i s).events = s.events := rfl
@[simp] theorem freeSlotLine_lastServed (i : Fin 16) (s : State) : (freeSlotLine i s).lastServed = s.lastServed := rfl
@[simp] theorem freeSlotLine_texts (i : Fin 16) (s : State) : (freeSlotLine i s).texts = s.texts := rfl
@[simp] theorem freeSlotLine_plans (i : Fin 16) (s : State) : (freeSlotLine i s).plans = s.plans := rfl
@[simp] theorem freeSlotLine_arbiter (i : Fin 16) (s : State) : (freeSlotLine i s).arbiter = s.arbiter := rfl
@[simp] theorem freeSlotLine_nodes (i : Fin 16) (s : State) : (freeSlotLine i s).nodes = s.nodes := rfl
@[simp] theorem freeSlotLine_node (i : Fin 16) (s : State) (m : Node) : (freeSlotLine i s).node m = s.node m := rfl
@[simp] theorem freeSlotLine_pool (i : Fin 16) (s : State) : (freeSlotLine i s).pool = { s.pool with free := s.pool.free + Config.linePages } := rfl
@[simp] theorem freeSlotLine_cache (i : Fin 16) (s : State) :
    (freeSlotLine i s).cache = { s.cache with lines := s.cache.lines.eraseP fun x => x.inSlot i } := rfl

@[simp] theorem emptyLists_pending (s : State) : (emptyLists s).pending = s.pending := rfl
@[simp] theorem emptyLists_porst (s : State) : (emptyLists s).porst = s.porst := rfl
@[simp] theorem emptyLists_timebase (s : State) : (emptyLists s).timebase = s.timebase := rfl
@[simp] theorem emptyLists_due (s : State) : (emptyLists s).due = s.due := rfl
@[simp] theorem emptyLists_link (s : State) : (emptyLists s).link = s.link := rfl
@[simp] theorem emptyLists_events (s : State) : (emptyLists s).events = s.events := rfl
@[simp] theorem emptyLists_lastServed (s : State) : (emptyLists s).lastServed = s.lastServed := rfl
@[simp] theorem emptyLists_texts (s : State) : (emptyLists s).texts = s.texts := rfl
@[simp] theorem emptyLists_plans (s : State) : (emptyLists s).plans = s.plans := rfl
@[simp] theorem emptyLists_arbiter (s : State) : (emptyLists s).arbiter = s.arbiter := rfl
@[simp] theorem emptyLists_nodes (s : State) : (emptyLists s).nodes = s.nodes := rfl
@[simp] theorem emptyLists_node (s : State) (m : Node) : (emptyLists s).node m = s.node m := rfl
@[simp] theorem emptyLists_pool (s : State) : (emptyLists s).pool = { s.pool with waiting := [] } := rfl
@[simp] theorem emptyLists_cache (s : State) :
    (emptyLists s).cache = { s.cache with slotWait := [], slots := s.cache.slots.map FetchSlot.release } := rfl

/-! ## MISO -/

/-- MISO is released exactly while PORST is asserted or the part takes part in no transaction (R1, R21). -/
theorem miso_released_iff (s : State) : s.miso = .released ↔ s.porst = true ∨ s.link.txn ≠ .active := by
  unfold State.miso
  repeat' split
  all_goals simp_all

/-- In a transaction the part takes part in, MISO carries the head frame while it is being shifted, and otherwise 00H (R11). -/
theorem miso_driven (s : State) (hp : s.porst = false) (ht : s.link.txn = .active) :
    s.miso = if s.link.shifting then (s.link.queue.head?.map MisoDrive.frame).getD .zeros else .zeros := by
  unfold State.miso
  simp only [hp, ht]
  cases s.link.queue.head? <;> simp

@[simp] theorem byteAt_released (k : Nat) : MisoDrive.released.byteAt k = none := rfl
@[simp] theorem byteAt_zeros (k : Nat) : MisoDrive.zeros.byteAt k = some 0 := rfl
@[simp] theorem byteAt_frame (f : Frame) (k : Nat) : (MisoDrive.frame f).byteAt k = some (f.bytes.getD k 0) := rfl

/-! ## Characters -/

@[simp] theorem parityBit_length (p : Parity) (b : Byte) : (parityBit p b).length + 10 = p.charBits := by cases p <;> rfl

/-- A character has as many levels as its setting has bits (R37, R59). -/
@[simp] theorem charLevels_length (p : Parity) (b : Byte) : (charLevels p b).length = p.charBits := by cases p <;> rfl

end Sys2Proof.Machine
end

