-- ==== Sys2Proof/Laws/Frames.lean ====
section
/-! SUPPORT. What the inbound assembly does with the bytes of a frame: the numbers that byte strings spell, the header, the
payload and the check, one lemma each (R2, R3, R4). -/

namespace Sys2Proof.Machine

open Sys2Proof

/-! ## Numbers as bytes -/

@[simp] theorem le_length (k v : Nat) : (le k v).length = k := by
  induction k generalizing v with
  | zero => rfl
  | succ k ih => simp [le, ih]

/-- The bytes of a number spell it again, modulo what k bytes hold. -/
theorem leNat_le (k v : Nat) : leNat (le k v) = v % 256 ^ k := by
  induction k generalizing v with
  | zero => simp [le, leNat, Nat.mod_one]
  | succ k ih =>
    simp only [le, leNat, ih, BitVec.toNat_ofNat, Nat.reducePow]
    rw [Nat.pow_succ, Nat.mul_comm (256 ^ k) 256, Nat.mod_mul]

/-- A two-byte length, spelled by its two bytes. -/
theorem two_bytes (v : Nat) (h : v < 65536) :
    (BitVec.ofNat 8 v).toNat + 256 * (BitVec.ofNat 8 (v / 256)).toNat = v := by
  simp only [BitVec.toNat_ofNat]; omega

@[simp] theorem headerBytes_length (k t : Byte) (len : Nat) : (headerBytes k t len).length = 4 := by simp [headerBytes]

@[simp] theorem checkBytes_length (k t : Byte) (p : List Byte) : (checkBytes k t p).length = 2 := by simp [checkBytes]

/-- A frame is six bytes longer than its payload (R2). -/
@[simp] theorem frameBytes_length (k t : Byte) (p : List Byte) : (frameBytes k t p).length = 6 + p.length := by
  simp [frameBytes]; omega

/-! ## The assembly -/

@[simp] theorem setInbound_setInbound (x y : Inbound) (s : State) : setInbound x (setInbound y s) = setInbound x s := rfl

/-- Bytes that arrive while the rest of the transaction is ignored change nothing. -/
theorem foldl_ignore (bs : List Byte) (s : State) (h : s.link.inbound = .ignore) : bs.foldl byteIn s = s := by
  induction bs with
  | nil => rfl
  | cons b bs ih => simp [byteIn, h, ih]

/-- The header of a frame (R4): the assembly enters what its declared length asks for. -/
theorem foldl_header (k t : Byte) (len : Nat) (hlen : len < 65536) (hk : k ≠ 0) (s : State) (h : s.link.inbound = .header []) :
    (headerBytes k t len).foldl byteIn s = afterHeader k t len s := by
  have e : afterHeader k t len (setInbound (.header [k, t, BitVec.ofNat 8 len]) s) = afterHeader k t len s := by
    simp only [afterHeader, setInbound_setInbound]
  have hv := two_bytes len hlen
  simp only [headerBytes, le, List.cons_append, List.nil_append, List.foldl_cons, List.foldl_nil, byteIn, h, hk, if_false,
    setInbound_link, setInbound_setInbound]
  rw [hv, e]

/-- The payload of a frame (R4). -/
theorem foldl_body (k t : Byte) (q p : List Byte) (s : State) (hq : q ≠ []) :
    q.foldl byteIn (setInbound (.body k t q.length p) s) = setInbound (.check k t (p ++ q) []) s := by
  induction q generalizing p with
  | nil => exact absurd rfl hq
  | cons b q ih =>
    rcases q with _ | ⟨c, q⟩
    · simp [byteIn]
    · have h := ih (p ++ [b]) (by simp)
      simp only [List.foldl_cons, byteIn, setInbound_link, List.length_cons, setInbound_setInbound] at h ⊢
      simpa [Nat.add_sub_cancel] using h

/-- A header with an admitted length and its payload leave the assembly waiting for the check (R4). -/
theorem foldl_header_body (k t : Byte) (p : List Byte) (hp : p.length ≤ 600) (hk : k ≠ 0) (s : State)
    (h : s.link.inbound = .header []) :
    (headerBytes k t p.length ++ p).foldl byteIn s = setInbound (.check k t p []) s := by
  rw [List.foldl_append, foldl_header k t p.length (by omega) hk s h, afterHeader, if_neg (by simp [Config.maxPayload]; omega)]
  rcases p with _ | ⟨b, p⟩
  · simp
  · rw [if_neg (by simp)]
    simpa using foldl_body k t (b :: p) [] s (by simp)

/-- The two check bytes (R4): a frame is taken where they match and discarded where they do not. -/
theorem foldl_check (k t : Byte) (p : List Byte) (c : BitVec 16) (s : State) :
    (le 2 c.toNat).foldl byteIn (setInbound (.check k t p []) s) =
      if c = crc (headerBytes k t p.length ++ p) then takeFrame k t p (setInbound .ignore s)
      else discardFrame .badCheck (setInbound .ignore s) := by
  have hc := c.isLt
  have hv := two_bytes c.toNat (by omega)
  simp only [le, List.foldl_cons, List.foldl_nil, byteIn, setInbound_link, setInbound_setInbound]
  rw [hv]
  by_cases e : c = crc (headerBytes k t p.length ++ p)
  · subst e; simp
  · have : c.toNat ≠ (crc (headerBytes k t p.length ++ p)).toNat := fun h => e (BitVec.eq_of_toNat_eq h)
    simp [e, this]

end Sys2Proof.Machine
end

