-- ==== Sys2Proof/Laws/Still.lean ====
section
/-! SUPPORT. What the blocks below the lines and the executor leave alone. `State.still` keeps of a state what no notice, no
event, no record and no work of the cache or of a command context changes; one lemma for each operation of those blocks
says that the operation keeps it. A later proof reads off the component it needs. -/

namespace Sys2Proof.Machine

open Sys2Proof

/-! ## What is left alone -/

/-- A port without its halts, toggles, pending packet, flags and answer: what the command context does not act on. -/
abbrev Port.still (p : Port) : Port :=
  { p with toggleIn := false, toggleOut := false, haltIn := false, haltOut := false, recovery := false, pendingIn := none,
           stagingBlocked := false, answer := .silent }

/-- A ring's settings: its reserve, its maximum and its streaming flag. -/
abbrev History.still (h : History) : History :=
  { History.reset with reserve := h.reserve, maximum := h.maximum, streaming := h.streaming }

/-- A drive's two images. -/
abbrev Drive.still (d : Drive) : Drive := { Drive.reset with image := d.image, remembered := d.remembered }

/-- A column without its ring's contents, its command context and what those act on. -/
abbrev NodeState.still (c : NodeState) : NodeState :=
  { c with hist := c.hist.still, ctx := Context.reset, port := c.port.still, drives := c.drives.map Drive.still }

/-- The link without its queue, its waiting notices, its notice count and its error counts. -/
abbrev Link.still (l : Link) : Link :=
  { l with queue := [], waiting := [], noticeCount := 0, errors := (Link.reset 0).errors }

/-- A cache's three settings. -/
abbrev Cache.still (c : Cache) : Cache := { Cache.reset with limit := c.limit, depth := c.depth, timeout := c.timeout }

/-- What the operations of this file leave alone. -/
def State.still (s : State) : State :=
  { s with link := s.link.still, events := EventTable.reset, pool := { free := 0, waiting := [] }, lastServed := 0,
           cache := s.cache.still, nodes := s.nodes.map NodeState.still }

/-! ## The updates -/

theorem still_nodes_set (v : Vector NodeState 4) (n : Node) (c : NodeState) (h : c.still = v[n].still) :
    (v.set n c).map NodeState.still = v.map NodeState.still := by
  apply Vector.ext
  intro i hi
  by_cases e : (n : Nat) = i
  · subst e; simp [h]
  · simp [Vector.getElem_set_ne, e]

theorem still_updNode (s : State) (n : Node) (f : NodeState → NodeState) (h : (f (s.node n)).still = (s.node n).still) :
    (s.updNode n f).still = s.still := by
  have e := still_nodes_set s.nodes n (f s.nodes[n]) h
  simp only [State.still, State.updNode, e]

@[simp] theorem still_updCtx (s : State) (n : Node) (f : Context → Context) : (s.updCtx n f).still = s.still :=
  still_updNode _ _ _ rfl

@[simp] theorem still_updHist (s : State) (n : Node) (f : History → History) (h : ∀ x, (f x).still = x.still) :
    (s.updHist n f).still = s.still := still_updNode _ _ _ (by simp [NodeState.still, h])

@[simp] theorem still_updPort (s : State) (n : Node) (f : Port → Port) (h : ∀ x, (f x).still = x.still) :
    (s.updPort n f).still = s.still := still_updNode _ _ _ (by simp [NodeState.still, h])

@[simp] theorem still_updDrive (s : State) (n : Node) (u : Lun) (f : Drive → Drive) (h : ∀ x, (f x).still = x.still) :
    (s.updDrive n u f).still = s.still := by
  refine still_updNode _ _ _ ?_
  simp only [NodeState.still]
  congr 1
  apply Vector.ext
  intro i hi
  by_cases e : (u : Nat) = i
  · subst e; simp [h]
  · simp [Vector.getElem_set_ne, e]

@[simp] theorem still_updPool (s : State) (f : Pool → Pool) : (s.updPool f).still = s.still := rfl

@[simp] theorem still_updCache (s : State) (f : Cache → Cache) (h : ∀ c, (f c).still = c.still) : (s.updCache f).still = s.still := by
  simp [State.still, State.updCache, h]

@[simp] theorem still_updLink (s : State) (f : Link → Link) (h : ∀ l, (f l).still = l.still) : (s.updLink f).still = s.still := by
  simp [State.still, State.updLink, h]

@[simp] theorem still_enqueueNotice (s : State) (k : Byte) (p : List Byte) : (s.enqueueNotice k p).still = s.still := rfl

@[simp] theorem still_updSlot (s : State) (i : Fin 16) (f : FetchSlot → FetchSlot) : (s.updSlot i f).still = s.still := rfl

@[simp] theorem still_updEntry (s : State) (i : Fin 32) (f : WriteEntry → WriteEntry) : (s.updEntry i f).still = s.still := rfl

@[simp] theorem still_setSlotUse (s : State) (i : Fin 16) (v : SlotUse) : (s.setSlotUse i v).still = s.still := rfl

@[simp] theorem still_withdraw (s : State) (o : MediaOwner) : (withdraw o s).still = s.still := rfl

/-! ## Notices, events and records -/

@[simp] theorem still_offerSummary (s : State) : (offerSummary s).still = s.still := by
  unfold offerSummary; split <;> rfl

@[simp] theorem still_latch (src : Source) (d : Nat) (s : State) : (latch src d s).still = s.still := by
  unfold latch; dsimp only; split
  · rfl
  · split
    · rw [still_offerSummary]; rfl
    · rfl

@[simp] theorem still_discardFrame (c : LinkCause) (s : State) : (discardFrame c s).still = s.still := by
  simp [discardFrame]

@[simp] theorem still_mediaError (n : Node) (c : MediaCause) (l : Lun) (s : State) : (mediaError n c l s).still = s.still := by
  simp [mediaError]

@[simp] theorem still_portChange (n : Node) (c : PortCause) (s : State) : (portChange n c s).still = s.still := by
  simp [portChange]

@[simp] theorem still_pressureTrim (s : State) : (pressureTrim s).still = s.still := by simp [pressureTrim]

@[simp] theorem still_pressureWait (n : Node) (s : State) : (pressureWait n s).still = s.still := by simp [pressureWait]

@[simp] theorem still_pressureStage (n : Node) (s : State) : (pressureStage n s).still = s.still := by simp [pressureStage]

@[simp] theorem still_staleAnswer (k : Byte) (s : State) : (staleAnswer k s).still = s.still := by simp [staleAnswer]

@[simp] theorem still_sendMedia (o : MediaOwner) (s : State) : (sendMedia o s).still = s.still := by
  unfold sendMedia; split <;> split <;> simp

@[simp] theorem still_offerMedia (o : MediaOwner) (s : State) : (offerMedia o s).still = s.still := by
  unfold offerMedia; split <;> simp

@[simp] theorem still_offerWaiting (os : List MediaOwner) (s : State) : (offerWaiting os s).still = s.still := by
  induction os generalizing s with
  | nil => rfl
  | cons o os ih => unfold offerWaiting; split <;> simp [ih]

theorem still_lastServed (s : State) (n : Node) : ({ s with lastServed := n } : State).still = s.still := rfl

@[simp] theorem still_streamOffer (s : State) : (streamOffer s).still = s.still := by
  unfold streamOffer
  split
  · rfl
  · split
    · dsimp only; rw [still_lastServed]; simp
    · rfl

@[simp] theorem still_evictRecords (n : Node) (p : List Rec) (s : State) : (evictRecords n p s).still = s.still := by
  unfold evictRecords
  split
  · rfl
  · dsimp only; split
    · split <;> simp
    · simp

@[simp] theorem still_giveUpPage (n : Node) (s : State) : (giveUpPage n s).still = s.still := by
  unfold giveUpPage
  dsimp only; split
  · simp
  · split <;> simp

@[simp] theorem still_obtainPage (n : Node) (s : State) : (obtainPage n s).still = s.still := by
  unfold obtainPage
  dsimp only; split
  · simp
  · split
    · simp
    · split <;> simp

@[simp] theorem still_appendRec (n : Node) (ts : Word32) (b : RecBody) (s : State) : (appendRec n ts b s).still = s.still := by
  unfold appendRec
  dsimp only
  rw [still_streamOffer, still_updHist]
  · split <;> simp
  · intro; rfl

/-! ## Commands, pages and the cache -/

@[simp] theorem still_enterStatus (n : Node) (s : State) : (enterStatus n s).still = s.still := by
  unfold enterStatus; dsimp only; split <;> simp [Drive.afterStatus]

@[simp] theorem still_closeFailed (n : Node) (s : State) : (closeFailed n s).still = s.still := by
  unfold closeFailed; dsimp only; split <;> simp

@[simp] theorem still_closeAtStart (n : Node) (c : Command) (s : State) : (closeAtStart n c s).still = s.still := by
  unfold closeAtStart; split
  · simp
  · split <;> simp

@[simp] theorem still_refuseAtStart (n : Node) (c : Command) (x : Sense) (s : State) : (refuseAtStart n c x s).still = s.still := by
  simp [refuseAtStart]

@[simp] theorem still_readFails (n : Node) (x : Sense) (s : State) : (readFails n x s).still = s.still := by
  unfold readFails; dsimp only; split
  · split <;> simp
  · rfl

theorem still_evictLine {s t : State} (h : evictLine s = some t) : t.still = s.still := by
  unfold evictLine at h
  split at h
  · cases h; simp
  · cases h

@[simp] theorem still_trimPages (k : Nat) (s : State) : (trimPages k s).still = s.still := by
  induction k generalizing s with
  | zero => rfl
  | succ k ih => simp [trimPages, ih]

theorem still_demandAlloc {s t : State} (h : demandAlloc s = .got t) : t.still = s.still := by
  unfold demandAlloc at h
  split at h
  · cases h; simp
  · split at h
    · cases h; exact still_evictLine ‹_›
    · split at h
      · cases h; simp
      · split at h <;> cases h

theorem still_prefetchAlloc {s t : State} (h : prefetchAlloc s = some t) : t.still = s.still := by
  unfold prefetchAlloc at h
  split at h
  · cases h; simp
  · exact still_evictLine h

@[simp] theorem still_createLine (n : Node) (u : Lun) (j p : Nat) (i : Fin 16) (s : State) : (createLine n u j p i s).still = s.still := by
  simp [createLine]

@[simp] theorem still_attachNew (n : Node) (i : Fin 16) (s : State) : (attachNew n i s).still = s.still := by
  simp [attachNew]

@[simp] theorem still_grantPages (n : Node) (s : State) : (grantPages n s).still = s.still := by
  unfold grantPages; split <;> simp

@[simp] theorem still_retryList (ws : List Waiter) (s : State) : (retryList ws s).still = s.still := by
  induction ws generalizing s with
  | nil => rfl
  | cons w ws ih =>
    unfold retryList
    split
    · simp [ih, still_demandAlloc ‹_›]
    · rfl

@[simp] theorem still_retryWaiting (s : State) : (retryWaiting s).still = s.still := by simp [retryWaiting]

@[simp] theorem still_pagesJoin (k : Nat) (s : State) : (pagesJoin k s).still = s.still := by simp [pagesJoin]

@[simp] theorem still_detach (n : Node) (s : State) : (detach n s).still = s.still := by
  unfold detach
  split
  · rfl
  · split
    · dsimp only; split
      · simp
      · split <;> simp
    · rfl

@[simp] theorem still_failRead (n : Node) (x : Sense) (s : State) : (failRead n x s).still = s.still := by simp [failRead]

@[simp] theorem still_allocateFor (n : Node) (i : Fin 16) (s : State) : (allocateFor n i s).still = s.still := by
  unfold allocateFor
  split
  · simp [still_demandAlloc ‹_›]
  · simp
  · simp

@[simp] theorem still_grantList (ws : List Waiter) (s : State) : (grantList ws s).still = s.still := by
  induction ws generalizing s with
  | nil => rfl
  | cons w ws ih => unfold grantList; split <;> simp [ih]

@[simp] theorem still_grantSlots (s : State) : (grantSlots s).still = s.still := by simp [grantSlots]

@[simp] theorem still_demandMiss (n : Node) (s : State) : (demandMiss n s).still = s.still := by
  unfold demandMiss; split
  · simp
  · split <;> simp

@[simp] theorem still_dropWaits (n : Node) (s : State) : (dropWaits n s).still = s.still := by
  unfold dropWaits; dsimp only; split <;> simp

@[simp] theorem still_leaveLists (n : Node) (s : State) : (leaveLists n s).still = s.still := by
  unfold leaveLists; split <;> simp

@[simp] theorem still_prefetchRun (n : Node) (u : Lun) (k j : Nat) (s : State) : (prefetchRun n u k j s).still = s.still := by
  induction k generalizing j s with
  | zero => rfl
  | succ k ih =>
    unfold prefetchRun
    dsimp only
    split
    · rfl
    · split
      · exact ih ..
      · split
        · rfl
        · split
          · rw [ih, still_createLine, still_prefetchAlloc ‹_›]
          · rfl

@[simp] theorem still_askLine (n : Node) (j : Nat) (s : State) : (askLine n j s).still = s.still := by
  unfold askLine
  dsimp only
  split <;> split <;> simp

@[simp] theorem still_freeSlotLine (i : Fin 16) (s : State) : (freeSlotLine i s).still = s.still := by simp [freeSlotLine]

@[simp] theorem still_fetchFails (i : Fin 16) (c : MediaCause) (x : Sense) (s : State) : (fetchFails i c x s).still = s.still := by
  unfold fetchFails
  split
  · simp
  · dsimp only
    split
    · split <;> simp
    · simp

@[simp] theorem still_fetchCompletes (i : Fin 16) (l : Line) (s : State) : (fetchCompletes i l s).still = s.still := by
  unfold fetchCompletes
  split
  · simp
  · dsimp only; split <;> simp

@[simp] theorem still_storeChunk (i : Fin 16) (k : Fin 8) (d : List Byte) (s : State) : (storeChunk i k d s).still = s.still := by
  unfold storeChunk
  dsimp only
  split
  · simp
  · split <;> simp

theorem still_foldl {α : Type} (f : State → α → State) (h : ∀ s a, (f s a).still = s.still) (l : List α) (s : State) :
    (l.foldl f s).still = s.still := by
  induction l generalizing s with
  | nil => rfl
  | cons a l ih => rw [List.foldl_cons, ih, h]

@[simp] theorem still_cacheEject (n : Node) (u : Lun) (s : State) : (cacheEject n u s).still = s.still := by
  unfold cacheEject
  dsimp only
  have h : ∀ l : List (Fin 16), (l.foldl (fun t i => (withdraw (.fetch i) t).setSlotUse i .free) s).still = s.still :=
    fun l => still_foldl _ (fun _ _ => by simp) l s
  split <;> simp [h]

@[simp] theorem still_doomLines (p : Line → Bool) (s : State) : (doomLines p s).still = s.still := by
  unfold doomLines
  dsimp only
  split <;> simp

@[simp] theorem still_cacheDropOp (n : Node) (u : Lun) (s : State) : (cacheDropOp n u s).still = s.still := by
  unfold cacheDropOp
  dsimp only
  split <;> split <;> simp

@[simp] theorem still_cacheOverlap (n : Node) (u : Lun) (a b : Nat) (s : State) : (cacheOverlap n u a b s).still = s.still := by
  simp [cacheOverlap]

@[simp] theorem still_requestStaging (n : Node) (s : State) : (requestStaging n s).2.still = s.still := by
  unfold requestStaging
  split
  · rfl
  · split
    · simp
    · split
      · simp [still_evictLine ‹_›]
      · dsimp only; split <;> simp

@[simp] theorem still_discardUnit (n : Node) (s : State) : (discardUnit n s).still = s.still := by
  unfold discardUnit; split <;> simp

@[simp] theorem still_endEntry (i : Fin 32) (s : State) : (endEntry i s).still = s.still := by simp [endEntry]

@[simp] theorem still_checkAwait (n : Node) (s : State) : (checkAwait n s).still = s.still := by
  unfold checkAwait; split <;> simp

@[simp] theorem still_failWrite (n : Node) (x : Sense) (s : State) : (failWrite n x s).still = s.still := by
  unfold failWrite
  dsimp only
  split
  · simp [still_foldl]
  · rfl

@[simp] theorem still_handOver (n : Node) (k : Nat) (d : List Byte) (s : State) : (handOver n k d s).still = s.still := by
  unfold handOver
  split
  · rfl
  · dsimp only; split <;> simp

/-! ## The command context -/

@[simp] theorem still_failForward (n : Node) (x : Sense) (s : State) : (failForward n x s).still = s.still := by
  unfold failForward
  dsimp only
  split
  · simp
  · split <;> simp

@[simp] theorem still_beginForward (n : Node) (s : State) : (beginForward n s).still = s.still := by
  unfold beginForward; dsimp only; split <;> simp

@[simp] theorem still_startForward (n : Node) (c : Command) (s : State) : (startForward n c s).still = s.still := by
  unfold startForward; split <;> simp

@[simp] theorem still_finishIn (n : Node) (s : State) : (finishIn n s).still = s.still := by
  unfold finishIn; dsimp only; split <;> simp

@[simp] theorem still_endForward (n : Node) (r : CmdResult) (d : List Byte) (s : State) : (endForward n r d s).still = s.still := by
  unfold endForward
  split
  · rfl
  · split
    · dsimp only; split <;> simp
    · simp

@[simp] theorem still_runEmpty (n : Node) (c : Command) (s : State) : (runEmpty n c s).still = s.still := by
  unfold runEmpty; split <;> simp

@[simp] theorem still_runComposed (n : Node) (d : List Byte) (s : State) : (runComposed n d s).still = s.still := by
  simp [runComposed]

@[simp] theorem still_runRead (n : Node) (c : Command) (s : State) : (runRead n c s).still = s.still := by simp [runRead]

@[simp] theorem still_runWrite (n : Node) (c : Command) (s : State) : (runWrite n c s).still = s.still := by simp [runWrite]

@[simp] theorem still_decideRead (n : Node) (c : Command) (s : State) : (decideRead n c s).still = s.still := by
  unfold decideRead; split <;> simp

@[simp] theorem still_decideWrite (n : Node) (c : Command) (s : State) : (decideWrite n c s).still = s.still := by
  unfold decideWrite
  split
  · simp
  · split
    · simp
    · split <;> simp

@[simp] theorem still_runExecuted (n : Node) (c : Command) (s : State) : (runExecuted n c s).still = s.still := by
  unfold runExecuted
  repeat' split
  all_goals simp [runRequestSense, runInquiry, runReadCapacity]

@[simp] theorem still_setHalt (n : Node) (e : Endpoint) (v : Bool) (s : State) : (setHalt n e v s).still = s.still := by
  cases e <;> simp [setHalt]

@[simp] theorem still_decideTransfer (n : Node) (c : Command) (s : State) : (decideTransfer n c s).still = s.still := by
  unfold decideTransfer
  dsimp only
  repeat' split
  all_goals simp

@[simp] theorem still_dispatch (n : Node) (c : Command) (s : State) : (dispatch n c s).still = s.still := by
  unfold dispatch
  dsimp only
  repeat' split
  all_goals simp

@[simp] theorem still_takeWrapper (n : Node) (d : List Byte) (s : State) : (takeWrapper n d s).still = s.still := by
  unfold takeWrapper; split <;> simp

@[simp] theorem still_letGo (n : Node) (s : State) : (letGo n s).still = s.still := by simp [letGo]

@[simp] theorem still_askForPacket (n : Node) (s : State) : (askForPacket n s).still = s.still := by
  unfold askForPacket
  dsimp only
  split
  · split <;> simp
  · rfl

@[simp] theorem still_delivered (n : Node) (k : Nat) (s : State) : (delivered n k s).still = s.still := by
  unfold delivered
  dsimp only
  repeat' split
  all_goals simp

@[simp] theorem still_handedBack (n : Node) (s : State) : (handedBack n s).still = s.still := by
  unfold handedBack; dsimp only; split <;> simp

@[simp] theorem still_endWriteData (n : Node) (s : State) : (endWriteData n s).still = s.still := by simp [endWriteData]

@[simp] theorem still_takeWriteData (n : Node) (d : List Byte) (s : State) : (takeWriteData n d s).2.still = s.still := by
  unfold takeWriteData
  dsimp only
  repeat' split
  all_goals simp_all

@[simp] theorem still_takeOut (n : Node) (d : List Byte) (s : State) : (takeOut n d s).2.still = s.still := by
  unfold takeOut
  dsimp only
  repeat' split
  all_goals simp

@[simp] theorem still_cancelEntries (n : Node) (s : State) : (cancelEntries n s).still = s.still := by simp [cancelEntries]

@[simp] theorem still_clearContext (n : Node) (s : State) : (clearContext n s).still = s.still := by simp [clearContext]

@[simp] theorem still_haltCleared (n : Node) (e : Endpoint) (s : State) : (haltCleared n e s).still = s.still := by
  unfold haltCleared; dsimp only; split <;> simp

@[simp] theorem still_ejectCommand (n : Node) (u : Lun) (s : State) : (ejectCommand n u s).still = s.still := by
  unfold ejectCommand
  dsimp only
  repeat' split
  all_goals simp

end Sys2Proof.Machine
end

