-- ==== Sys2Proof/Laws/Notes.lean ====
section
/-! SUPPORT. What an operation below the management link can do to the rest of the part: it moves no time, takes no command,
leaves the link's own state alone, puts nothing but admitted notices at the end of the outbound queue (R9), and keeps every
source record well formed (R189). `Notes` says so, and one lemma for each operation. -/

namespace Sys2Proof.Machine

open Sys2Proof

/-- The waiting commands, PORST, the timebase and the link's own state. -/
structure Calm where
  pending : List Instr
  porst : Bool
  timebase : Word32
  link : Link

/-- The part of a state that no operation below the link changes. -/
abbrev State.calm (s : State) : Calm := { pending := s.pending, porst := s.porst, timebase := s.timebase, link := s.link.still }

/-- The kinds of the notices the part queues while it runs (section 11.4). -/
def noticeKinds : List Byte := [0xE1, 0xE2, 0xE3, 0xE4, 0xE5]

/-- The number of EVENT_SUMMARY frames in the outbound queue (R9). -/
def State.summaries (s : State) : Nat := (s.link.queue.filter fun f => f.kind == 0xE5).length

/-- What comes of an operation below the link: admitted notices at the end of the queue, and well-formed source records. -/
structure Notes (s t : State) : Prop where
  calm : t.calm = s.calm
  queue : ∃ new : List Frame, t.link.queue = s.link.queue ++ new ∧ (∀ f ∈ new, f.kind ∈ noticeKinds) ∧
    (new ≠ [] → t.link.queue.length ≤ 31 ∧ s.link.online = .online ∧ s.link.held = false)
  summary : s.summaries ≤ 1 → t.summaries ≤ 1
  events : EventInv s → EventInv t

theorem Notes.refl (s : State) : Notes s s := ⟨rfl, ⟨[], by simp⟩, id, id⟩

theorem Notes.online {s t : State} (h : Notes s t) : t.link.online = s.link.online := congrArg (·.link.online) h.calm

theorem Notes.held {s t : State} (h : Notes s t) : t.link.held = s.link.held := congrArg (·.link.held) h.calm

theorem Notes.trans {s t u : State} (h : Notes s t) (k : Notes t u) : Notes s u := by
  refine ⟨k.calm.trans h.calm, ?_, fun x => k.summary (h.summary x), fun x => k.events (h.events x)⟩
  obtain ⟨a, ha, hk, hn⟩ := h.queue
  obtain ⟨b, hb, kk, kn⟩ := k.queue
  refine ⟨a ++ b, by rw [hb, ha, List.append_assoc], ?_, ?_⟩
  · intro f hf
    rcases List.mem_append.1 hf with hf | hf
    · exact hk f hf
    · exact kk f hf
  · intro hne
    by_cases e : b = []
    · subst e
      have : a ≠ [] := by simpa using hne
      rw [hb, List.append_nil]
      exact hn this
    · have := kn e
      rw [h.online, h.held] at this
      exact this

/-- A change that touches neither the queue, nor the events, nor what is calm. -/
theorem Notes.of_eq {s t u : State} (h : Notes s t) (hc : u.calm = t.calm) (hq : u.link.queue = t.link.queue)
    (he : u.events = t.events) : Notes s u :=
  h.trans ⟨hc, ⟨[], by simp [hq]⟩, by simp [State.summaries, hq], by simp [EventInv, he]⟩

/-! ## The updates -/

variable {s0 s : State}

@[simp] theorem notes_self : Notes s s := Notes.refl s

@[simp] theorem notes_updNode (h : Notes s0 s) (n : Node) (f : NodeState → NodeState) : Notes s0 (s.updNode n f) := h.of_eq rfl rfl rfl
@[simp] theorem notes_updRx (h : Notes s0 s) (n : Node) (f : Receiver → Receiver) : Notes s0 (s.updRx n f) := h.of_eq rfl rfl rfl
@[simp] theorem notes_updHist (h : Notes s0 s) (n : Node) (f : History → History) : Notes s0 (s.updHist n f) := h.of_eq rfl rfl rfl
@[simp] theorem notes_updTx (h : Notes s0 s) (n : Node) (f : Transmitter → Transmitter) : Notes s0 (s.updTx n f) := h.of_eq rfl rfl rfl
@[simp] theorem notes_updLines (h : Notes s0 s) (n : Node) (f : LineUnit → LineUnit) : Notes s0 (s.updLines n f) := h.of_eq rfl rfl rfl
@[simp] theorem notes_updExec (h : Notes s0 s) (n : Node) (f : Executor → Executor) : Notes s0 (s.updExec n f) := h.of_eq rfl rfl rfl
@[simp] theorem notes_updPort (h : Notes s0 s) (n : Node) (f : Port → Port) : Notes s0 (s.updPort n f) := h.of_eq rfl rfl rfl
@[simp] theorem notes_updCtx (h : Notes s0 s) (n : Node) (f : Context → Context) : Notes s0 (s.updCtx n f) := h.of_eq rfl rfl rfl
@[simp] theorem notes_updDrive (h : Notes s0 s) (n : Node) (u : Lun) (f : Drive → Drive) : Notes s0 (s.updDrive n u f) := h.of_eq rfl rfl rfl
@[simp] theorem notes_updOutput (h : Notes s0 s) (n : Node) (o : Output) (f : OutLine → OutLine) : Notes s0 (s.updOutput n o f) :=
  h.of_eq rfl rfl rfl
@[simp] theorem notes_updInput (h : Notes s0 s) (n : Node) (i : Input) (f : InLine → InLine) : Notes s0 (s.updInput n i f) :=
  h.of_eq rfl rfl rfl
@[simp] theorem notes_updRun (h : Notes s0 s) (n : Node) (f : Run → Run) : Notes s0 (s.updRun n f) := h.of_eq rfl rfl rfl
@[simp] theorem notes_updPattern (h : Notes s0 s) (n : Node) (i : Fin 8) (f : Pattern → Pattern) : Notes s0 (s.updPattern n i f) :=
  h.of_eq rfl rfl rfl
@[simp] theorem notes_updPool (h : Notes s0 s) (f : Pool → Pool) : Notes s0 (s.updPool f) := h.of_eq rfl rfl rfl
@[simp] theorem notes_updCache (h : Notes s0 s) (f : Cache → Cache) : Notes s0 (s.updCache f) := h.of_eq rfl rfl rfl
@[simp] theorem notes_updSlot (h : Notes s0 s) (i : Fin 16) (f : FetchSlot → FetchSlot) : Notes s0 (s.updSlot i f) := h.of_eq rfl rfl rfl
@[simp] theorem notes_updEntry (h : Notes s0 s) (i : Fin 32) (f : WriteEntry → WriteEntry) : Notes s0 (s.updEntry i f) :=
  h.of_eq rfl rfl rfl
@[simp] theorem notes_setSlotUse (h : Notes s0 s) (i : Fin 16) (v : SlotUse) : Notes s0 (s.setSlotUse i v) := h.of_eq rfl rfl rfl
@[simp] theorem notes_updArbiter (h : Notes s0 s) (f : Arbiter → Arbiter) : Notes s0 (s.updArbiter f) := h.of_eq rfl rfl rfl
@[simp] theorem notes_withdraw (h : Notes s0 s) (o : MediaOwner) : Notes s0 (withdraw o s) := h.of_eq rfl rfl rfl
@[simp] theorem notes_waiting (h : Notes s0 s) (f : Link → List MediaOwner) :
    Notes s0 (s.updLink fun l => { l with waiting := f l }) := h.of_eq rfl rfl rfl
@[simp] theorem notes_errors (h : Notes s0 s) (f : Link → LinkErrors) :
    Notes s0 (s.updLink fun l => { l with errors := f l }) := h.of_eq rfl rfl rfl
theorem notes_lastServed (h : Notes s0 s) (n : Node) : Notes s0 { s with lastServed := n } := h.of_eq rfl rfl rfl
@[simp] theorem notes_setAnswer (h : Notes s0 s) (n : Node) (a : UsbAnswer) : Notes s0 (setAnswer n a s) := h.of_eq rfl rfl rfl
@[simp] theorem notes_setControl (h : Notes s0 s) (n : Node) (c : Control) : Notes s0 (setControl n c s) := h.of_eq rfl rfl rfl
@[simp] theorem notes_clearDue (h : Notes s0 s) (t : Timer) : Notes s0 (s.clearDue t) := h.of_eq rfl rfl rfl

/-! ## Notices and events -/

/-- An admitted notice. -/
theorem notes_enqueueNotice (h : Notes s0 s) (k : Byte) (p : List Byte) (r : Nat) (hr : 2 ≤ r) (ha : s.admits r = true)
    (hk : k ∈ noticeKinds) (he : k = 0xE5 → s.summaries = 0) : Notes s0 (s.enqueueNotice k p) := by
  refine h.trans ⟨rfl, ⟨[{ kind := k, tag := s.link.noticeCount, payload := p }], rfl, by simpa using hk, ?_⟩, ?_, id⟩
  · intro _
    simp only [State.admits, State.freeEntries, Config.queueEntries, Bool.and_eq_true, decide_eq_true_eq, Bool.not_eq_true'] at ha
    refine ⟨?_, ha.1.1, ha.1.2⟩
    have hl : (s.enqueueNotice k p).link.queue.length = s.link.queue.length + 1 := by simp
    have hr' := of_decide_eq_true ha.2
    rw [hl]
    omega
  · intro hs
    have e : (s.enqueueNotice k p).summaries = s.summaries + (if k = 0xE5 then 1 else 0) := by
      simp only [State.summaries, enqueueNotice_link, List.filter_append, List.length_append]
      split <;> simp_all
    rw [e]
    split
    · rw [he ‹_›]
    · exact hs

/-- An admitted notice other than an EVENT_SUMMARY. -/
theorem notes_plain (h : Notes s0 s) (k : Byte) (p : List Byte) (r : Nat) (ha : s.admits r = true) (hr : 2 ≤ r)
    (hk : k ∈ noticeKinds ∧ k ≠ 0xE5) : Notes s0 (s.enqueueNotice k p) :=
  notes_enqueueNotice h k p r hr ha hk.1 fun e => absurd e hk.2

@[simp] theorem notes_offerSummary (h : Notes s0 s) : Notes s0 (offerSummary s) := by
  unfold offerSummary
  split
  · rename_i hc
    simp only [Bool.and_eq_true] at hc
    refine (notes_enqueueNotice h 0xE5 _ 2 (le_refl 2) hc.2 (by decide) fun _ => ?_).trans ⟨rfl, ⟨[], by simp⟩, id, id⟩
    simp only [State.summaries, List.length_eq_zero_iff, List.filter_eq_nil_iff]
    have := hc.1.2
    simp only [Bool.not_eq_true', List.any_eq_false] at this
    exact this
  · exact h

theorem eventInv_latched {r : EventRec} (now : Word32) (d : Nat) (h : r.level ≤ 3 ∧ r.count ≤ 255 ∧ (r.count = 0 ↔ r.firstTime = none)) :
    (r.latched now d).level ≤ 3 ∧ (r.latched now d).count ≤ 255 ∧ ((r.latched now d).count = 0 ↔ (r.latched now d).firstTime = none) := by
  obtain ⟨h1, h2, h3⟩ := h
  refine ⟨h1, by simp [EventRec.latched], ?_⟩
  simp only [EventRec.latched]
  constructor
  · omega
  · split
    · simp
    · intro e; exact absurd (h3.2 e) ‹_›

/-- Setting one record to a well-formed one keeps every record well formed. -/
theorem eventInv_set (src : Fin 52) (now : Word32) (d : Nat) (h : EventInv s) :
    ∀ r ∈ (s.events.recs.set src (s.events.recs[src].latched now d)).toList, r.level ≤ 3 ∧ r.count ≤ 255 ∧ (r.count = 0 ↔ r.firstTime = none) := by
  intro r hr
  rw [Vector.toList_set] at hr
  rcases List.mem_or_eq_of_mem_set hr with hr | hr
  · exact h r hr
  · subst hr
    exact eventInv_latched _ _ (h _ (by simp))

@[simp] theorem notes_latch (h : Notes s0 s) (src : Source) (d : Nat) : Notes s0 (latch src d s) := by
  unfold latch
  dsimp only
  split
  · exact h
  · split
    · exact notes_offerSummary (h.trans ⟨rfl, ⟨[], by simp⟩, id, fun k => eventInv_set _ _ _ k⟩)
    · exact h.trans ⟨rfl, ⟨[], by simp⟩, id, fun k => eventInv_set _ _ _ k⟩

@[simp] theorem notes_mediaError (h : Notes s0 s) (n : Node) (c : MediaCause) (l : Lun) : Notes s0 (mediaError n c l s) := by
  simp [mediaError, h]

@[simp] theorem notes_discardFrame (h : Notes s0 s) (c : LinkCause) : Notes s0 (discardFrame c s) :=
  by
  simp [discardFrame, h]

@[simp] theorem notes_portChange (h : Notes s0 s) (n : Node) (c : PortCause) : Notes s0 (portChange n c s) := by simp [portChange, h]

@[simp] theorem notes_pressureTrim (h : Notes s0 s) : Notes s0 (pressureTrim s) := by simp [pressureTrim, h]

@[simp] theorem notes_pressureWait (h : Notes s0 s) (n : Node) : Notes s0 (pressureWait n s) := by simp [pressureWait, h]

@[simp] theorem notes_pressureStage (h : Notes s0 s) (n : Node) : Notes s0 (pressureStage n s) := by simp [pressureStage, h]

@[simp] theorem notes_staleAnswer (h : Notes s0 s) (k : Byte) : Notes s0 (staleAnswer k s) := by simp [staleAnswer, h]

theorem notes_sendMedia (h : Notes s0 s) (o : MediaOwner) (ha : s.admits Config.mediaRoom = true) : Notes s0 (sendMedia o s) := by
  unfold sendMedia
  split
  · split
    · exact notes_updSlot (notes_plain h _ _ _ ha (by decide) (by decide)) ..
    · exact h
  · split
    · exact notes_updEntry (notes_plain h _ _ _ ha (by decide) (by decide)) ..
    · exact h
  · split
    · exact notes_updCtx (notes_plain h _ _ _ ha (by decide) (by decide)) ..
    · exact h

@[simp] theorem notes_offerMedia (h : Notes s0 s) (o : MediaOwner) : Notes s0 (offerMedia o s) := by
  unfold offerMedia
  split
  · rename_i hc
    rw [Bool.and_eq_true] at hc
    exact notes_sendMedia h o hc.2
  · simp [h]

@[simp] theorem notes_offerWaiting (os : List MediaOwner) (h : Notes s0 s) : Notes s0 (offerWaiting os s) := by
  induction os generalizing s with
  | nil => exact h
  | cons o os ih =>
    unfold offerWaiting
    split
    · exact ih (notes_sendMedia (notes_waiting h _) o ‹_›)
    · exact h

@[simp] theorem notes_streamOffer (h : Notes s0 s) : Notes s0 (streamOffer s) := by
  unfold streamOffer
  split
  · exact h
  · split
    · dsimp only
      exact notes_lastServed (notes_updHist (notes_plain h 0xE1 _ Config.streamRoom ‹_› (by decide) (by decide)) _ _) _
    · exact h

/-! ## Records and rings -/

@[simp] theorem notes_evictRecords (h : Notes s0 s) (n : Node) (p : List Rec) : Notes s0 (evictRecords n p s) := by
  unfold evictRecords
  split
  · exact h
  · dsimp only; split
    · split <;> simp (maxDischargeDepth := 40) [h]
    · simp (maxDischargeDepth := 40) [h]

@[simp] theorem notes_giveUpPage (h : Notes s0 s) (n : Node) : Notes s0 (giveUpPage n s) := by
  unfold giveUpPage
  dsimp only; split
  · simp (maxDischargeDepth := 40) [h]
  · split <;> simp (maxDischargeDepth := 40) [h]

@[simp] theorem notes_obtainPage (h : Notes s0 s) (n : Node) : Notes s0 (obtainPage n s) := by
  unfold obtainPage
  dsimp only; split
  · simp (maxDischargeDepth := 40) [h]
  · split
    · simp (maxDischargeDepth := 40) [h]
    · split <;> simp (maxDischargeDepth := 40) [h]

@[simp] theorem notes_appendRec (h : Notes s0 s) (n : Node) (ts : Word32) (b : RecBody) : Notes s0 (appendRec n ts b s) := by
  unfold appendRec
  dsimp only
  split <;> simp (maxDischargeDepth := 40) [h]

@[simp] theorem notes_closeOpen (h : Notes s0 s) (n : Node) (f : RecFlags) : Notes s0 (closeOpen n f s) := by
  unfold closeOpen
  split <;> simp (maxDischargeDepth := 40) [h]

@[simp] theorem notes_appendMarker (h : Notes s0 s) (n : Node) (c d : Nat) : Notes s0 (appendMarker n c d s) := by
  simp (maxDischargeDepth := 40) [appendMarker, h]

/-! ## Commands, pages and the cache -/

@[simp] theorem notes_enterStatus (h : Notes s0 s) (n : Node) : Notes s0 (enterStatus n s) := by
  unfold enterStatus
  try dsimp only
  repeat' split
  all_goals simp (maxDischargeDepth := 40) [h]

@[simp] theorem notes_closeFailed (h : Notes s0 s) (n : Node) : Notes s0 (closeFailed n s) := by
  unfold closeFailed
  try dsimp only
  repeat' split
  all_goals simp (maxDischargeDepth := 40) [h]

@[simp] theorem notes_closeAtStart (h : Notes s0 s) (n : Node) (c : Command) : Notes s0 (closeAtStart n c s) := by
  unfold closeAtStart
  try dsimp only
  repeat' split
  all_goals simp (maxDischargeDepth := 40) [h]

@[simp] theorem notes_refuseAtStart (h : Notes s0 s) (n : Node) (c : Command) (x : Sense) : Notes s0 (refuseAtStart n c x s) := by
  simp (maxDischargeDepth := 40) [refuseAtStart, h]

@[simp] theorem notes_readFails (h : Notes s0 s) (n : Node) (x : Sense) : Notes s0 (readFails n x s) := by
  unfold readFails
  try dsimp only
  repeat' split
  all_goals simp (maxDischargeDepth := 40) [h]

theorem notes_evictLine (h : Notes s0 s) {t : State} (e : evictLine s = some t) : Notes s0 t := by
  unfold evictLine at e
  split at e
  · cases e; simp [h]
  · cases e

@[simp] theorem notes_trimPages (k : Nat) (h : Notes s0 s) : Notes s0 (trimPages k s) := by
  induction k generalizing s with
  | zero => exact h
  | succ k ih => exact ih (notes_giveUpPage h _)

theorem notes_demandAlloc (h : Notes s0 s) {t : State} (e : demandAlloc s = .got t) : Notes s0 t := by
  unfold demandAlloc at e
  split at e
  · cases e; simp [h]
  · split at e
    · cases e; exact notes_evictLine h ‹_›
    · split at e
      · cases e; exact notes_pressureTrim (notes_trimPages _ (notes_updPool h _))
      · split at e <;> cases e

theorem notes_prefetchAlloc (h : Notes s0 s) {t : State} (e : prefetchAlloc s = some t) : Notes s0 t := by
  unfold prefetchAlloc at e
  split at e
  · cases e; simp [h]
  · exact notes_evictLine h e

@[simp] theorem notes_createLine (h : Notes s0 s) (n : Node) (u : Lun) (j p : Nat) (i : Fin 16) : Notes s0 (createLine n u j p i s) := by
  simp (maxDischargeDepth := 40) [createLine, h]

@[simp] theorem notes_attachNew (h : Notes s0 s) (n : Node) (i : Fin 16) : Notes s0 (attachNew n i s) := by
  simp (maxDischargeDepth := 40) [attachNew, h]

@[simp] theorem notes_grantPages (h : Notes s0 s) (n : Node) : Notes s0 (grantPages n s) := by
  unfold grantPages
  try dsimp only
  repeat' split
  all_goals simp (maxDischargeDepth := 40) [h]

@[simp] theorem notes_retryList (ws : List Waiter) (h : Notes s0 s) : Notes s0 (retryList ws s) := by
  induction ws generalizing s with
  | nil => exact h
  | cons w ws ih =>
    unfold retryList
    split
    · exact ih (notes_grantPages (notes_updPool (notes_demandAlloc h ‹_›) _) _)
    · exact h

@[simp] theorem notes_retryWaiting (h : Notes s0 s)  : Notes s0 (retryWaiting s) := by
  simp (maxDischargeDepth := 40) [retryWaiting, h]

@[simp] theorem notes_pagesJoin (h : Notes s0 s) (k : Nat) : Notes s0 (pagesJoin k s) := by
  simp (maxDischargeDepth := 40) [pagesJoin, h]

@[simp] theorem notes_detach (h : Notes s0 s) (n : Node) : Notes s0 (detach n s) := by
  unfold detach
  try dsimp only
  repeat' split
  all_goals simp (maxDischargeDepth := 40) [h]

@[simp] theorem notes_failRead (h : Notes s0 s) (n : Node) (x : Sense) : Notes s0 (failRead n x s) := by
  simp (maxDischargeDepth := 40) [failRead, h]

@[simp] theorem notes_allocateFor (h : Notes s0 s) (n : Node) (i : Fin 16) : Notes s0 (allocateFor n i s) := by
  unfold allocateFor
  split
  · exact notes_attachNew (notes_demandAlloc h ‹_›) ..
  · simp (maxDischargeDepth := 40) [h]
  · simp (maxDischargeDepth := 40) [h]

@[simp] theorem notes_grantList (ws : List Waiter) (h : Notes s0 s) : Notes s0 (grantList ws s) := by
  induction ws generalizing s with
  | nil => exact h
  | cons w ws ih =>
    unfold grantList
    split
    · exact h
    · apply ih; simp (maxDischargeDepth := 40) [h]

@[simp] theorem notes_grantSlots (h : Notes s0 s)  : Notes s0 (grantSlots s) := by
  simp (maxDischargeDepth := 40) [grantSlots, h]

@[simp] theorem notes_demandMiss (h : Notes s0 s) (n : Node) : Notes s0 (demandMiss n s) := by
  unfold demandMiss
  try dsimp only
  repeat' split
  all_goals simp (maxDischargeDepth := 40) [h]

@[simp] theorem notes_dropWaits (h : Notes s0 s) (n : Node) : Notes s0 (dropWaits n s) := by
  unfold dropWaits
  try dsimp only
  repeat' split
  all_goals simp (maxDischargeDepth := 40) [h]

@[simp] theorem notes_leaveLists (h : Notes s0 s) (n : Node) : Notes s0 (leaveLists n s) := by
  unfold leaveLists
  try dsimp only
  repeat' split
  all_goals simp (maxDischargeDepth := 40) [h]

@[simp] theorem notes_prefetchRun (n : Node) (u : Lun) (k j : Nat) (h : Notes s0 s) : Notes s0 (prefetchRun n u k j s) := by
  induction k generalizing j s with
  | zero => exact h
  | succ k ih =>
    unfold prefetchRun
    dsimp only
    split
    · exact h
    · split
      · exact ih _ h
      · split
        · exact h
        · split
          · exact ih _ (notes_createLine (notes_prefetchAlloc h ‹_›) ..)
          · exact h

@[simp] theorem notes_askLine (h : Notes s0 s) (n : Node) (j : Nat) : Notes s0 (askLine n j s) := by
  unfold askLine
  try dsimp only
  repeat' split
  all_goals simp (maxDischargeDepth := 40) [h]

@[simp] theorem notes_freeSlotLine (h : Notes s0 s) (i : Fin 16) : Notes s0 (freeSlotLine i s) := by
  simp (maxDischargeDepth := 40) [freeSlotLine, h]

@[simp] theorem notes_fetchFails (h : Notes s0 s) (i : Fin 16) (c : MediaCause) (x : Sense) : Notes s0 (fetchFails i c x s) := by
  unfold fetchFails
  try dsimp only
  repeat' split
  all_goals simp (maxDischargeDepth := 40) [h]

@[simp] theorem notes_fetchCompletes (h : Notes s0 s) (i : Fin 16) (l : Line) : Notes s0 (fetchCompletes i l s) := by
  unfold fetchCompletes
  try dsimp only
  repeat' split
  all_goals simp (maxDischargeDepth := 40) [h]

@[simp] theorem notes_storeChunk (h : Notes s0 s) (i : Fin 16) (k : Fin 8) (d : List Byte) : Notes s0 (storeChunk i k d s) := by
  unfold storeChunk
  try dsimp only
  repeat' split
  all_goals simp (maxDischargeDepth := 40) [h]

theorem notes_foldl {α : Type} (f : State → α → State) (hf : ∀ t a, Notes s0 t → Notes s0 (f t a)) (l : List α) (h : Notes s0 s) :
    Notes s0 (l.foldl f s) := by
  induction l generalizing s with
  | nil => exact h
  | cons a l ih => exact ih (hf _ _ h)

@[simp] theorem notes_cacheEject (h : Notes s0 s) (n : Node) (u : Lun) : Notes s0 (cacheEject n u s) := by
  have k : ∀ l : List (Fin 16), Notes s0 (l.foldl (fun t i => (withdraw (.fetch i) t).setSlotUse i .free) s) :=
    fun l => notes_foldl _ (fun t a ht => by simp (maxDischargeDepth := 40) [ht]) l h
  unfold cacheEject
  dsimp only
  split <;> simp (maxDischargeDepth := 40) [k]

@[simp] theorem notes_doomLines (h : Notes s0 s) (p : Line → Bool) : Notes s0 (doomLines p s) := by
  unfold doomLines
  try dsimp only
  repeat' split
  all_goals simp (maxDischargeDepth := 40) [h]

@[simp] theorem notes_cacheDropOp (h : Notes s0 s) (n : Node) (u : Lun) : Notes s0 (cacheDropOp n u s) := by
  unfold cacheDropOp
  try dsimp only
  repeat' split
  all_goals simp (maxDischargeDepth := 40) [h]

@[simp] theorem notes_cacheOverlap (h : Notes s0 s) (n : Node) (u : Lun) (a b : Nat) : Notes s0 (cacheOverlap n u a b s) := by
  simp (maxDischargeDepth := 40) [cacheOverlap, h]

@[simp] theorem notes_requestStaging (h : Notes s0 s) (n : Node) : Notes s0 (requestStaging n s).2 := by
  unfold requestStaging
  split
  · exact h
  · split
    · simp (maxDischargeDepth := 40) [h]
    · split
      · exact notes_pagesJoin (notes_updPort (notes_evictLine h ‹_›) _ _) _
      · dsimp only; split <;> simp (maxDischargeDepth := 40) [h]

@[simp] theorem notes_discardUnit (h : Notes s0 s) (n : Node) : Notes s0 (discardUnit n s) := by
  unfold discardUnit
  try dsimp only
  repeat' split
  all_goals simp (maxDischargeDepth := 40) [h]

@[simp] theorem notes_endEntry (h : Notes s0 s) (i : Fin 32) : Notes s0 (endEntry i s) := by
  simp (maxDischargeDepth := 40) [endEntry, h]

@[simp] theorem notes_checkAwait (h : Notes s0 s) (n : Node) : Notes s0 (checkAwait n s) := by
  unfold checkAwait
  try dsimp only
  repeat' split
  all_goals simp (maxDischargeDepth := 40) [h]

@[simp] theorem notes_failWrite (h : Notes s0 s) (n : Node) (x : Sense) : Notes s0 (failWrite n x s) := by
  unfold failWrite
  dsimp only
  split
  · refine notes_checkAwait (notes_discardUnit (notes_foldl _ (fun t a ht => by simp [ht]) _ ?_) _) _
    simp [h]
  · exact h

@[simp] theorem notes_handOver (h : Notes s0 s) (n : Node) (k : Nat) (d : List Byte) : Notes s0 (handOver n k d s) := by
  unfold handOver
  try dsimp only
  repeat' split
  all_goals simp (maxDischargeDepth := 40) [h]

/-! ## The command context -/

@[simp] theorem notes_failForward (h : Notes s0 s) (n : Node) (x : Sense) : Notes s0 (failForward n x s) := by
  unfold failForward
  try dsimp only
  repeat' split
  all_goals simp (maxDischargeDepth := 40) [h]

@[simp] theorem notes_beginForward (h : Notes s0 s) (n : Node) : Notes s0 (beginForward n s) := by
  unfold beginForward
  try dsimp only
  repeat' split
  all_goals simp (maxDischargeDepth := 40) [h]

@[simp] theorem notes_startForward (h : Notes s0 s) (n : Node) (c : Command) : Notes s0 (startForward n c s) := by
  unfold startForward
  try dsimp only
  repeat' split
  all_goals simp (maxDischargeDepth := 40) [h]

@[simp] theorem notes_finishIn (h : Notes s0 s) (n : Node) : Notes s0 (finishIn n s) := by
  unfold finishIn
  try dsimp only
  repeat' split
  all_goals simp (maxDischargeDepth := 40) [h]

@[simp] theorem notes_endForward (h : Notes s0 s) (n : Node) (r : CmdResult) (d : List Byte) : Notes s0 (endForward n r d s) := by
  unfold endForward
  try dsimp only
  repeat' split
  all_goals simp (maxDischargeDepth := 40) [h]

@[simp] theorem notes_runEmpty (h : Notes s0 s) (n : Node) (c : Command) : Notes s0 (runEmpty n c s) := by
  unfold runEmpty
  try dsimp only
  repeat' split
  all_goals simp (maxDischargeDepth := 40) [h]

@[simp] theorem notes_runComposed (h : Notes s0 s) (n : Node) (d : List Byte) : Notes s0 (runComposed n d s) := by
  simp (maxDischargeDepth := 40) [runComposed, h]

@[simp] theorem notes_runRequestSense (h : Notes s0 s) (n : Node) (c : Command) : Notes s0 (runRequestSense n c s) := by
  simp (maxDischargeDepth := 40) [runRequestSense, h]

@[simp] theorem notes_runInquiry (h : Notes s0 s) (n : Node) (c : Command) : Notes s0 (runInquiry n c s) := by
  simp (maxDischargeDepth := 40) [runInquiry, h]

@[simp] theorem notes_runReadCapacity (h : Notes s0 s) (n : Node) (c : Command) : Notes s0 (runReadCapacity n c s) := by
  simp (maxDischargeDepth := 40) [runReadCapacity, h]

@[simp] theorem notes_runRead (h : Notes s0 s) (n : Node) (c : Command) : Notes s0 (runRead n c s) := by
  unfold runRead
  try dsimp only
  repeat' split
  all_goals simp (maxDischargeDepth := 40) [h]

@[simp] theorem notes_runWrite (h : Notes s0 s) (n : Node) (c : Command) : Notes s0 (runWrite n c s) := by
  simp (maxDischargeDepth := 40) [runWrite, h]

@[simp] theorem notes_decideRead (h : Notes s0 s) (n : Node) (c : Command) : Notes s0 (decideRead n c s) := by
  unfold decideRead
  try dsimp only
  repeat' split
  all_goals simp (maxDischargeDepth := 40) [h]

@[simp] theorem notes_decideWrite (h : Notes s0 s) (n : Node) (c : Command) : Notes s0 (decideWrite n c s) := by
  unfold decideWrite
  try dsimp only
  repeat' split
  all_goals simp (maxDischargeDepth := 40) [h]

@[simp] theorem notes_runExecuted (h : Notes s0 s) (n : Node) (c : Command) : Notes s0 (runExecuted n c s) := by
  unfold runExecuted
  try dsimp only
  repeat' split
  all_goals simp (maxDischargeDepth := 40) [h]

@[simp] theorem notes_setHalt (h : Notes s0 s) (n : Node) (e : Endpoint) (v : Bool) : Notes s0 (setHalt n e v s) := by
  unfold setHalt
  try dsimp only
  repeat' split
  all_goals simp (maxDischargeDepth := 40) [h]

@[simp] theorem notes_decideTransfer (h : Notes s0 s) (n : Node) (c : Command) : Notes s0 (decideTransfer n c s) := by
  unfold decideTransfer
  try dsimp only
  repeat' split
  all_goals simp (maxDischargeDepth := 40) [h]

@[simp] theorem notes_dispatch (h : Notes s0 s) (n : Node) (c : Command) : Notes s0 (dispatch n c s) := by
  unfold dispatch
  try dsimp only
  repeat' split
  all_goals simp (maxDischargeDepth := 40) [h]

@[simp] theorem notes_takeWrapper (h : Notes s0 s) (n : Node) (d : List Byte) : Notes s0 (takeWrapper n d s) := by
  unfold takeWrapper
  try dsimp only
  repeat' split
  all_goals simp (maxDischargeDepth := 40) [h]

@[simp] theorem notes_letGo (h : Notes s0 s) (n : Node) : Notes s0 (letGo n s) := by
  simp (maxDischargeDepth := 40) [letGo, h]

@[simp] theorem notes_askForPacket (h : Notes s0 s) (n : Node) : Notes s0 (askForPacket n s) := by
  unfold askForPacket
  try dsimp only
  repeat' split
  all_goals simp (maxDischargeDepth := 40) [h]

@[simp] theorem notes_delivered (h : Notes s0 s) (n : Node) (k : Nat) : Notes s0 (delivered n k s) := by
  unfold delivered
  try dsimp only
  repeat' split
  all_goals simp (maxDischargeDepth := 40) [h]

@[simp] theorem notes_handedBack (h : Notes s0 s) (n : Node) : Notes s0 (handedBack n s) := by
  unfold handedBack
  try dsimp only
  repeat' split
  all_goals simp (maxDischargeDepth := 40) [h]

@[simp] theorem notes_endWriteData (h : Notes s0 s) (n : Node) : Notes s0 (endWriteData n s) := by
  simp (maxDischargeDepth := 40) [endWriteData, h]

@[simp] theorem notes_takeWriteData (h : Notes s0 s) (n : Node) (d : List Byte) : Notes s0 (takeWriteData n d s).2 := by
  unfold takeWriteData
  dsimp only
  repeat' split
  all_goals simp (maxDischargeDepth := 40) [h]

@[simp] theorem notes_takeOut (h : Notes s0 s) (n : Node) (d : List Byte) : Notes s0 (takeOut n d s).2 := by
  unfold takeOut
  dsimp only
  repeat' split
  all_goals simp (maxDischargeDepth := 40) [h]

@[simp] theorem notes_cancelEntries (h : Notes s0 s) (n : Node) : Notes s0 (cancelEntries n s) := by
  simp (maxDischargeDepth := 40) [cancelEntries, h]

@[simp] theorem notes_clearContext (h : Notes s0 s) (n : Node) : Notes s0 (clearContext n s) := by
  simp (maxDischargeDepth := 40) [clearContext, h]

@[simp] theorem notes_haltCleared (h : Notes s0 s) (n : Node) (e : Endpoint) : Notes s0 (haltCleared n e s) := by
  unfold haltCleared
  try dsimp only
  repeat' split
  all_goals simp (maxDischargeDepth := 40) [h]

@[simp] theorem notes_ejectCommand (h : Notes s0 s) (n : Node) (u : Lun) : Notes s0 (ejectCommand n u s) := by
  unfold ejectCommand
  try dsimp only
  repeat' split
  all_goals simp (maxDischargeDepth := 40) [h]

end Sys2Proof.Machine
end

