-- ==== Sys2Proof/Laws/NotesBlocks.lean ====
section
/-! SUPPORT. `Notes` for the operations of the ports, the drives, the transmitters, the lines, the executor and the receivers,
and for the expiries and the host's answers: none of them moves time, takes a command, changes the link's own state, or
queues anything but admitted notices. -/

namespace Sys2Proof.Machine

open Sys2Proof

variable {s0 s : State}

/-! ## The port -/

@[simp] theorem notes_attach (h : Notes s0 s) (n : Node) : Notes s0 (attach n s) := by
  simp (maxDischargeDepth := 60) [attach, h]

@[simp] theorem notes_startConnect (h : Notes s0 s) (n : Node) : Notes s0 (startConnect n s) := by
  unfold startConnect
  try dsimp only
  repeat' split
  all_goals simp (maxDischargeDepth := 60) [h]

@[simp] theorem notes_disconnect (h : Notes s0 s) (n : Node) : Notes s0 (disconnect n s) := by
  simp (maxDischargeDepth := 60) [disconnect, h]

@[simp] theorem notes_connectTest (h : Notes s0 s) (n : Node) : Notes s0 (connectTest n s) := by
  unfold connectTest
  try dsimp only
  repeat' split
  all_goals simp (maxDischargeDepth := 60) [h]

@[simp] theorem notes_connectExpires (h : Notes s0 s) (n : Node) : Notes s0 (connectExpires n s) := by
  simp (maxDischargeDepth := 60) [connectExpires, h]

@[simp] theorem notes_busResetOp (h : Notes s0 s) (n : Node) (a : Bool) : Notes s0 (busResetOp n a s) := by
  unfold busResetOp
  try dsimp only
  repeat' split
  all_goals simp (maxDischargeDepth := 60) [h]

@[simp] theorem notes_suspendExpires (h : Notes s0 s) (n : Node) : Notes s0 (suspendExpires n s) := by
  simp (maxDischargeDepth := 60) [suspendExpires, h]

@[simp] theorem notes_busActivityOp (h : Notes s0 s) (n : Node) : Notes s0 (busActivityOp n s) := by
  unfold busActivityOp
  try dsimp only
  repeat' split
  all_goals simp (maxDischargeDepth := 60) [h]

theorem notes_onPacket (h : Notes s0 s) (n : Node) (a : BitVec 7) (f : State → State) (hf : ∀ t, Notes s0 t → Notes s0 (f t)) :
    Notes s0 (onPacket n a f s) := by
  unfold onPacket
  dsimp only
  split
  · split
    · apply hf; simp (maxDischargeDepth := 60) [h]
    · simp (maxDischargeDepth := 60) [h]
  · exact h

@[simp] theorem notes_answerBulkIn (h : Notes s0 s) (n : Node) : Notes s0 (answerBulkIn n s) := by
  unfold answerBulkIn
  try dsimp only
  repeat' split
  all_goals simp (maxDischargeDepth := 60) [h]

@[simp] theorem notes_ackBulkIn (h : Notes s0 s) (n : Node) : Notes s0 (ackBulkIn n s) := by
  unfold ackBulkIn
  try dsimp only
  repeat' split
  all_goals simp (maxDischargeDepth := 60) [h]

@[simp] theorem notes_answerBulkOut (h : Notes s0 s) (n : Node) (b : Bool) (d : List Byte) : Notes s0 (answerBulkOut n b d s) := by
  unfold answerBulkOut
  try dsimp only
  repeat' split
  all_goals simp (maxDischargeDepth := 60) [h]

@[simp] theorem notes_bulkOutOp (h : Notes s0 s) (n : Node) (a : BitVec 7) (b : Bool) (d : List Byte) :
    Notes s0 (bulkOutOp n a b d s) := notes_onPacket h _ _ _ fun _ k => notes_answerBulkOut k ..

@[simp] theorem notes_answerPing (h : Notes s0 s) (n : Node) : Notes s0 (answerPing n s) := by
  unfold answerPing
  try dsimp only
  repeat' split
  all_goals simp (maxDischargeDepth := 60) [h]

theorem notes_onSetup (h : Notes s0 s) (n : Node) (a : BitVec 7) (f : State → State) (hf : ∀ t, Notes s0 t → Notes s0 (f t)) :
    Notes s0 (onSetup n a f s) := notes_onPacket h _ _ _ fun t k => hf _ (by simp (maxDischargeDepth := 60) [k])

@[simp] theorem notes_stallRequest (h : Notes s0 s) (n : Node) (x : Setup) : Notes s0 (stallRequest n x s) := by
  simp (maxDischargeDepth := 60) [stallRequest, h]

@[simp] theorem notes_answerRequest (h : Notes s0 s) (n : Node) (x : Setup) (b : List Byte) : Notes s0 (answerRequest n x b s) := by
  simp (maxDischargeDepth := 60) [answerRequest, h]

@[simp] theorem notes_configure (h : Notes s0 s) (n : Node) : Notes s0 (configure n s) := by
  simp (maxDischargeDepth := 60) [configure, h]

@[simp] theorem notes_unconfigure (h : Notes s0 s) (n : Node) : Notes s0 (unconfigure n s) := by
  simp (maxDischargeDepth := 60) [unconfigure, h]

@[simp] theorem notes_clearHalt (h : Notes s0 s) (n : Node) (e : Endpoint) : Notes s0 (clearHalt n e s) := by
  unfold clearHalt
  try dsimp only
  repeat' split
  all_goals simp (maxDischargeDepth := 60) [h]

@[simp] theorem notes_decideGetDescriptor (h : Notes s0 s) (n : Node) (x : Setup) : Notes s0 (decideGetDescriptor n x s) := by
  unfold decideGetDescriptor
  try dsimp only
  repeat' split
  all_goals simp (maxDischargeDepth := 60) [h]

@[simp] theorem notes_decideSetAddress (h : Notes s0 s) (n : Node) (x : Setup) : Notes s0 (decideSetAddress n x s) := by
  unfold decideSetAddress
  try dsimp only
  repeat' split
  all_goals simp (maxDischargeDepth := 60) [h]

@[simp] theorem notes_decideSetConfiguration (h : Notes s0 s) (n : Node) (x : Setup) : Notes s0 (decideSetConfiguration n x s) := by
  unfold decideSetConfiguration
  try dsimp only
  repeat' split
  all_goals simp (maxDischargeDepth := 60) [h]

@[simp] theorem notes_decideGetConfiguration (h : Notes s0 s) (n : Node) (x : Setup) : Notes s0 (decideGetConfiguration n x s) := by
  unfold decideGetConfiguration
  try dsimp only
  repeat' split
  all_goals simp (maxDischargeDepth := 60) [h]

@[simp] theorem notes_decideGetStatus (h : Notes s0 s) (n : Node) (x : Setup) : Notes s0 (decideGetStatus n x s) := by
  unfold decideGetStatus
  try dsimp only
  repeat' split
  all_goals simp (maxDischargeDepth := 60) [h]

@[simp] theorem notes_decideSetFeature (h : Notes s0 s) (n : Node) (x : Setup) : Notes s0 (decideSetFeature n x s) := by
  unfold decideSetFeature
  try dsimp only
  repeat' split
  all_goals simp (maxDischargeDepth := 60) [h]

@[simp] theorem notes_decideClearFeature (h : Notes s0 s) (n : Node) (x : Setup) : Notes s0 (decideClearFeature n x s) := by
  unfold decideClearFeature
  try dsimp only
  repeat' split
  all_goals simp (maxDischargeDepth := 60) [h]

@[simp] theorem notes_decideBulkReset (h : Notes s0 s) (n : Node) (x : Setup) : Notes s0 (decideBulkReset n x s) := by
  unfold decideBulkReset
  try dsimp only
  repeat' split
  all_goals simp (maxDischargeDepth := 60) [h]

@[simp] theorem notes_decideGetMaxLun (h : Notes s0 s) (n : Node) (x : Setup) : Notes s0 (decideGetMaxLun n x s) := by
  unfold decideGetMaxLun
  try dsimp only
  repeat' split
  all_goals simp (maxDischargeDepth := 60) [h]

@[simp] theorem notes_answerControlIn (h : Notes s0 s) (n : Node) : Notes s0 (answerControlIn n s) := by
  unfold answerControlIn
  try dsimp only
  repeat' split
  all_goals simp (maxDischargeDepth := 60) [h]

@[simp] theorem notes_ackControlIn (h : Notes s0 s) (n : Node) : Notes s0 (ackControlIn n s) := by
  unfold ackControlIn
  try dsimp only
  repeat' split
  all_goals simp (maxDischargeDepth := 60) [h]

@[simp] theorem notes_answerControlOut (h : Notes s0 s) (n : Node) : Notes s0 (answerControlOut n s) := by
  unfold answerControlOut
  try dsimp only
  repeat' split
  all_goals simp (maxDischargeDepth := 60) [h]

/-! ## Drives, the transmitter and the lines -/

@[simp] theorem notes_ejectSteps (h : Notes s0 s) (n : Node) (l : Lun) : Notes s0 (ejectSteps n l s) := by
  simp (maxDischargeDepth := 60) [ejectSteps, h]

@[simp] theorem notes_ejectOp (h : Notes s0 s) (n : Node) (l : Lun) : Notes s0 (ejectOp n l s) := by
  unfold ejectOp
  try dsimp only
  repeat' split
  all_goals simp (maxDischargeDepth := 60) [h]

@[simp] theorem notes_insertOp (h : Notes s0 s) (n : Node) (l : Lun) (i : Image) : Notes s0 (insertOp n l i s) := by
  unfold insertOp
  try dsimp only
  repeat' split
  all_goals simp (maxDischargeDepth := 60) [h]

@[simp] theorem notes_appendItems (h : Notes s0 s) (n : Node) (x : List TxItem) : Notes s0 (appendItems n x s) := by
  simp (maxDischargeDepth := 60) [appendItems, h]

@[simp] theorem notes_takeHead (h : Notes s0 s) (n : Node) : Notes s0 (takeHead n s) := by
  simp (maxDischargeDepth := 60) [takeHead, h]

@[simp] theorem notes_byteEnds (h : Notes s0 s) (n : Node) : Notes s0 (byteEnds n s) := by
  unfold byteEnds
  try dsimp only
  repeat' split
  all_goals simp (maxDischargeDepth := 60) [h]

@[simp] theorem notes_breakEnds (h : Notes s0 s) (n : Node) (k : Nat) : Notes s0 (breakEnds n k s) := by
  simp (maxDischargeDepth := 60) [breakEnds, h]

@[simp] theorem notes_breakExpires (h : Notes s0 s) (n : Node) : Notes s0 (breakExpires n s) := by
  unfold breakExpires
  try dsimp only
  repeat' split
  all_goals simp (maxDischargeDepth := 60) [h]

@[simp] theorem notes_flushItems (h : Notes s0 s) (n : Node) : Notes s0 (flushItems n s) := by
  unfold flushItems
  try dsimp only
  repeat' split
  all_goals simp (maxDischargeDepth := 60) [h]

@[simp] theorem notes_viewMarker (h : Notes s0 s) (n : Node) (a b : View) : Notes s0 (viewMarker n a b s) := by
  unfold viewMarker
  try dsimp only
  repeat' split
  all_goals simp (maxDischargeDepth := 60) [h]

@[simp] theorem notes_goDark (h : Notes s0 s) (n : Node) : Notes s0 (goDark n s) := by
  simp (maxDischargeDepth := 60) [goDark, h]

@[simp] theorem notes_deliverView (h : Notes s0 s) (n : Node) (a b : View) : Notes s0 (deliverView n a b s) := by
  unfold deliverView
  try dsimp only
  repeat' split
  all_goals simp (maxDischargeDepth := 60) [h]

@[simp] theorem notes_recomputeView (h : Notes s0 s) (n : Node) : Notes s0 (recomputeView n s) := by
  unfold recomputeView
  try dsimp only
  repeat' split
  all_goals simp (maxDischargeDepth := 60) [h]

@[simp] theorem notes_cutChanged (h : Notes s0 s) (n : Node) (b : Bool) : Notes s0 (cutChanged n b s) := by
  unfold cutChanged
  try dsimp only
  repeat' split
  all_goals simp (maxDischargeDepth := 60) [h]

@[simp] theorem notes_driveLine (h : Notes s0 s) (n : Node) (o : Output) (b : Bool) (p : Option Pulse) : Notes s0 (driveLine n o b p s) := by
  unfold driveLine
  try dsimp only
  repeat' split
  all_goals simp (maxDischargeDepth := 60) [h]

@[simp] theorem notes_setLine (h : Notes s0 s) (n : Node) (o : Output) (b : Bool) : Notes s0 (setLine n o b s) := by
  simp (maxDischargeDepth := 60) [setLine, h]

@[simp] theorem notes_pulseLine (h : Notes s0 s) (n : Node) (o : Output) (x : PulseSource) (k : Nat) : Notes s0 (pulseLine n o x k s) := by
  simp (maxDischargeDepth := 60) [pulseLine, h]

@[simp] theorem notes_releaseLine (h : Notes s0 s) (n : Node) (o : Output) : Notes s0 (releaseLine n o s) := by
  simp (maxDischargeDepth := 60) [releaseLine, h]

@[simp] theorem notes_cutSettleExpires (h : Notes s0 s) (n : Node) : Notes s0 (cutSettleExpires n s) := by
  unfold cutSettleExpires
  try dsimp only
  repeat' split
  all_goals simp (maxDischargeDepth := 60) [h]

/-! ## The executor -/

@[simp] theorem notes_enterState (h : Notes s0 s) (n : Node) (x : ExecState) : Notes s0 (enterState n x s) := by
  simp (maxDischargeDepth := 60) [enterState, h]

@[simp] theorem notes_touch (h : Notes s0 s) (n : Node) (o : Output) : Notes s0 (touch n o s) := by
  simp (maxDischargeDepth := 60) [touch, h]

@[simp] theorem notes_releaseTouched (h : Notes s0 s) (n : Node) (v : Vector Bool 4) : Notes s0 (releaseTouched n v s) :=
  notes_foldl _ (fun t o k => by split <;> simp [k]) _ h

@[simp] theorem notes_endExec (h : Notes s0 s) (n : Node) (r : PlanResult) (k : Nat) : Notes s0 (endExec n r k s) := by
  unfold endExec
  try dsimp only
  repeat' split
  all_goals simp (maxDischargeDepth := 60) [h]

@[simp] theorem notes_sendStep (h : Notes s0 s) (n : Node) (x : List TxItem) : Notes s0 ((sendStep n x s).2) := by
  unfold sendStep
  try dsimp only
  repeat' split
  all_goals simp (maxDischargeDepth := 60) [h]

@[simp] theorem notes_takeSlotStep (h : Notes s0 s) (n : Node) (k : Nat) : Notes s0 ((takeSlotStep n k s).2) := by
  unfold takeSlotStep
  try dsimp only
  repeat' split
  all_goals simp (maxDischargeDepth := 60) [h]

@[simp] theorem notes_mediaStep (h : Notes s0 s) (n : Node) (l : Lun) (b : Bool) : Notes s0 ((mediaStep n l b s).2) := by
  unfold mediaStep
  try dsimp only
  repeat' split
  all_goals simp (maxDischargeDepth := 60) [h]

@[simp] theorem notes_doStep (h : Notes s0 s) (n : Node) (k : StepKind) : Notes s0 ((doStep n k s).2) := by
  unfold doStep
  try dsimp only
  repeat' split
  all_goals simp (maxDischargeDepth := 60) [h]

@[simp] theorem notes_runFrom (k : Nat) (n : Node) (j : Nat) (h : Notes s0 s) : Notes s0 (runFrom k n j s) := by
  induction k generalizing j s with
  | zero => exact h
  | succ k ih =>
    unfold runFrom
    split
    · exact h
    · split
      · simp [h]
      · split
        · simp [h]
        · rename_i r _ _ _ st _
          have hd : Notes s0 (doStep n st.kind (s.updRun n fun r =>
              { r with state := .runningStep, step := j, stepStart := s.timebase, started := r.started + 1 })).2 := by
            simp [h]
          dsimp only
          split
          · rename_i e; rw [e] at hd; exact hd
          · rename_i e; rw [e] at hd
            split
            · exact ih _ hd
            · simp at hd; simp [hd]
          · rename_i e; rw [e] at hd
            split
            · simp at hd; simp [hd]
            · exact ih _ hd

@[simp] theorem notes_completeStep (h : Notes s0 s) (n : Node) : Notes s0 (completeStep n s) := by
  unfold completeStep
  try dsimp only
  repeat' split
  all_goals simp (maxDischargeDepth := 60) [h]

@[simp] theorem notes_failStep (h : Notes s0 s) (n : Node) : Notes s0 (failStep n s) := by
  unfold failStep
  try dsimp only
  repeat' split
  all_goals simp (maxDischargeDepth := 60) [h]

@[simp] theorem notes_startExec (h : Notes s0 s) (n : Node) (p : Fin 16) (k : Nat) (o : Origin) : Notes s0 (startExec n p k o s) := by
  simp (maxDischargeDepth := 60) [startExec, h]

theorem notes_offerStart (h : Notes s0 s) {n : Node} {p : Fin 16} {o : Origin} {t : State} {q : Option (Fin 16)}
    (e : offerStart n p o s = .started t q) : Notes s0 t := by
  unfold offerStart at e
  split at e
  · cases e
  · split at e
    · cases e
    · split at e
      · injection e with e1 _; subst e1; simp [h]
      · split at e
        · injection e with e1 _; subst e1; simp (maxDischargeDepth := 60) [h]
        · cases e

@[simp] theorem notes_execOnView (h : Notes s0 s) (n : Node) (v : View) : Notes s0 (execOnView n v s) := by
  unfold execOnView
  try dsimp only
  repeat' split
  all_goals simp (maxDischargeDepth := 60) [h]

theorem notes_withView (n : Node) (f : State → State) (hf : Notes s0 (f s)) : Notes s0 (withView n f s) :=
  notes_execOnView hf ..

@[simp] theorem notes_execOnInput (h : Notes s0 s) (n : Node) (i : Input) : Notes s0 (execOnInput n i s) := by
  unfold execOnInput
  try dsimp only
  repeat' split
  all_goals simp (maxDischargeDepth := 60) [h]

@[simp] theorem notes_acceptedChange (h : Notes s0 s) (n : Node) (i : Input) : Notes s0 (acceptedChange n i s) := by
  have k : Notes s0 (withView n (recomputeView n) s) := notes_withView _ _ (notes_recomputeView h _)
  unfold acceptedChange
  dsimp only
  repeat' split
  all_goals simp (maxDischargeDepth := 60) [h, k]

@[simp] theorem notes_acceptLevel (h : Notes s0 s) (n : Node) (i : Input) (b : Bool) : Notes s0 (acceptLevel n i b s) := by
  simp (maxDischargeDepth := 60) [acceptLevel, h]

@[simp] theorem notes_pinChanges (h : Notes s0 s) (n : Node) (i : Input) (b : Bool) : Notes s0 (pinChanges n i b s) := by
  unfold pinChanges
  try dsimp only
  repeat' split
  all_goals simp (maxDischargeDepth := 60) [h]

@[simp] theorem notes_debounceExpires (h : Notes s0 s) (n : Node) (i : Input) : Notes s0 (debounceExpires n i s) := by
  simp (maxDischargeDepth := 60) [debounceExpires, h]

@[simp] theorem notes_pulseExpires (h : Notes s0 s) (n : Node) (o : Output) : Notes s0 (pulseExpires n o s) := by
  have k : Notes s0 (withView n (releaseLine n o) s) := notes_withView _ _ (notes_releaseLine h ..)
  unfold pulseExpires
  dsimp only
  repeat' split
  all_goals simp [k]

@[simp] theorem notes_retryQueue (h : Notes s0 s) (n : Node) : Notes s0 (retryQueue n s) := by
  unfold retryQueue
  try dsimp only
  repeat' split
  all_goals simp (maxDischargeDepth := 60) [h]

@[simp] theorem notes_beginItem (h : Notes s0 s) (n : Node) : Notes s0 (beginItem n s) := by
  unfold beginItem
  try dsimp only
  repeat' split
  all_goals simp (maxDischargeDepth := 60) [h]

@[simp] theorem notes_flushOp (h : Notes s0 s) (n : Node) : Notes s0 (flushOp n s) := by
  simp (maxDischargeDepth := 60) [flushOp, h]

@[simp] theorem notes_holdExpires (h : Notes s0 s) (n : Node) : Notes s0 (holdExpires n s) := by
  unfold holdExpires
  try dsimp only
  repeat' split
  all_goals simp (maxDischargeDepth := 60) [h]

/-! ## Patterns and the receiver -/

@[simp] theorem notes_offerPlan (h : Notes s0 s) (n : Node) (i : Fin 8) (p : Fin 16) : Notes s0 (offerPlan n i p s).2 := by
  unfold offerPlan
  split
  · exact notes_offerStart h ‹_›
  · simp [h]

@[simp] theorem notes_hitAction (h : Notes s0 s) (n : Node) (i : Fin 8) (a : PatAction) : Notes s0 ((hitAction n i a s).2) := by
  unfold hitAction
  try dsimp only
  repeat' split
  all_goals simp (maxDischargeDepth := 60) [h]

@[simp] theorem notes_armedHit (h : Notes s0 s) (n : Node) (i : Fin 8) : Notes s0 ((armedHit n i s).2) := by
  unfold armedHit
  try dsimp only
  repeat' split
  all_goals simp (maxDischargeDepth := 60) [h]

theorem notes_handleHit {x : Bool × State} (h : Notes s0 x.2) (n : Node) (y : Hit) : Notes s0 (handleHit n x y).2 := by
  unfold handleHit
  dsimp only
  repeat' split
  all_goals simp (maxDischargeDepth := 60) [h]

@[simp] theorem notes_testWindow (h : Notes s0 s) (n : Node) : Notes s0 (testWindow n s) := by
  have k : ∀ (l : List Hit) (x : Bool × State), Notes s0 x.2 → Notes s0 (l.foldl (handleHit n) x).2 := by
    intro l
    induction l with
    | nil => exact fun _ hx => hx
    | cons y l ih => exact fun x hx => ih _ (notes_handleHit hx n y)
  exact k _ (true, s) h

@[simp] theorem notes_windowByte (h : Notes s0 s) (n : Node) (b : Byte) : Notes s0 (windowByte n b s) := by
  simp (maxDischargeDepth := 60) [windowByte, h]

@[simp] theorem notes_deliverByte (h : Notes s0 s) (n : Node) (b : Byte) (f p : Bool) : Notes s0 (deliverByte n b f p s) := by
  unfold deliverByte
  try dsimp only
  repeat' split
  all_goals simp (maxDischargeDepth := 60) [h]

@[simp] theorem notes_breakStarts (h : Notes s0 s) (n : Node) : Notes s0 (breakStarts n s) := by
  simp (maxDischargeDepth := 60) [breakStarts, h]

@[simp] theorem notes_receiveChar (h : Notes s0 s) (n : Node) (b : Byte) (f p : Bool) : Notes s0 (receiveChar n b f p s) := by
  unfold receiveChar
  try dsimp only
  repeat' split
  all_goals simp (maxDischargeDepth := 60) [h]

@[simp] theorem notes_idleGapExpires (h : Notes s0 s) (n : Node) : Notes s0 (idleGapExpires n s) := by
  simp (maxDischargeDepth := 60) [idleGapExpires, h]

/-! ## Expiries and answers -/

@[simp] theorem notes_fetchDataAnswer (h : Notes s0 s) (p : List Byte) : Notes s0 (fetchDataAnswer p s) := by
  unfold fetchDataAnswer
  try dsimp only
  repeat' split
  all_goals simp (maxDischargeDepth := 60) [h]

@[simp] theorem notes_fetchFailAnswer (h : Notes s0 s) (p : List Byte) : Notes s0 (fetchFailAnswer p s) := by
  unfold fetchFailAnswer
  try dsimp only
  repeat' split
  all_goals simp (maxDischargeDepth := 60) [h]

@[simp] theorem notes_fetchExpires (h : Notes s0 s) (i : Fin 16) : Notes s0 (fetchExpires i s) := by
  simp (maxDischargeDepth := 60) [fetchExpires, h]

@[simp] theorem notes_slotWaitExpires (h : Notes s0 s) (n : Node) : Notes s0 (slotWaitExpires n s) := by
  simp (maxDischargeDepth := 60) [slotWaitExpires, h]

@[simp] theorem notes_allocationExpires (h : Notes s0 s) (n : Node) : Notes s0 (allocationExpires n s) := by
  simp (maxDischargeDepth := 60) [allocationExpires, h]

@[simp] theorem notes_entryFails (h : Notes s0 s) (i : Fin 32) (w : WriteUse) (c : MediaCause) : Notes s0 (entryFails i w c s) := by
  unfold entryFails
  try dsimp only
  repeat' split
  all_goals simp (maxDischargeDepth := 60) [h]

@[simp] theorem notes_entryPasses (h : Notes s0 s) (i : Fin 32) (w : WriteUse) : Notes s0 (entryPasses i w s) := by
  unfold entryPasses
  try dsimp only
  repeat' split
  all_goals simp (maxDischargeDepth := 60) [h]

@[simp] theorem notes_writeDoneAnswer (h : Notes s0 s) (p : List Byte) : Notes s0 (writeDoneAnswer p s) := by
  unfold writeDoneAnswer
  try dsimp only
  repeat' split
  all_goals simp (maxDischargeDepth := 60) [h]

@[simp] theorem notes_entryExpires (h : Notes s0 s) (i : Fin 32) : Notes s0 (entryExpires i s) := by
  unfold entryExpires
  try dsimp only
  repeat' split
  all_goals simp (maxDischargeDepth := 60) [h]

@[simp] theorem notes_fwdResultAnswer (h : Notes s0 s) (p : List Byte) : Notes s0 (fwdResultAnswer p s) := by
  unfold fwdResultAnswer
  try dsimp only
  repeat' split
  all_goals simp (maxDischargeDepth := 60) [h]

@[simp] theorem notes_forwardExpires (h : Notes s0 s) (n : Node) : Notes s0 (forwardExpires n s) := by
  simp (maxDischargeDepth := 60) [forwardExpires, h]

@[simp] theorem notes_runAnswer (h : Notes s0 s) (k : Nat) (p : List Byte) : Notes s0 (runAnswer k p s) := by
  unfold runAnswer
  split <;> simp [h]

@[simp] theorem notes_offersInOrder (h : Notes s0 s) : Notes s0 (offersInOrder s) := by
  simp (maxDischargeDepth := 60) [offersInOrder, h]
end Sys2Proof.Machine
end

