-- ==== Sys2Proof/Laws/NotesRequests.lean ====
section
/-! SUPPORT. `Notes` for the requests: every request but LINK_CONFIG and PART_RESET, which set the link's own state, leaves time,
the waiting commands and the link's own state alone and queues nothing but admitted notices before its reply. -/

namespace Sys2Proof.Machine

open Sys2Proof

variable {s0 s : State}

@[simp] theorem refused_fst (st : Status) (s : State) : (refused st s).1 = s := rfl

@[simp] theorem accepted_fst (b : Bool) (x : List Byte) (s : State) : (accepted b x s).1 = s := rfl

@[simp] theorem notes_texts (h : Notes s0 s) (v : Vector (List Byte) 16) : Notes s0 { s with texts := v } := h.of_eq rfl rfl rfl

@[simp] theorem notes_plans (h : Notes s0 s) (v : Vector (Option Plan) 16) : Notes s0 { s with plans := v } := h.of_eq rfl rfl rfl

/-! ## The operations of the requests -/

@[simp] theorem notes_gainPages (n : Node) (k : Nat) (h : Notes s0 s) : Notes s0 (gainPages n k s) := by
  induction k generalizing s with
  | zero => exact h
  | succ k ih =>
    unfold gainPages
    split
    · apply ih; simp [h]
    · split
      · exact h
      · exact ih (notes_updHist (notes_updPool (notes_evictLine h ‹_›) _) _ _)

@[simp] theorem notes_losePages (n : Node) (k : Nat) (h : Notes s0 s) : Notes s0 (losePages n k s) := by
  induction k generalizing s with
  | zero => exact h
  | succ k ih => exact ih (notes_updPool (notes_giveUpPage h _) _)

theorem notes_obtainDescPage (h : Notes s0 s) {n : Node} {t : State} (e : obtainDescPage n s = some t) : Notes s0 t := by
  unfold obtainDescPage at e
  split at e
  · cases e; exact h
  · split at e
    · cases e; simp [h]
    · obtain ⟨u, hu, rfl⟩ := Option.map_eq_some_iff.1 e
      exact notes_pagesJoin (notes_evictLine h hu) _

theorem mem_mapFinIdx {v : Vector EventRec 52} {f : Nat → EventRec → EventRec} {r : EventRec}
    (hr : r ∈ (v.mapFinIdx fun i x _ => f i x).toList) : ∃ i, ∃ x ∈ v.toList, r = f i x := by
  obtain ⟨i, hi, rfl⟩ := List.getElem_of_mem hr
  rw [Vector.length_toList] at hi
  exact ⟨i, v[i], by simp, by simp⟩

theorem notes_setLevels (h : Notes s0 s) (m l : Nat) (hl : l ≤ 3) : Notes s0 { s with events := s.events.setLevels m l } := by
  refine h.trans ⟨rfl, ⟨[], by simp⟩, id, fun k r hr => ?_⟩
  obtain ⟨i, x, hx, rfl⟩ := mem_mapFinIdx (f := fun i r => if m.testBit i then { r with level := l } else r) hr
  obtain ⟨h1, h2, h3⟩ := k x hx
  split
  · exact ⟨hl, h2, h3⟩
  · exact ⟨h1, h2, h3⟩

theorem notes_take (h : Notes s0 s) (m : Nat) : Notes s0 { s with events := s.events.take m } := by
  refine h.trans ⟨rfl, ⟨[], by simp⟩, id, fun k r hr => ?_⟩
  obtain ⟨i, x, hx, rfl⟩ := mem_mapFinIdx (f := fun i r => if m.testBit i && decide (0 < r.count) then r.taken else r) hr
  obtain ⟨h1, h2, h3⟩ := k x hx
  split
  · exact ⟨h1, by simp [EventRec.taken], by simp [EventRec.taken]⟩
  · exact ⟨h1, h2, h3⟩

@[simp] theorem notes_afterTake (h : Notes s0 s) : Notes s0 (afterTake s) := by
  unfold afterTake
  split
  · simp [h]
  · exact h.trans ⟨rfl, ⟨[], by simp⟩, id, id⟩

theorem clamp_le (lo hi v : Nat) (h : lo ≤ hi) : clamp lo hi v ≤ hi := by
  unfold clamp; split
  · exact h
  · split <;> omega

@[simp] theorem notes_setRing (h : Notes s0 s) (n : Node) (a b : Nat) : Notes s0 (setRing n a b s) := by
  unfold setRing
  try dsimp only
  repeat' split
  all_goals simp (maxDischargeDepth := 60) [h]

@[simp] theorem notes_setConsole (h : Notes s0 s) (n : Node) (c : Settings) : Notes s0 (setConsole n c s) := by
  unfold setConsole
  try dsimp only
  repeat' split
  all_goals simp (maxDischargeDepth := 60) [h]

@[simp] theorem notes_injectItems (h : Notes s0 s) (n : Node) (b : Bool) (x : List TxItem) : Notes s0 ((injectItems n b x s).1) := by
  unfold injectItems
  try dsimp only
  repeat' split
  all_goals simp (maxDischargeDepth := 60) [h]

@[simp] theorem notes_configOutput (h : Notes s0 s) (n : Node) (o : Output) (a b : Bool) (t : Nat) : Notes s0 ((configOutput n o a b t s).1) := by
  unfold configOutput
  try dsimp only
  repeat' split
  all_goals simp (maxDischargeDepth := 60) [h]

@[simp] theorem notes_setInput (h : Notes s0 s) (n : Node) (i : Input) (b : Bool) (k : Nat) : Notes s0 (setInput n i b k s) := by
  unfold setInput
  try dsimp only
  repeat' split
  all_goals simp (maxDischargeDepth := 60) [h]

@[simp] theorem notes_configInput (h : Notes s0 s) (n : Node) (i : Input) (b : Bool) (k : Nat) : Notes s0 ((configInput n i b k s).1) := by
  unfold configInput
  try dsimp only
  all_goals simp (maxDischargeDepth := 60) [h]

@[simp] theorem notes_lineSetOp (h : Notes s0 s) (n : Node) (o : Output) (a : LineAction) (k : Nat) : Notes s0 (lineSetOp n o a k s) := by
  refine notes_withView _ _ ?_
  split <;> simp [h]

@[simp] theorem notes_abortOp (h : Notes s0 s) (n : Node) : Notes s0 (abortOp n s) := by
  unfold abortOp
  try dsimp only
  repeat' split
  all_goals simp (maxDischargeDepth := 60) [h]

@[simp] theorem notes_setPort (h : Notes s0 s) (n : Node) (a b : Bool) (k : Nat) (c : Bool) : Notes s0 (setPort n a b k c s) := by
  unfold setPort
  try dsimp only
  repeat' split
  all_goals simp (maxDischargeDepth := 60) [h]

/-! ## The requests -/

@[simp] theorem notes_nopRequest (h : Notes s0 s)  : Notes s0 ((nopRequest s).1) := by
  unfold nopRequest
  try dsimp only
  all_goals simp (maxDischargeDepth := 60) [h]

@[simp] theorem notes_partInfoRequest (h : Notes s0 s)  : Notes s0 ((partInfoRequest s).1) := by
  unfold partInfoRequest
  try dsimp only
  all_goals simp (maxDischargeDepth := 60) [h]

@[simp] theorem notes_poolConfigRequest (h : Notes s0 s) (p : List Byte) : Notes s0 ((poolConfigRequest p s).1) := by
  unfold poolConfigRequest
  try dsimp only
  repeat' split
  all_goals simp (maxDischargeDepth := 60) [h]

@[simp] theorem notes_poolStateRequest (h : Notes s0 s)  : Notes s0 ((poolStateRequest s).1) := by
  unfold poolStateRequest
  try dsimp only
  all_goals simp (maxDischargeDepth := 60) [h]

@[simp] theorem notes_conConfigRequest (h : Notes s0 s) (p : List Byte) : Notes s0 ((conConfigRequest p s).1) := by
  unfold conConfigRequest
  try dsimp only
  repeat' split
  all_goals simp (maxDischargeDepth := 60) [h]

@[simp] theorem notes_histReadRequest (h : Notes s0 s) (p : List Byte) : Notes s0 ((histReadRequest p s).1) := by
  unfold histReadRequest
  try dsimp only
  repeat' split
  all_goals simp (maxDischargeDepth := 60) [h]

@[simp] theorem notes_streamSetRequest (h : Notes s0 s) (p : List Byte) : Notes s0 ((streamSetRequest p s).1) := by
  unfold streamSetRequest
  try dsimp only
  repeat' split
  all_goals simp (maxDischargeDepth := 60) [h]

@[simp] theorem notes_conInjectRequest (h : Notes s0 s) (p : List Byte) : Notes s0 ((conInjectRequest p s).1) := by
  unfold conInjectRequest
  try dsimp only
  repeat' split
  all_goals simp (maxDischargeDepth := 60) [h]

@[simp] theorem notes_conBreakRequest (h : Notes s0 s) (p : List Byte) : Notes s0 ((conBreakRequest p s).1) := by
  unfold conBreakRequest
  try dsimp only
  repeat' split
  all_goals simp (maxDischargeDepth := 60) [h]

@[simp] theorem notes_conFlushRequest (h : Notes s0 s) (p : List Byte) : Notes s0 ((conFlushRequest p s).1) := by
  unfold conFlushRequest
  try dsimp only
  repeat' split
  all_goals simp (maxDischargeDepth := 60) [h]

@[simp] theorem notes_textLoadRequest (h : Notes s0 s) (p : List Byte) : Notes s0 ((textLoadRequest p s).1) := by
  unfold textLoadRequest
  try dsimp only
  repeat' split
  all_goals simp (maxDischargeDepth := 60) [h]

@[simp] theorem notes_patLoadRequest (h : Notes s0 s) (p : List Byte) : Notes s0 ((patLoadRequest p s).1) := by
  unfold patLoadRequest
  try dsimp only
  repeat' split
  all_goals simp (maxDischargeDepth := 60) [h]

@[simp] theorem notes_patArmRequest (h : Notes s0 s) (p : List Byte) : Notes s0 ((patArmRequest p s).1) := by
  unfold patArmRequest
  try dsimp only
  repeat' split
  all_goals simp (maxDischargeDepth := 60) [h]

@[simp] theorem notes_patStateRequest (h : Notes s0 s) (p : List Byte) : Notes s0 ((patStateRequest p s).1) := by
  unfold patStateRequest
  try dsimp only
  repeat' split
  all_goals simp (maxDischargeDepth := 60) [h]

@[simp] theorem notes_lineConfigRequest (h : Notes s0 s) (p : List Byte) : Notes s0 ((lineConfigRequest p s).1) := by
  unfold lineConfigRequest
  try dsimp only
  repeat' split
  all_goals simp (maxDischargeDepth := 60) [h]

@[simp] theorem notes_lineSetRequest (h : Notes s0 s) (p : List Byte) : Notes s0 ((lineSetRequest p s).1) := by
  unfold lineSetRequest
  try dsimp only
  repeat' split
  all_goals simp (maxDischargeDepth := 60) [h]

@[simp] theorem notes_nodeStateRequest (h : Notes s0 s) (p : List Byte) : Notes s0 ((nodeStateRequest p s).1) := by
  unfold nodeStateRequest
  try dsimp only
  repeat' split
  all_goals simp (maxDischargeDepth := 60) [h]

@[simp] theorem notes_planLoadRequest (h : Notes s0 s) (p : List Byte) : Notes s0 ((planLoadRequest p s).1) := by
  unfold planLoadRequest
  try dsimp only
  repeat' split
  all_goals simp (maxDischargeDepth := 60) [h]

@[simp] theorem notes_planStartRequest (h : Notes s0 s) (p : List Byte) : Notes s0 ((planStartRequest p s).1) := by
  unfold planStartRequest
  split
  · split
    · exact h
    · exact notes_offerStart h ‹_›
  · exact h

@[simp] theorem notes_planAbortRequest (h : Notes s0 s) (p : List Byte) : Notes s0 ((planAbortRequest p s).1) := by
  unfold planAbortRequest
  try dsimp only
  repeat' split
  all_goals simp (maxDischargeDepth := 60) [h]

@[simp] theorem notes_planStateRequest (h : Notes s0 s) (p : List Byte) : Notes s0 ((planStateRequest p s).1) := by
  unfold planStateRequest
  try dsimp only
  repeat' split
  all_goals simp (maxDischargeDepth := 60) [h]

@[simp] theorem notes_inrushConfigRequest (h : Notes s0 s) (p : List Byte) : Notes s0 ((inrushConfigRequest p s).1) := by
  unfold inrushConfigRequest
  try dsimp only
  repeat' split
  all_goals simp (maxDischargeDepth := 60) [h]

@[simp] theorem notes_portConfigRequest (h : Notes s0 s) (p : List Byte) : Notes s0 ((portConfigRequest p s).1) := by
  unfold portConfigRequest
  try dsimp only
  repeat' split
  all_goals simp (maxDischargeDepth := 60) [h]

@[simp] theorem notes_descLoadRequest (h : Notes s0 s) (p : List Byte) : Notes s0 ((descLoadRequest p s).1) := by
  unfold descLoadRequest
  split
  · exact h
  · split
    · exact h
    · split
      · split
        · exact h
        · exact notes_connectTest (notes_updPort (notes_obtainDescPage h ‹_›) _ _) _
      · exact h

@[simp] theorem notes_portStateRequest (h : Notes s0 s) (p : List Byte) : Notes s0 ((portStateRequest p s).1) := by
  unfold portStateRequest
  try dsimp only
  repeat' split
  all_goals simp (maxDischargeDepth := 60) [h]

@[simp] theorem notes_driveInsertRequest (h : Notes s0 s) (p : List Byte) : Notes s0 ((driveInsertRequest p s).1) := by
  unfold driveInsertRequest
  try dsimp only
  repeat' split
  all_goals simp (maxDischargeDepth := 60) [h]

@[simp] theorem notes_driveEjectRequest (h : Notes s0 s) (p : List Byte) : Notes s0 ((driveEjectRequest p s).1) := by
  unfold driveEjectRequest
  try dsimp only
  repeat' split
  all_goals simp (maxDischargeDepth := 60) [h]

@[simp] theorem notes_driveStateRequest (h : Notes s0 s) (p : List Byte) : Notes s0 ((driveStateRequest p s).1) := by
  unfold driveStateRequest
  try dsimp only
  repeat' split
  all_goals simp (maxDischargeDepth := 60) [h]

@[simp] theorem notes_cacheDropRequest (h : Notes s0 s) (p : List Byte) : Notes s0 ((cacheDropRequest p s).1) := by
  unfold cacheDropRequest
  try dsimp only
  repeat' split
  all_goals simp (maxDischargeDepth := 60) [h]

@[simp] theorem notes_cacheConfigRequest (h : Notes s0 s) (p : List Byte) : Notes s0 ((cacheConfigRequest p s).1) := by
  unfold cacheConfigRequest
  try dsimp only
  repeat' split
  all_goals simp (maxDischargeDepth := 60) [h]

@[simp] theorem notes_cacheStateRequest (h : Notes s0 s)  : Notes s0 ((cacheStateRequest s).1) := by
  unfold cacheStateRequest
  try dsimp only
  all_goals simp (maxDischargeDepth := 60) [h]

@[simp] theorem notes_eventConfigRequest (h : Notes s0 s) (p : List Byte) : Notes s0 ((eventConfigRequest p s).1) := by
  unfold eventConfigRequest
  dsimp only
  split
  · exact h
  · exact notes_setLevels h _ _ (clamp_le 0 3 _ (by decide))

@[simp] theorem notes_eventTakeRequest (h : Notes s0 s) (p : List Byte) : Notes s0 ((eventTakeRequest p s).1) := by
  unfold eventTakeRequest
  dsimp only
  split
  · exact h
  · exact notes_afterTake (notes_take h _)

end Sys2Proof.Machine
end

