-- ==== Sys2Proof/Laws/PerInstr.lean ====
section
/-! SUPPORT. The family Encoded, made per command: a well-formed command that is a frame of the link is one the link can carry
(R2, R4), with one lemma for each row of the table. -/

namespace Sys2Proof.Laws.Encoded

open Sys2Proof Sys2Proof.Machine

/-- A well-formed command that is a whole frame has a kind other than 0, which the assembly skips (R4), a payload of at most 600
bytes, and six bytes more than its payload (R2). A command that is no frame satisfies it for want of a frame. -/
def Statement (i : Instr) : Prop :=
  ∀ f, i.frame = some f → i.wf = true → f.kind ≠ 0 ∧ f.payload.length ≤ 600 ∧ f.bytes.length = 6 + f.payload.length

/-- The family for a command whose frame has a kind other than 0 and whose payload the well-formedness check bounds. -/
theorem of_frame {i : Instr} {k t : Byte} {p : List Byte} (hf : i.frame = some ⟨k, t, p⟩) (hk : i.wf = true → k ≠ 0)
    (hp : i.wf = true → p.length ≤ 600) : Statement i := by
  intro f h hw
  obtain rfl : (⟨k, t, p⟩ : Frame) = f := by simpa [hf] using h
  exact ⟨hk hw, hp hw, by simp [Frame.bytes]⟩

/-- The family for a command of one kind. -/
theorem of_kind {i : Instr} {k t : Byte} {p : List Byte} (hf : i.frame = some ⟨k, t, p⟩) (hk : k ≠ 0)
    (hw : i.wf = decide (p.length ≤ 600)) : Statement i :=
  of_frame hf (fun _ => hk) fun h => of_decide_eq_true (hw ▸ h)

/-- The family for a command that is no frame. -/
theorem of_none {i : Instr} (h : i.frame = none) : Statement i := fun f hf => by simp [h] at hf

theorem porstAsserted : Statement (.porstAsserted) := of_none rfl
theorem powerOnReset : Statement (.powerOnReset) := of_none rfl
theorem timebaseIncrement : Statement (.timebaseIncrement) := of_none rfl
theorem transactionStart : Statement (.transactionStart) := of_none rfl
theorem transactionEnd (tail : List Byte) : Statement (.transactionEnd tail) := of_none rfl
theorem badLength (kind tag : Byte) (declared : BitVec 16) : Statement (.badLength kind tag declared) := of_none rfl
theorem badCheck (kind tag : Byte) (payload : List Byte) (check : BitVec 16) : Statement (.badCheck kind tag payload check) := of_none rfl
theorem badKind (kind tag : Byte) (payload : List Byte) : Statement (.badKind kind tag payload) := of_frame rfl
  (by rintro h rfl; simp [Instr.wf] at h) (by intro h; simp [Instr.wf] at h; exact h.2)
theorem unknownKind (kind tag : Byte) (payload : List Byte) : Statement (.unknownKind kind tag payload) := of_frame rfl
  (by rintro h rfl; simp [Instr.wf] at h) (by intro h; simp [Instr.wf] at h; exact h.2)
theorem headFrameLeaves : Statement (.headFrameLeaves) := of_none rfl
theorem silenceTimerExpiry : Statement (.silenceTimerExpiry) := of_none rfl
theorem nop (tag : Byte) (payload : List Byte) : Statement (.nop tag payload) := of_kind rfl (by decide) rfl
theorem partInfo (tag : Byte) (payload : List Byte) : Statement (.partInfo tag payload) := of_kind rfl (by decide) rfl
theorem linkConfig (tag : Byte) (payload : List Byte) : Statement (.linkConfig tag payload) := of_kind rfl (by decide) rfl
theorem partReset (tag : Byte) (payload : List Byte) : Statement (.partReset tag payload) := of_kind rfl (by decide) rfl
theorem poolConfig (tag : Byte) (payload : List Byte) : Statement (.poolConfig tag payload) := of_kind rfl (by decide) rfl
theorem poolState (tag : Byte) (payload : List Byte) : Statement (.poolState tag payload) := of_kind rfl (by decide) rfl
theorem waitingAllocationRetry : Statement (.waitingAllocationRetry) := of_none rfl
theorem allocationWaitTimeout (n : Node) : Statement (.allocationWaitTimeout n) := of_none rfl
theorem conConfig (tag : Byte) (payload : List Byte) : Statement (.conConfig tag payload) := of_kind rfl (by decide) rfl
theorem characterReceived (n : Node) (data : Byte) (framing parity : Bool) : Statement (.characterReceived n data framing parity) := of_none rfl
theorem breakStart (n : Node) (parity : Bool) : Statement (.breakStart n parity) := of_none rfl
theorem breakEnd (n : Node) : Statement (.breakEnd n) := of_none rfl
theorem idleGapExpiry (n : Node) : Statement (.idleGapExpiry n) := of_none rfl
theorem histRead (tag : Byte) (payload : List Byte) : Statement (.histRead tag payload) := of_kind rfl (by decide) rfl
theorem streamSet (tag : Byte) (payload : List Byte) : Statement (.streamSet tag payload) := of_kind rfl (by decide) rfl
theorem conInject (tag : Byte) (payload : List Byte) : Statement (.conInject tag payload) := of_kind rfl (by decide) rfl
theorem conBreak (tag : Byte) (payload : List Byte) : Statement (.conBreak tag payload) := of_kind rfl (by decide) rfl
theorem conFlush (tag : Byte) (payload : List Byte) : Statement (.conFlush tag payload) := of_kind rfl (by decide) rfl
theorem txItemBegin (n : Node) : Statement (.txItemBegin n) := of_none rfl
theorem byteSent (n : Node) : Statement (.byteSent n) := of_none rfl
theorem breakSent (n : Node) : Statement (.breakSent n) := of_none rfl
theorem waitingQueueRetry (n : Node) : Statement (.waitingQueueRetry n) := of_none rfl
theorem textLoad (tag : Byte) (payload : List Byte) : Statement (.textLoad tag payload) := of_kind rfl (by decide) rfl
theorem patLoad (tag : Byte) (payload : List Byte) : Statement (.patLoad tag payload) := of_kind rfl (by decide) rfl
theorem patArm (tag : Byte) (payload : List Byte) : Statement (.patArm tag payload) := of_kind rfl (by decide) rfl
theorem patState (tag : Byte) (payload : List Byte) : Statement (.patState tag payload) := of_kind rfl (by decide) rfl
theorem lineConfig (tag : Byte) (payload : List Byte) : Statement (.lineConfig tag payload) := of_kind rfl (by decide) rfl
theorem inputPinChange (n : Node) (i : Input) (high : Bool) : Statement (.inputPinChange n i high) := of_none rfl
theorem debounceExpiry (n : Node) (i : Input) : Statement (.debounceExpiry n i) := of_none rfl
theorem lineSet (tag : Byte) (payload : List Byte) : Statement (.lineSet tag payload) := of_kind rfl (by decide) rfl
theorem pulseExpiry (n : Node) (o : Output) : Statement (.pulseExpiry n o) := of_none rfl
theorem cutSettleExpiry (n : Node) : Statement (.cutSettleExpiry n) := of_none rfl
theorem nodeState (tag : Byte) (payload : List Byte) : Statement (.nodeState tag payload) := of_kind rfl (by decide) rfl
theorem planLoad (tag : Byte) (payload : List Byte) : Statement (.planLoad tag payload) := of_kind rfl (by decide) rfl
theorem planStart (tag : Byte) (payload : List Byte) : Statement (.planStart tag payload) := of_kind rfl (by decide) rfl
theorem planAbort (tag : Byte) (payload : List Byte) : Statement (.planAbort tag payload) := of_kind rfl (by decide) rfl
theorem planState (tag : Byte) (payload : List Byte) : Statement (.planState tag payload) := of_kind rfl (by decide) rfl
theorem inrushConfig (tag : Byte) (payload : List Byte) : Statement (.inrushConfig tag payload) := of_kind rfl (by decide) rfl
theorem stepTimeout (n : Node) : Statement (.stepTimeout n) := of_none rfl
theorem delayExpiry (n : Node) : Statement (.delayExpiry n) := of_none rfl
theorem slotHoldExpiry (n : Node) : Statement (.slotHoldExpiry n) := of_none rfl
theorem portConfig (tag : Byte) (payload : List Byte) : Statement (.portConfig tag payload) := of_kind rfl (by decide) rfl
theorem connectTimerExpiry (n : Node) : Statement (.connectTimerExpiry n) := of_none rfl
theorem descLoad (tag : Byte) (payload : List Byte) : Statement (.descLoad tag payload) := of_kind rfl (by decide) rfl
theorem busReset (n : Node) (answered : Bool) : Statement (.busReset n answered) := of_none rfl
theorem suspend (n : Node) : Statement (.suspend n) := of_none rfl
theorem resume (n : Node) : Statement (.resume n) := of_none rfl
theorem bulkInToken (n : Node) (addr : BitVec 7) : Statement (.bulkInToken n addr) := of_none rfl
theorem bulkInAck (n : Node) : Statement (.bulkInAck n) := of_none rfl
theorem bulkOutPacket (n : Node) (addr : BitVec 7) (toggle : Bool) (data : List Byte) : Statement (.bulkOutPacket n addr toggle data) := of_none rfl
theorem ping (n : Node) (addr : BitVec 7) : Statement (.ping n addr) := of_none rfl
theorem controlInToken (n : Node) (addr : BitVec 7) : Statement (.controlInToken n addr) := of_none rfl
theorem controlInAck (n : Node) : Statement (.controlInAck n) := of_none rfl
theorem controlOutToken (n : Node) (addr : BitVec 7) : Statement (.controlOutToken n addr) := of_none rfl
theorem controlRequestStalled (n : Node) (addr : BitVec 7) (setup : Setup) : Statement (.controlRequestStalled n addr setup) := of_none rfl
theorem getDescriptor (n : Node) (addr : BitVec 7) (setup : SetupFields) : Statement (.getDescriptor n addr setup) := of_none rfl
theorem setAddress (n : Node) (addr : BitVec 7) (setup : SetupFields) : Statement (.setAddress n addr setup) := of_none rfl
theorem setConfiguration (n : Node) (addr : BitVec 7) (setup : SetupFields) : Statement (.setConfiguration n addr setup) := of_none rfl
theorem getConfiguration (n : Node) (addr : BitVec 7) (setup : SetupFields) : Statement (.getConfiguration n addr setup) := of_none rfl
theorem getStatus (n : Node) (addr : BitVec 7) (setup : SetupFields) : Statement (.getStatus n addr setup) := of_none rfl
theorem setFeature (n : Node) (addr : BitVec 7) (setup : SetupFields) : Statement (.setFeature n addr setup) := of_none rfl
theorem clearFeature (n : Node) (addr : BitVec 7) (setup : SetupFields) : Statement (.clearFeature n addr setup) := of_none rfl
theorem bulkReset (n : Node) (addr : BitVec 7) (setup : SetupFields) : Statement (.bulkReset n addr setup) := of_none rfl
theorem getMaxLun (n : Node) (addr : BitVec 7) (setup : SetupFields) : Statement (.getMaxLun n addr setup) := of_none rfl
theorem portState (tag : Byte) (payload : List Byte) : Statement (.portState tag payload) := of_kind rfl (by decide) rfl
theorem driveInsert (tag : Byte) (payload : List Byte) : Statement (.driveInsert tag payload) := of_kind rfl (by decide) rfl
theorem driveEject (tag : Byte) (payload : List Byte) : Statement (.driveEject tag payload) := of_kind rfl (by decide) rfl
theorem driveState (tag : Byte) (payload : List Byte) : Statement (.driveState tag payload) := of_kind rfl (by decide) rfl
theorem invalidWrapper (n : Node) (addr : BitVec 7) (toggle : Bool) (data : List Byte) : Statement (.invalidWrapper n addr toggle data) := of_none rfl
theorem testUnitReady (n : Node) (addr : BitVec 7) (toggle : Bool) (w : Wrapper) : Statement (.testUnitReady n addr toggle w) := of_none rfl
theorem requestSense (n : Node) (addr : BitVec 7) (toggle : Bool) (w : Wrapper) : Statement (.requestSense n addr toggle w) := of_none rfl
theorem inquiry (n : Node) (addr : BitVec 7) (toggle : Bool) (w : Wrapper) : Statement (.inquiry n addr toggle w) := of_none rfl
theorem readCapacity (n : Node) (addr : BitVec 7) (toggle : Bool) (w : Wrapper) : Statement (.readCapacity n addr toggle w) := of_none rfl
theorem read10 (n : Node) (addr : BitVec 7) (toggle : Bool) (w : Wrapper) : Statement (.read10 n addr toggle w) := of_none rfl
theorem write10 (n : Node) (addr : BitVec 7) (toggle : Bool) (w : Wrapper) : Statement (.write10 n addr toggle w) := of_none rfl
theorem forwardedCommand (n : Node) (addr : BitVec 7) (toggle : Bool) (op : Byte) (w : Wrapper) : Statement (.forwardedCommand n addr toggle op w) := of_none rfl
theorem fwdResult (tag : Byte) (payload : List Byte) : Statement (.fwdResult tag payload) := of_kind rfl (by decide) rfl
theorem fwdTimeout (n : Node) : Statement (.fwdTimeout n) := of_none rfl
theorem slotWaitGrant : Statement (.slotWaitGrant) := of_none rfl
theorem slotWaitTimeout (n : Node) : Statement (.slotWaitTimeout n) := of_none rfl
theorem fetchData (tag : Byte) (payload : List Byte) : Statement (.fetchData tag payload) := of_kind rfl (by decide) rfl
theorem fetchFail (tag : Byte) (payload : List Byte) : Statement (.fetchFail tag payload) := of_kind rfl (by decide) rfl
theorem fetchTimeout (slot : Fin 16) : Statement (.fetchTimeout slot) := of_none rfl
theorem cacheDrop (tag : Byte) (payload : List Byte) : Statement (.cacheDrop tag payload) := of_kind rfl (by decide) rfl
theorem writeDone (tag : Byte) (payload : List Byte) : Statement (.writeDone tag payload) := of_kind rfl (by decide) rfl
theorem writeTimeout (entry : Fin 32) : Statement (.writeTimeout entry) := of_none rfl
theorem cacheConfig (tag : Byte) (payload : List Byte) : Statement (.cacheConfig tag payload) := of_kind rfl (by decide) rfl
theorem cacheState (tag : Byte) (payload : List Byte) : Statement (.cacheState tag payload) := of_kind rfl (by decide) rfl
theorem eventConfig (tag : Byte) (payload : List Byte) : Statement (.eventConfig tag payload) := of_kind rfl (by decide) rfl
theorem eventTake (tag : Byte) (payload : List Byte) : Statement (.eventTake tag payload) := of_kind rfl (by decide) rfl
theorem busActivity (n : Node) : Statement (.busActivity n) := of_none rfl

end Sys2Proof.Laws.Encoded
end

