-- ==== Sys2Proof/Tests/States.lean ====
section
/-! SUPPORT. The small states the tests and the witnesses start from, each made from State.reset by a few updates. -/

namespace Sys2Proof.Tests

open Sys2Proof Sys2Proof.Machine

/-- The state a command leaves. -/
def after (c : Instr) (s : State) : State :=
  match exec c s with
  | .next t => t
  | _ => s

/-- The bytes of an ASCII text. -/
def ascii (x : String) : List Byte := x.toList.map fun c => byteOf c.toNat

/-- A reset part whose PART_STARTED has been read, in a transaction of which no byte has arrived. -/
def ready : State := State.reset.updLink fun l => { l with queue := [], txn := .active, inbound := .header [] }

/-- The state at another timebase. -/
def at' (ms : Nat) (s : State) : State := { s with timebase := BitVec.ofNat 32 ms }

/-- The state in which one timer has expired and is due. -/
def owing (t : Timer) (s : State) : State := { s with due := [t] }

/-- A part whose silence timer of 100 ms is due. -/
def silent (s : State) : State :=
  owing .silence (at' 100 (s.updLink fun l => { l with silenceTimeout := 100, shifting := false }))

/-- The state with that many replies in the outbound queue. -/
def frames (k : Nat) (s : State) : State := s.updLink fun l => { l with queue := List.replicate k { kind := 0x81, tag := 0, payload := [0, 0] } }

/-- The state with its link AUTONOMOUS. -/
def away (s : State) : State := s.updLink fun l => { l with online := .autonomous, queue := [] }

/-- The state with a source at another level. -/
def level (i : Fin 52) (k : Nat) (s : State) : State :=
  { s with events := { s.events with recs := s.events.recs.set i { s.events.recs[i] with level := k } } }

/-- The state with a node RUNNING. -/
def up (n : Node) (s : State) : State :=
  s.updLines n fun u => { u with pgood := { u.pgood with pin := true, accepted := true }, view := .running }

/-- The state with a node CUT_OFF, its PGOOD still ACTIVE. -/
def cut (n : Node) (s : State) : State :=
  ((up n s).updOutput n .cut fun o => { o with active := true }).updLines n fun u =>
    { u with view := .cutOff, settleStart := some s.timebase }

/-- A plan of those steps, each without a timeout, at priority 2. -/
def planOf (ks : List StepKind) : Plan := { priority := 2, steps := ks.map fun k => { kind := k, timeout := 0, onFail := .abort } }

/-- The state with a plan in the plan table. -/
def load (k : Fin 16) (p : Plan) (s : State) : State := { s with plans := s.plans.set k (some p) }

/-- The state with a plan executing on a node, started by the host at priority 2. -/
def running (n : Node) (k : Fin 16) (st : ExecState) (step : Nat) (s : State) : State :=
  let r : Run := { state := st, plan := k, priority := 2, origin := .host, step := step, stepStart := s.timebase, started := step + 1,
                   touched := Vector.replicate 4 false }
  s.updExec n fun e => { e with run := some r }

/-- A record of text. -/
def textRec (seq t : Nat) (f : RecFlags) (x : String) : Rec :=
  { seq := BitVec.ofNat 32 seq, timestamp := BitVec.ofNat 32 t, body := .text f (ascii x) }

/-- The state with a node's open record. -/
def opened (n : Node) (t : Nat) (x : List Byte) (s : State) : State :=
  s.updRx n fun r => { r with opened := some { timestamp := BitVec.ofNat 32 t, lastByte := BitVec.ofNat 32 t, flags := RecFlags.none, payload := x } }

/-- A configuration set with one bulk IN and one bulk OUT endpoint, as R125 asks. -/
def configSet : List Byte :=
  [9, 2, 32, 0, 1, 1, 0, 0xC0, 50] ++ [9, 4, 0, 0, 2, 8, 6, 80, 0] ++ [7, 5, 0x81, 2, 0, 2, 0] ++ [7, 5, 0x02, 2, 0, 2, 0]

/-- A descriptor set that R125 accepts, with a product name of 64 bytes and two of its four strings absent. -/
def descs : DescSet :=
  { device := [18, 1, 0, 2, 0, 0, 0, 8, 0x34, 0x12, 1, 0, 0, 1, 1, 2, 3, 1], config := configSet,
    strings := #v[[4, 3, 9, 4], [], List.replicate 64 0x41, []],
    inquiry := #v[List.replicate 36 1, List.replicate 36 2] }

/-- The state with a node RUNNING and its port CONFIGURED at HIGH speed with address 9. -/
def usb (n : Node) (s : State) : State :=
  (up n s).updPort n fun p =>
    { p with state := .configured, enabled := true, always := true, high := true, address := 9, configuration := true, resetSeen := true,
             desc := some descs }

/-- The 1,000,000,000-byte image of section 8.8. -/
def image : Image := { handle := 0xAA, size := 1000000000, block := 512, writable := true }

/-- The state with an image in a drive slot, its unit attention cleared. -/
def insert (n : Node) (u : Lun) (i : Image) (s : State) : State :=
  s.updDrive n u fun d => { d with image := some i, generation := 3, remembered := some i }

/-- A wrapper with a 10-byte block that names an LBA and a block count. -/
def wrapper (dirIn : Bool) (expected lba count : Nat) : Wrapper :=
  let b := [0] ++ be 4 lba ++ [0] ++ be 2 count
  { tag := 5, expected := BitVec.ofNat 32 expected, flags := if dirIn then 0x80 else 0, lun := 0, blockLen := 10,
    rest := Vector.ofFn fun i => b.getD i 0 }

/-- A wrapper with a 6-byte block that names an allocation length. -/
def shortWrapper (dirIn : Bool) (expected alloc : Nat) : Wrapper :=
  { wrapper dirIn expected 0 0 with blockLen := 6, rest := Vector.ofFn fun i => if i = 3 then byteOf alloc else 0 }

/-- The command of such a wrapper. -/
def command (op : Byte) (w : Wrapper) : Command := commandOf (wrapperBytes w op)

/-- The state with a node's command in a phase. -/
def inPhase (n : Node) (p : Phase) (m : DataMode) (c : Command) (s : State) : State :=
  s.updCtx n fun x =>
    { x with phase := p, mode := m, command := some c, dn := c.blocks * 512, blockSize := 512,
             running := decide (m = .read ∨ m = .write), startByte := c.lba * 512, lastLine := (c.lba * 512 + c.blocks * 512 - 1) / 4096 }

/-- A line of a node's drive 0 at generation 3, without a chunk. -/
def line (n : Node) (index : Nat) (st : LineState) (pins : Nat) : Line :=
  { node := n, lun := 0, generation := 3, index := index, state := st, chunks := Vector.replicate 8 none, pins := pins }

/-- The state with a line in the cache, its pages taken from the free ones. -/
def cached (l : Line) (s : State) : State :=
  (s.updCache fun c => { c with lines := c.lines ++ [l] }).updPool fun p => { p with free := p.free - 8 }

/-- The state with a fetch slot in a state. -/
def slot (i : Fin 16) (ticket : Byte) (u : SlotUse) (s : State) : State := s.updSlot i fun _ => { ticket := ticket, use := u }

/-- A SENT entry of the write table of a node's drive 0. -/
def entryOf (n : Node) (cancelled : Bool) : WriteUse :=
  { sent := true, node := n, lun := 0, handle := 0xAA, offset := 0, data := List.replicate 512 7, start := 0, timeout := 3000,
    cancelled := cancelled }

/-- The state with a write-table entry in use, its page taken from the free ones. -/
def entry (i : Fin 32) (ticket : Byte) (w : WriteUse) (s : State) : State :=
  (s.updEntry i fun _ => { ticket := ticket, use := some w }).updPool fun p => { p with free := p.free - 1 }

/-- The fields of a control request. -/
def setup (dirIn : Bool) (r : Recipient) (value index length : Nat) : SetupFields :=
  { dirIn := dirIn, recipient := r, value := BitVec.ofNat 16 value, index := BitVec.ofNat 16 index,
    length := BitVec.ofNat 16 length }

/-- The frame at the end of the outbound queue. -/
def lastFrame (s : State) : Option Frame := s.link.queue.getLast?

/-- The record a node's history ends with. -/
def lastRec (s : State) (n : Node) : Option Rec := (s.node n).hist.records.getLast?

/-- A source's count and last detail. -/
def latched (s : State) (i : Fin 52) : Nat × Nat := (s.events.recs[i].count, s.events.recs[i].lastDetail)

end Sys2Proof.Tests
end

