-- ==== Sys2Proof/Tests/Slice0.lean ====
section
/-! SUPPORT. The model's own tests: every check of WellFormed refuses an ill-formed term, and single commands give what the
worked examples and tables of the spec say (the source of each expected value stands in its comment). -/

namespace Sys2Proof.Tests

open Sys2Proof Sys2Proof.Machine

-- One theorem after the other: their kernel evaluations side by side would ask for more threads than the check allows.
set_option Elab.async false

/-! ## Well-formedness -/

theorem test_wf_badLength_needs_over_600 : (Instr.badLength 1 0 600).wf = false ∧ (Instr.badLength 1 0 601).wf = true := by decide +kernel
theorem test_wf_badLength_needs_a_kind : (Instr.badLength 0 0 601).wf = false := by decide +kernel
theorem test_wf_badCheck_needs_a_wrong_check :
    (Instr.badCheck 1 7 [] (crc [1, 7, 0, 0])).wf = false ∧ (Instr.badCheck 1 7 [] (crc [1, 7, 0, 0] + 1)).wf = true := by decide +kernel
theorem test_wf_badCheck_needs_a_kind_and_room :
    (Instr.badCheck 0 7 [] 0).wf = false ∧ (Instr.badCheck 1 7 (List.replicate 601 0) 0).wf = false := by decide +kernel
theorem test_wf_badKind_needs_64H :
    (Instr.badKind 0x63 0 []).wf = false ∧ (Instr.badKind 0x64 0 []).wf = true ∧ (Instr.badKind 0x64 0 (List.replicate 601 0)).wf = false := by
  decide +kernel
theorem test_wf_unknownKind_needs_an_unassigned_kind :
    (Instr.unknownKind 0 0 []).wf = false ∧ (Instr.unknownKind 0x60 0 []).wf = false ∧ (Instr.unknownKind 0x11 0 []).wf = false ∧
      (Instr.unknownKind 0x05 0 (List.replicate 601 0)).wf = false ∧ (Instr.unknownKind 0x05 0 []).wf = true := by decide +kernel
theorem test_wf_characterReceived_is_no_break :
    (Instr.characterReceived 0 0 true false).wf = false ∧ (Instr.characterReceived 0 0 false true).wf = true := by decide +kernel
theorem test_wf_invalidWrapper_is_not_valid :
    (Instr.invalidWrapper 0 0 false (wrapperBytes (wrapper true 0 0 0) 0x28)).wf = false ∧ (Instr.invalidWrapper 0 0 false []).wf = true := by
  decide +kernel
theorem test_wf_executed_wrappers_are_valid :
    let w := { wrapper true 0 0 0 with blockLen := 17 }
    (Instr.testUnitReady 0 0 false w).wf = false ∧ (Instr.requestSense 0 0 false w).wf = false ∧ (Instr.inquiry 0 0 false w).wf = false ∧
      (Instr.readCapacity 0 0 false w).wf = false ∧ (Instr.read10 0 0 false w).wf = false ∧ (Instr.write10 0 0 false w).wf = false := by
  decide +kernel
theorem test_wf_forwardedCommand_is_not_executed_by_the_part :
    (Instr.forwardedCommand 0 0 false 0x28 (wrapper true 0 0 0)).wf = false ∧
      (Instr.forwardedCommand 0 0 false 0x1B { wrapper true 0 0 0 with lun := 2 }).wf = false ∧
      (Instr.forwardedCommand 0 0 false 0x1B (wrapper true 0 0 0)).wf = true := by decide +kernel
theorem test_wf_stalled_requests_are_not_answered :
    (Instr.controlRequestStalled 0 0 (ControlRequest.setAddress.setup (setup false .device 9 0 0))).wf = false ∧
      (Instr.controlRequestStalled 0 0 { ControlRequest.setAddress.setup (setup false .device 9 0 0) with type := .other }).wf = true := by
  decide +kernel
theorem test_wf_payload_fits_a_frame :
    (Instr.nop 0 (List.replicate 601 0)).wf = false ∧ (Instr.nop 0 (List.replicate 600 0)).wf = true := by decide +kernel

/-! ## The management link -/

/-- R3 computed by hand for another program: the check of the nine ASCII digits 1 to 9 is AEE7H. -/
theorem test_check_of_digits : crc (ascii "123456789") = 0xAEE7 := by decide +kernel
/-- R21 and the E0H row of section 11.4: reason POWER_ON, family 44H, revision 01H, and tag 0. -/
theorem test_power_on_queues_part_started :
    (after .powerOnReset ready).link.queue = [{ kind := 0xE0, tag := 0, payload := [0, 0x44, 1] }] := by decide +kernel
/-- R21, R78: ATTN and the output pins are released; CUT is PUSH_PULL active high, so its IDLE pin was low. -/
theorem test_porst_releases_pins :
    ready.outputPin 2 .cut = .low ∧ (after .porstAsserted ready).outputPin 2 .cut = .released := by decide +kernel
/-- R14: the timebase wraps from FFFFFFFFH to 0. -/
theorem test_timebase_wraps : (after .timebaseIncrement (at' 0xFFFFFFFF ready)).timebase = 0 := by decide +kernel
/-- R1, R11: MISO is released while CSN is high; from its fall the queue's head frame is shifted from its first byte (E0H, PART_STARTED),
00H behind its nine bytes, and 00H alone where the queue is empty. -/
theorem test_transaction_shifts_the_head :
    State.reset.miso = .released ∧ ((after .transactionStart State.reset).misoFrame.map Frame.kind) = some 0xE0 ∧
      (after .transactionStart State.reset).miso.byteAt 4 = some 0x00 ∧ (after .transactionStart State.reset).miso.byteAt 0 = some 0xE0 ∧
      (after .transactionStart State.reset).miso.byteAt 9 = some 0 ∧
      (after .transactionStart (after (.transactionEnd []) ready)).miso = .zeros := by decide +kernel
/-- R4 to R6: three bytes of a header, then the rise of CSN: a CUT_FRAME, cause 1. -/
theorem test_cut_frame_is_counted :
    (after (.transactionEnd [3, 1, 3]) ready).link.errors.cutFrame = 1 ∧ latched (after (.transactionEnd [3, 1, 3]) ready) 48 = (1, 1) := by
  decide +kernel
/-- R5: a declared length over 600 is cause 2. -/
theorem test_bad_length_is_latched : latched (after (.badLength 3 1 601) ready) 48 = (1, 2) := by decide +kernel
/-- R3: the check bytes are in the wrong order; cause 3. -/
theorem test_bad_check_is_latched : latched (after (.badCheck 1 7 [] 0) ready) 48 = (1, 3) := by decide +kernel
/-- R7: kind 64H is of no class; cause 5. -/
theorem test_bad_kind_is_latched : latched (after (.badKind 0x64 7 []) ready) 48 = (1, 5) := by decide +kernel
/-- R7: a request of an unassigned kind is answered UNKNOWN_KIND, status 6. -/
theorem test_unknown_kind_reply : lastFrame (after (.unknownKind 5 9 []) ready) = some { kind := 0x85, tag := 9, payload := [6, 0] } := by
  decide +kernel
/-- R10, R12: the last frame leaves and ATTN is released. -/
theorem test_last_frame_releases_attn :
    let s := (frames 1 ready).updLink fun l => { l with shifting := true }
    s.attn = true ∧ (after .headFrameLeaves s).attn = false := by decide +kernel
/-- R16: the silence timer expires and the queue is emptied. -/
theorem test_silence_empties_the_queue :
    let s := owing .silence (at' 100 ((frames 3 ready).updLink fun l => { l with silenceTimeout := 100 }))
    (after .silenceTimerExpiry s).link.online = .autonomous ∧ (after .silenceTimerExpiry s).link.queue = [] := by decide +kernel
/-- R18, section 11.3: a NOP reply carries the timebase. -/
theorem test_nop_reply :
    lastFrame (after (.nop 7 []) (at' 0x01020304 ready)) = some { kind := 0x81, tag := 7, payload := [0, 0, 4, 3, 2, 1] } := by decide +kernel
/-- R18, section 11.3: family, revision, 4 nodes, 1024 pages, the timebase, six counts. -/
theorem test_part_info_reply :
    (lastFrame (after (.partInfo 7 []) ready)).map Frame.payload =
      some ([0, 0, 0x44, 1, 4, 0, 4] ++ List.replicate 16 0) := by decide +kernel
/-- R19: a timeout of 50 is moved to 100, and the reply says so. -/
theorem test_link_config_moves_a_value :
    lastFrame (after (.linkConfig 1 [50, 0, 2]) ready) = some { kind := 0x83, tag := 1, payload := [0, 1, 100, 0, 2] } := by decide +kernel
/-- Section 5's example, 9,500: PART_RESET is refused with BUSY while CUT is ACTIVE. -/
theorem test_part_reset_is_busy_under_cut :
    lastFrame (after (.partReset 1 []) (cut 1 ready)) = some { kind := 0x84, tag := 1, payload := [1, 0] } := by decide +kernel

/-! ## Buffer memory -/

/-- R27, R36: a reserve of 20 takes 4 of the 960 free pages as spare pages. -/
theorem test_pool_config_raises_a_reserve :
    (after (.poolConfig 1 [0, 20, 0, 64, 0]) ready).pool.free = 956 ∧ ((after (.poolConfig 1 [0, 20, 0, 64, 0]) ready).node 0).hist.spare = 19 := by
  decide +kernel
/-- Section 2.9: with surpluses of 240, 240, 238 and 240 and no free page, the holdings become 253, 253, 254 and 254. -/
theorem test_trimming_levels_the_rings :
    let s := allNodes.foldl (fun s n => s.updHist n fun h => { h with maximum := 256, spare := if n = 2 then 253 else 255 })
      (ready.updPool fun p => { p with free := 0 })
    (match demandAlloc s with
      | .got t => allNodes.map fun n => (t.node n).hist.holding
      | _ => []) = [253, 253, 254, 254] := by decide +kernel
/-- R35, R36: 960 free pages at the start. -/
theorem test_pool_state_counts :
    ((lastFrame (after (.poolState 1 []) ready)).map fun f => f.payload.take 4) = some [0, 0, 0xC0, 3] := by decide +kernel

/-! ## Consoles -/

/-- N1 of section 3.7: three filled pages, a current page with 480 bytes used, 12 spare pages, records 0 to 39. -/
def login : State :=
  ready.updHist 1 fun h => { h with
    filled := [[], [], []], spare := 12, next := 40
    current := [textRec 38 1 RecFlags.none (String.ofList (List.replicate 228 'a')), textRec 39 1 RecFlags.none (String.ofList (List.replicate 228 'a'))] }

/-- Section 3.7, 1,050: the idle gap closes the record with GAP as seq 40, and the page has 500 bytes used. -/
theorem test_login_prompt_closes_at_the_gap :
    let s := after (.idleGapExpiry 1) (owing (.idleGap 1) (at' 1050 (opened 1 1000 (ascii "login: ") login)))
    lastRec s 1 = some (textRec 40 1000 { RecFlags.none with gap := true } "login: ") ∧ pageUsed (s.node 1).hist.current = 500 := by
  decide +kernel
/-- Section 3.7, 2,000: the banner closes at its LF with LINE, on a page that was spare. -/
theorem test_banner_closes_at_the_line_feed :
    let s := after (.characterReceived 1 0x0A false false)
      (at' 2000 (opened 1 2000 (ascii "Welcome\r") (login.updHist 1 fun h => { h with current := h.current ++ [textRec 40 1000 RecFlags.none "login: "], next := 41 })))
    lastRec s 1 = some (textRec 41 2000 { RecFlags.none with line := true } "Welcome\r\n") ∧
      (s.node 1).hist.filled.length = 4 ∧ (s.node 1).hist.spare = 11 ∧ pageUsed (s.node 1).hist.current = 24 := by decide +kernel
/-- The two records of section 11.9. -/
def exchange : State :=
  at' 2100 (ready.updHist 1 fun h => { h with
    oldest := 41, next := 43
    current := [textRec 41 2000 { RecFlags.none with line := true } "Welcome\r\n", textRec 42 2003 { RecFlags.none with gap := true } "$ "] })
/-- Section 11.9: the reply to HIST_READ from 41 with 40 bytes, but for oldest_seq, which is 41 here: 63 bytes in all. -/
theorem test_history_read_exchange :
    ((lastFrame (after (.histRead 5 [1, 41, 0, 0, 0, 40, 0]) exchange)).map Frame.payload) =
        some ([0, 0, 1, 2] ++ [41, 0, 0, 0] ++ [43, 0, 0, 0] ++ [2, 43, 0, 0, 0] ++
          ([41, 0, 0, 0] ++ [0xD0, 7, 0, 0] ++ [0, 0x20, 9, 0] ++ ascii "Welcome\r\n" ++ [0, 0, 0]) ++
          ([42, 0, 0, 0] ++ [0xD3, 7, 0, 0] ++ [0, 8, 2, 0] ++ ascii "$ " ++ [0, 0])) ∧
      ((lastFrame (after (.histRead 5 [1, 41, 0, 0, 0, 40, 0]) exchange)).map fun f => f.bytes.length) = some 63 := by decide +kernel
/-- Section 11.9, 2,500: plan 2 starts on N1, and its PLAN_START marker goes out in a CON_DATA notice of 28 bytes with tag 12. -/
theorem test_stream_notice :
    let s := ((at' 2500 (load 2 (planOf [.delay 9]) exchange)).updHist 1 fun h => { h with streaming := true, cursor := 43 }).updLink fun l =>
      { l with noticeCount := 12 }
    (after (.planStart 1 [1, 2]) s).link.queue.head? = some
      { kind := 0xE1, tag := 12, payload := [1, 43, 0, 0, 0, 1] ++ [43, 0, 0, 0] ++ [0xC4, 9, 0, 0] ++ [1, 0, 3, 0] ++ [3, 2, 0] ++ [0] } ∧
      ((after (.planStart 1 [1, 2]) s).node 1).hist.cursor = 44 := by decide +kernel
/-- Section 3.8: the page of records 1,000 to 1,019 is recycled, the cursor moves from 1,005 to 1,020, and STREAM_GAP has detail 15. -/
theorem test_recycling_moves_the_cursor :
    let page := fun k : Nat => (List.range 20).map fun i => textRec (k + i) 1 RecFlags.none "123456789012"
    let s := opened 3 5 (ascii "12345678901234567890123456789") (ready.updHist 3 fun h => { h with
      filled := [page 1000, page 1020, page 1040], current := page 1060, spare := 0, reserve := 4, maximum := 4, oldest := 1000, next := 1080,
      cursor := 1005, streaming := true })
    let t := after (.characterReceived 3 0x0A false false) (s.updLink fun l => { l with held := true })
    (t.node 3).hist.oldest = 1020 ∧ (t.node 3).hist.cursor = 1020 ∧ (t.node 3).hist.next = 1081 ∧ latched t 39 = (1, 15) := by decide +kernel
/-- R41: a character with a parity error under EVEN parity: CON_LINE_ERROR with detail 2. -/
theorem test_parity_error_is_latched :
    let s := ready.updRx 0 fun r => { r with settings := { r.settings with parity := .even } }
    latched (after (.characterReceived 0 0x41 false true) s) 1 = (1, 2) := by decide +kernel
/-- R38: a record maximum of 8 is moved to 16. -/
theorem test_con_config_moves_a_value :
    lastFrame (after (.conConfig 1 [0, 4, 0, 8, 50, 0, 1, 0, 0]) ready) =
      some { kind := 0x90, tag := 1, payload := [0, 1, 4, 0, 16, 50, 0, 1, 0, 0] } := by decide +kernel
/-- R42: a break closes the open record with BREAK. -/
theorem test_break_closes_the_record :
    lastRec (after (.breakStart 0 false) (opened 0 7 (ascii "ab") ready)) 0 = some (textRec 0 7 { RecFlags.none with brk := true } "ab") := by
  decide +kernel

/-! ## Injection and watching -/

/-- N2 of section 4.2, RUNNING with a pacing gap of 5 ms and echo ON. -/
def injecting : State := (up 2 ready).updRx 2 fun r => { r with settings := { r.settings with pacing := 5, echo := true } }
/-- Section 4.2, 10,000: three bytes are taken, fill 3. -/
theorem test_inject_reply :
    lastFrame (after (.conInject 1 ([2] ++ ascii "ls\r")) injecting) = some { kind := 0x93, tag := 1, payload := [0, 0, 3, 0] } := by
  decide +kernel
/-- Section 4.2, 10,010: the CR with mark 3 ends and leaves an INJECTED marker of detail 3. -/
theorem test_marked_byte_leaves_a_marker :
    let s := (at' 10010 injecting).updTx 2 fun t => { t with inProgress := some { item := .byte 0x0D (some 3), start := 10010, rate := 4, parity := .none } }
    (lastRec (after (.byteSent 2) s) 2).map Rec.body = some (.marker 6 3) := by decide +kernel
/-- Section 4.2, the flush at 10,100: one item removed, and a BREAK_SENT marker of detail 80. -/
theorem test_flush_cuts_a_break_short :
    let s := (at' 10100 injecting).updTx 2 fun t =>
      { t with queue := [.byte 0x79 (some 1)], inProgress := some { item := .brk 300, start := 10020, rate := 4, parity := .none } }
    (lastRec (after (.conFlush 1 [2]) s) 2).map Rec.body = some (.marker 5 80) ∧
      lastFrame (after (.conFlush 1 [2]) s) = some { kind := 0x95, tag := 1, payload := [0, 0, 1, 0] } := by decide +kernel
/-- R59 written out for 65H at EVEN: a low start bit, 1010 0110 least significant first, four ones and so a parity bit of 0,
and a high stop bit. -/
theorem test_character_with_parity :
    charLevels .even 0x65 = [false, true, false, true, false, false, true, true, false, false, true] := by decide +kernel
/-- R59: at 9600 baud a byte waits one character time after a break, over a millisecond. -/
theorem test_byte_waits_after_a_break :
    let s := ((up 2 ready).updRx 2 fun r => { r with settings := { r.settings with rate := 0 } }).updTx 2 fun t => { t with queue := [.byte 0x61 none] }
    ((after (.txItemBegin 2) s).node 2).tx.inProgress = none ∧ ((after (.txItemBegin 2) (at' 2 s)).node 2).tx.queue = [] := by decide +kernel
/-- Section 4.5, two patterns on one byte: plan 5 starts, then plan 7 preempts it. -/
theorem test_two_patterns_on_one_byte :
    let pat := fun (x : String) (fold rep : Bool) (k : Fin 16) =>
      some { bytes := ascii x, wild := 0, fold := fold, rep := rep, armed := true, action := .startPlan k, hits := 0 : Pattern }
    let s := load 7 { planOf [.delay 9] with priority := 3 } (load 5 (planOf [.delay 9]) (at' 40000 (up 0 ready)))
    let s := s.updNode 0 fun c => { c with
      window := ascii "[  812.4] Kernel pani"
      patterns := (c.patterns.set 1 (pat "panic" true true 5)).set 6 (pat "Kernel panic" false false 7) }
    let t := after (.characterReceived 0 0x63 false false) s
    ((t.node 0).exec.run.map fun r => (r.plan, r.priority, r.origin)) = some (7, 3, .matched) ∧ latched t 0 = (2, 6) ∧
      ((t.node 0).patterns[6].map Pattern.armed) = some false ∧
      ((t.node 0).hist.records.map Rec.body) =
        [.text RecFlags.none (ascii "c"), .marker 3 (5 + 256), .marker 4 3, .marker 3 (7 + 256)] := by decide +kernel

/-! ## Control lines and plans -/

/-- Section 5's example, 5,155: the debounce time expires, the view is RUNNING, POWER_UP is appended and POWER_CHANGE latched. -/
theorem test_power_good_is_accepted :
    let s := owing (.debounce 1 .pgood) (at' 5155 (ready.updInput 1 .pgood fun l => { l with pin := true, candidate := some 5145 }))
    let t := after (.debounceExpiry 1 .pgood) s
    (t.node 1).lines.view = .running ∧ (lastRec t 1).map Rec.body = some (.marker 1 1) ∧ latched t 16 = (1, 2 + 256) := by decide +kernel
/-- Section 5's example, 9,000: CUT is driven high, the view is CUT_OFF, and the reply says so. -/
theorem test_cut_is_driven :
    let t := after (.lineSet 1 [1, 2, 1, 0, 0]) (at' 9000 (up 1 ready))
    t.outputPin 1 .cut = .high ∧ (lastRec t 1).map Rec.body = some (.marker 2 0) ∧ latched t 16 = (1, 256 * 2) ∧
      (lastFrame t).map Frame.payload = some [0, 0, 1, 0, 0xFF, 0xFF, 0] := by decide +kernel
/-- Section 5's example, 11,000: the settle timer expires with PGOOD still ACTIVE: POWER_FAULT with detail 2000. -/
theorem test_stuck_load_switch :
    latched (after (.cutSettleExpiry 1) (owing (.cutSettle 1) (at' 11000 (cut 1 (at' 9000 ready))))) 17 = (1, 2000) := by decide +kernel
/-- Section 6.9, 17,050: N0's hold expires and the slot passes to N2, whose step 4 releases CUT and step 5 begins its pulse. -/
theorem test_slot_passes_to_the_waiting_node :
    let plan := planOf [.setLine .cut true, .waitLine .pgood false, .delay 5000, .takeSlot 2000, .setLine .cut false, .pulseLine .pwrbtn 200,
      .waitPower .running, .notify 1]
    let s := running 2 3 .waitingSlot 3 (load 3 plan (cut 2 (at' 17050 ready)))
    let s := owing (.slotHold 0) { s with arbiter := { count := 1, holds := [{ node := 0, start := 15050, ms := 2000 }], waiting := [{ node := 2, hold := 2000 }] } }
    let t := after (.slotHoldExpiry 0) s
    t.arbiter.holds = [{ node := 2, start := 17050, ms := 2000 }] ∧ (t.output 2 .cut).active = false ∧ t.outputPin 2 .pwrbtn = .low ∧
      ((t.node 2).exec.run.map fun r => (r.state, r.step, r.started)) = some (.pulsing, 5, 6) := by decide +kernel
/-- Section 6.9, the abort at 16,000: ABORTED, plan 3, step 3, and CUT released. -/
theorem test_abort_releases_touched_lines :
    let s := (running 2 3 .waitingSlot 3 (load 3 (planOf [.delay 1, .delay 1, .delay 1, .takeSlot 2000]) (cut 2 (at' 16000 ready)))).updRun 2 fun r =>
      { r with touched := r.touched.set 2 true }
    let t := after (.planAbort 1 [2]) { s with arbiter := { s.arbiter with waiting := [{ node := 2, hold := 2000 }] } }
    (t.output 2 .cut).active = false ∧ t.arbiter.waiting = [] ∧ latched t 31 = (1, 2 + 256 * 3 + 4096 * 3) := by decide +kernel

/-! ## USB ports -/

/-- Section 7.11, 21,610: the bus is reset with the high-speed offer answered: BUS_RESET at HIGH. -/
theorem test_bus_reset_settles_the_speed :
    let t := after (.busReset 3 true) (usb 3 ready)
    (t.node 3).port.state = .defaulted ∧ (t.node 3).port.high = true ∧ (t.node 3).port.address = 0 ∧ latched t 46 = (1, 3 + 256) := by decide +kernel
/-- Section 7.11, 21,660: one packet of 18 bytes carrying DATA1, its maximum packet field 64. -/
theorem test_device_descriptor :
    (((after (.getDescriptor 3 9 (setup true .device 0x100 0 64)) (usb 3 ready)).node 3).port.control.bind Control.nextPacket) =
      some { toggle := true, data := [18, 1, 0, 2, 0, 0, 0, 64, 0x34, 0x12, 1, 0, 0, 1, 1, 2, 3, 1] } := by decide +kernel
/-- R135: requests to other interfaces are put in STALLED; to interface 0 the device descriptor is answered. -/
theorem test_other_interface_is_stalled :
    let held := fun index : Nat => ((after (.getDescriptor 3 9 (setup true .iface 0x100 index 64)) (usb 3 ready)).node 3).port.control
    (held 1).map Control.stage = some .stalled ∧ (held 0).map Control.stage = some .data ∧
      (((after (.getConfiguration 3 9 (setup true .iface 0 1 1)) (usb 3 ready)).node 3).port.control.map Control.stage) = some .stalled := by
  decide +kernel
/-- Section 7.11, 21,680: a string of 64 bytes asked for with 255 is followed by a zero-length packet with DATA0. -/
theorem test_full_packet_is_closed :
    let c := ((after (.getDescriptor 3 9 (setup true .device 0x302 0 255)) (usb 3 ready)).node 3).port.control
    (c.bind Control.nextPacket) = some { toggle := true, data := List.replicate 64 0x41 } ∧
      (c.bind fun c => (c.acked { toggle := true, data := List.replicate 64 0x41 }).nextPacket) = some { toggle := false, data := [] } := by
  decide +kernel
/-- Section 7.11, 21,670: the address takes effect when its status packet is acknowledged. -/
theorem test_address_follows_its_status :
    let s := (usb 3 ready).updPort 3 fun p => { p with state := .defaulted, address := 0 }
    let t := after (.controlInToken 3 0) (after (.setAddress 3 0 (setup false .device 9 0 0)) s)
    (t.node 3).port.address = 0 ∧ ((after (.controlInAck 3) t).node 3).port.address = 9 ∧ ((after (.controlInAck 3) t).node 3).port.state = .addressed := by
  decide +kernel
/-- Section 7.11, 40,000: 3 ms of idleness suspend the port, which remembers CONFIGURED. -/
theorem test_idle_bus_suspends :
    let s := owing (.suspend 3) (at' 40000 ((usb 3 ready).updPort 3 fun p => { p with idleSince := 39997 }))
    ((after (.suspend 3) s).node 3).port.remembered = some .configured ∧ latched (after (.suspend 3) s) 46 = (1, 4 + 256) := by decide +kernel

/-! ## Drives and block commands -/

/-- N1 of section 9.9 with the image of Case 3 of section 8.8. -/
def drive : State := insert 1 0 image (usb 1 ready)
/-- Section 8.8, Case 3: 1,953,125 blocks, 244,141 lines, the last of 2,560 bytes and five chunks. -/
theorem test_end_of_a_large_image :
    (drive.drive 1 0).capacity = 1953125 ∧ (drive.drive 1 0).lineCount = 244141 ∧ (drive.drive 1 0).lineLength 244140 = 2560 ∧ chunkCount 2560 = 5 := by
  decide +kernel
/-- Section 8.8, Case 4: C is 341,796, in the reply of DRIVE_INSERT. -/
theorem test_partial_last_block :
    ((lastFrame (after (.driveInsert 1 (insertRecord 0 1 { handle := 7, size := 700000000, block := 2048, writable := false })) ready)).map Frame.payload) =
      some ([0, 0, 0, 1, 1, 1] ++ le 5 341796) := by decide +kernel
/-- Section 9.9, 30,000: the miss on line 125 takes slot 0 with ticket 7, and its FETCH_REQ names offset 512,000 and length 4,096. -/
theorem test_miss_sends_a_fetch :
    let s := (slot 0 6 .free drive).updDrive 1 0 fun d => { d with lastRead := some 124 }
    let t := after (.read10 1 9 false (wrapper true 4608 1000 9)) s
    ((lastFrame t).map fun f => (f.kind, f.payload)) =
        some (0xE2, [0, 7, 1, 0, 3] ++ [0xAA, 0, 0, 0] ++ le 6 512000 ++ le 2 4096) ∧
      (t.node 1).ctx.sequential = true ∧ (t.drive 1 0).lastRead = some 126 ∧ (t.drive 1 0).misses = 1 := by decide +kernel
/-- Section 8.8, Case 3: L + N is computed in 33 bits, so this read is out of range. -/
theorem test_range_check_does_not_wrap :
    ((after (.read10 1 9 false (wrapper true 512 4294967295 1)) drive).node 1).ctx.result = .failed { key := 5, code := 0x21, qualifier := 0 } := by
  decide +kernel
/-- Section 8.8, Case 5, rows 1, 4 and 5: a zero-length packet; 02H halted; 81H halted. -/
theorem test_decisions_that_stop_a_command :
    ((after (.read10 1 9 false (wrapper true 512 0 0)) drive).node 1).ctx.mode = .zlp ∧
      ((after (.read10 1 9 false (wrapper false 4096 0 8)) drive).node 1).port.haltOut = true ∧
      ((after (.read10 1 9 false (wrapper true 2048 0 8)) drive).node 1).port.haltIn = true := by decide +kernel
/-- Section 8.8, Case 5, row 7: a write to an image that is not writable is refused with 07/27/00. -/
theorem test_write_protected :
    let s := insert 1 0 { image with writable := false } (usb 1 ready)
    ((after (.write10 1 9 false (wrapper false 1024 0 2)) s).node 1).ctx.result = .failed { key := 7, code := 0x27, qualifier := 0 } := by decide +kernel
/-- Section 8.8, Case 5, row 8: INQUIRY with a = 36 and E = 96 sends 36 bytes. -/
theorem test_inquiry_runs :
    let t := after (.inquiry 1 9 false (shortWrapper true 96 36)) drive
    (t.node 1).ctx.dn = 36 ∧ (t.node 1).ctx.composed = List.replicate 36 1 := by decide +kernel
/-- Section 8.8, Case 3: READ_CAPACITY returns 1,953,124 and 512. -/
theorem test_read_capacity :
    ((after (.readCapacity 1 9 false (wrapper true 8 0 0)) drive).node 1).ctx.composed = [0, 0x1D, 0xCD, 0x64, 0, 0, 2, 0] := by decide +kernel
/-- Section 8.8, Case 6: the 16-byte packet ends the write short with 0B/4B/00, and the unit being filled is discarded. -/
theorem test_write_ends_short :
    let s := (inPhase 1 .dataOut .write (command 0x2A (wrapper false 2048 0 4)) drive).updPort 1 fun p => { p with high := false }
    let s := entry 0 1 (entryOf 1 false) (s.updCtx 1 fun x => { x with moved := 1280, filling := some (2, List.replicate 256 0) })
    let t := after (.bulkOutPacket 1 9 false (List.replicate 16 0)) s
    (t.node 1).ctx.result = .failed { key := 0x0B, code := 0x4B, qualifier := 0 } ∧ (t.node 1).ctx.phase = .awaitHost ∧
      (t.node 1).ctx.moved = 1296 ∧ (t.node 1).ctx.filling = none := by decide +kernel
/-- Section 8.8, Case 6: both units have been answered: FAILED with residue 752. -/
theorem test_short_write_residue :
    let s := (inPhase 1 .awaitHost .none (command 0x2A (wrapper false 2048 0 4)) drive).updCtx 1 fun x =>
      { x with running := true, moved := 1296, result := .failed { key := 0x0B, code := 0x4B, qualifier := 0 } }
    ((after (.writeDone 1 [0, 1, 0]) (entry 0 1 (entryOf 1 false) s)).node 1).ctx.statusBytes = ascii "USBS" ++ [5, 0, 0, 0] ++ le 4 752 ++ [1] := by
  decide +kernel

/-! ## Fetching -/

/-- Section 9.9 at 30,030: line 126 of N1 in slot 0 with ticket 8, pinned by the read. -/
def fetching : State :=
  let s := (inPhase 1 .dataIn .read (command 0x28 (wrapper true 4608 1000 9)) drive).updCtx 1 fun x =>
    { x with moved := 4096, ask := some { index := 126, generation := 3, state := .attached } }
  slot 0 8 (.sent 0 3000) (cached (line 1 126 (.fetching 0) 1) s)
/-- Section 9.9, 30,031: chunk 2 with ticket 7 is stale. -/
theorem test_stale_chunk :
    let t := after (.fetchData 1 [0, 7, 3, 2, 0xAB]) fetching
    latched t 50 = (1, 0x60) ∧ t.cache = fetching.cache := by decide +kernel
/-- Section 8.8, Case 2: the fetch of line 126 fails after eight packets, with E of 4,608: a zero-length packet, sense 03/11/00. -/
theorem test_failed_fetch_fails_the_read :
    let t := after (.fetchFail 1 [0, 8, 3, 1]) fetching
    (t.node 1).ctx.result = .failed { key := 3, code := 0x11, qualifier := 0 } ∧ (t.node 1).ctx.mode = .zlp ∧ t.cache.lines = [] := by decide +kernel
/-- R180: CACHE_DROP dooms the line that is being fetched. -/
theorem test_cache_drop_dooms :
    ((after (.cacheDrop 1 [1, 0]) (slot 0 8 (.sent 0 3000) (cached (line 1 126 (.fetching 0) 0) drive))).cache.lines.map Line.state) = [.doomed 0] := by
  decide +kernel

/-! ## Events -/

/-- The table of section 10's example at 50,500: CON_MATCH of N0 at level 3, POWER_CHANGE of N0 at level 1. -/
def table : State :=
  let s := (at' 50000 ready).updLink fun l => { l with threshold := 2 }
  latch (.node 0 .conMatch) 2 (latch (.node 0 .conMatch) 2 (at' 50300 (latch (.node 0 .powerChange) (256 * 2) (level 0 3 s))))
/-- Section 10's example: the summary of 50,300 names ids 0 and 4, and a second hit queues none. -/
theorem test_summary_mask : table.link.queue = [{ kind := 0xE5, tag := 1, payload := [0x11, 0, 0, 0, 0, 0, 0, 0] }] := by decide +kernel
/-- Section 10's example, 50,500: two entries, id 0 at level 3 with count 2, then id 4 at level 1. -/
theorem test_take_reports_the_higher_level_first :
    ((lastFrame (after (.eventTake 1 (le 8 (2 ^ 52 - 1))) table)).map Frame.payload) =
      some ([0, 0, 2] ++ List.replicate 8 0 ++ ([0, 3, 2, 2, 0] ++ le 4 50300) ++ ([4, 1, 1, 0, 2] ++ le 4 50000)) := by decide +kernel

end Sys2Proof.Tests
end

