-- ==== Sys2Proof/Tests/Witnesses.lean ====
section
/-! SUPPORT. For every statement with hypotheses, one theorem that shows states and operands that meet them, clause by clause and
at the boundary values of their ranges. A hypothesis about every value of an optional field is met by showing the field empty,
or its one value; one about an answer of exec or step is met by the answer itself. -/

namespace Sys2Proof.Tests

open Sys2Proof Sys2Proof.Machine

-- One theorem after the other: their kernel evaluations side by side would ask for more threads than the check allows.
set_option Elab.async false

/-! ## The queue of commands and the frames -/

/-- A part with one command waiting, one node RUNNING and one frame queued. -/
def waiting : State := { up 0 (frames 1 ready) with pending := [.nop 1 []] }

theorem witness_StepRunsFront : waiting.pending = [.nop 1 []] ∧ ready.pending = [] := by decide +kernel

theorem witness_FrameReachesItsBlock :
    Fresh ready ∧ (Instr.textLoad 7 (List.replicate 600 0)).frame = some { kind := 0x16, tag := 7, payload := List.replicate 600 0 } ∧
      (Instr.textLoad 7 (List.replicate 600 0)).wf = true ∧ (Instr.badKind 0xFF 0 []).frame ≠ none ∧ (Instr.badKind 0xFF 0 []).wf = true ∧
      (Instr.unknownKind 0x5F 0 []).frame ≠ none ∧ (Instr.unknownKind 0x5F 0 []).wf = true := by decide +kernel

theorem witness_FrameBytesTellFramesApart :
    (let f : Frame := { kind := 1, tag := 2, payload := List.replicate 20 3 }; f.payload.length ≤ 600 ∧ f.bytes = f.bytes) ∧
      (List.replicate 600 (0 : Byte)).length ≤ 600 ∧ (0 : Byte) ≠ 255 := by decide +kernel

/-! ## Invariants of every step -/

/-- The waiting command is carried out. -/
theorem waiting_steps : ∃ t, step waiting = .next t := ⟨_, rfl⟩

theorem witness_QueueStaysBounded : QueueInv waiting ∧ ∃ t, step waiting = .next t := by
  refine ⟨⟨by decide +kernel, by decide +kernel, by decide +kernel, by decide +kernel, by decide +kernel, fun i w h => ?_, by decide +kernel⟩,
    waiting_steps⟩
  have e : ∀ i : Fin 32, waiting.cache.writes[i].use = none := by decide +kernel
  exact absurd ((e i).symm.trans h) (by simp)

theorem witness_SourceRecordsStayWellFormed : EventInv waiting ∧ ∃ t, step waiting = .next t :=
  ⟨by unfold EventInv; decide +kernel, waiting_steps⟩

theorem witness_DarkNodesSendNothing : TxInv waiting ∧ ∃ t, step waiting = .next t :=
  ⟨by unfold TxInv; decide +kernel, waiting_steps⟩

theorem witness_PullUpNeedsItsConditions : PullUpInv waiting ∧ ∃ t, step waiting = .next t :=
  ⟨by unfold PullUpInv; decide +kernel, waiting_steps⟩

theorem witness_ExecutionsAndSlotsStayBounded : ExecInv waiting ∧ ∃ t, step waiting = .next t := by
  refine ⟨⟨fun n r h => ?_, by decide +kernel⟩, waiting_steps⟩
  have e : ∀ n, (waiting.node n).exec.run = none := by decide +kernel
  simp [e n] at h

/-- RingInv of a part with no record in history and none open, by what can be decided of it. -/
theorem rings_of_empty (s : State)
    (e : ∀ n, (s.node n).hist.records = [] ∧ (s.node n).rx.opened = none)
    (d : ∀ n, 4 ≤ (s.node n).hist.reserve ∧ (s.node n).hist.reserve ≤ 64 ∧ (s.node n).hist.maximum ≤ 256 ∧
      (s.node n).hist.reserve ≤ (s.node n).hist.holding ∧ (s.node n).hist.holding ≤ (s.node n).hist.maximum ∧
      (s.node n).hist.size = (s.node n).hist.records.length ∧
      ((s.node n).hist.cursor - (s.node n).hist.oldest).toNat ≤ (s.node n).hist.size)
    (p : ∀ n, (∀ p ∈ (s.node n).hist.filled ++ [(s.node n).hist.current], pageUsed p ≤ 512) ∧
      16 ≤ (s.node n).rx.settings.recMax ∧ (s.node n).rx.settings.recMax ≤ 240) : RingInv s := by
  intro n
  obtain ⟨a, b, c, f, g, h, i⟩ := d n
  obtain ⟨j, k, l⟩ := p n
  exact ⟨a, b, c, f, g, h, i, fun i r x => by simp [(e n).1] at x, j, k, l, fun o x => by simp [(e n).2] at x⟩

theorem waiting_rings : RingInv waiting :=
  rings_of_empty waiting (by decide +kernel) (by decide +kernel) (by decide +kernel)

theorem witness_HistoryHasNoHole : RingInv waiting ∧ ∃ t, step waiting = .next t := ⟨waiting_rings, waiting_steps⟩

theorem witness_ViewFollowsTheLines : ViewInv waiting ∧ ∃ t, step waiting = .next t :=
  ⟨by unfold ViewInv; decide +kernel, waiting_steps⟩

/-! ## Rules of the whole machine -/

theorem witness_OnlyTheIncrementMovesTime :
    (∃ t, exec (.nop 1 []) ready = .next t) ∧ (∃ t, exec .timebaseIncrement ready = .next t) ∧ ∃ t, exec .powerOnReset ready = .next t :=
  ⟨⟨_, rfl⟩, ⟨_, rfl⟩, ⟨_, rfl⟩⟩

theorem witness_QueueKeepsItsOrder :
    (∃ t, exec .headFrameLeaves (frames 2 ready) = .next t) ∧ Instr.headFrameLeaves ≠ .powerOnReset ∧
      Instr.headFrameLeaves ≠ .silenceTimerExpiry ∧ Instr.headFrameLeaves ≠ .timebaseIncrement ∧
      ∀ tail, Instr.headFrameLeaves ≠ .transactionEnd tail :=
  ⟨⟨_, rfl⟩, by decide, by decide, by decide, by simp⟩

theorem witness_PorstStopsThePart :
    ({ ready with porst := true } : State).porst = true ∧ ready.link.txn = .active ∧ heardUnderPorst (.nop 1 []) = false ∧ heardUnderPorst .timebaseIncrement = false := by
  decide +kernel

theorem witness_RefusalChangesNothing :
    let i : Instr := .poolConfig 1 [4, 16, 0, 64, 0]
    let p : List Byte := [4, 16, 0, 64, 0]
    i.frame = some { kind := 8, tag := 1, payload := p } ∧ i.wf = true ∧ Ready (frames 31 ready) ∧ requestLength 8 p = some true ∧
      (runRequest 8 1 p (heard (frames 31 ready))).2 = some (Reply.refuse .badArg) ∧ (Reply.refuse .badArg).status ≠ .ok := by decide +kernel

theorem witness_AttnFollowsTheQueue :
    (ready.porst = false ∧ (silent (frames 1 ready)).porst = false ∧ (silent (frames 1 ready)).isDue .silence = true) ∧
      (let s := ready.updLink fun l => { l with inbound := .ignore, resetPending := some 5 }
       s.porst = false ∧ s.link.txn = .active ∧ s.link.inbound = .ignore ∧ s.link.resetPending = some 5 ∧ s.anyOutputActive = false) := by
  decide +kernel

/-! ## The management link -/

theorem witness_TransactionsBeginAndEnd :
    (State.reset.porst = false ∧ State.reset.link.txn = .idle ∧
        ∃ f : Frame, State.reset.link.queue = f :: [] ∧ f.bytes.length = 9) ∧
      (let between := ready.updLink fun l => { l with txn := .idle }
       between.porst = false ∧ between.link.txn = .idle ∧ between.link.queue = []) ∧
      (Fresh ready ∧ ready.link.resetPending = none ∧ ([] : List Byte).headD 0 = 0 ∧ ([0, 5] : List Byte).headD 0 = 0) ∧
      ((1 : Byte) ≠ 0 ∧ (List.replicate 600 (0 : Byte)).length ≤ 600 ∧ 0 < 1 ∧ 605 < 6 + (List.replicate 600 (0 : Byte)).length) ∧
      (ready.updLink fun l => { l with txn := .ignored }).link.txn = .ignored :=
  ⟨⟨rfl, rfl, _, rfl, by decide +kernel⟩, by decide +kernel⟩

theorem witness_DiscardedFramesAreCounted :
    (Fresh ready ∧ (3 : Byte) ≠ 0 ∧ 600 < (601 : BitVec 16).toNat ∧ 600 < (0xFFFF : BitVec 16).toNat) ∧
      ((0 : BitVec 16) ≠ crc (headerBytes 1 7 ([] : List Byte).length ++ [])) ∧
      (ready.link.online = .online ∧ 0x64 ≤ (0x64 : Byte).toNat ∧ 0x64 ≤ (0xFF : Byte).toNat) ∧
      ((Instr.nop 7 []).frame = some { kind := 1, tag := 7, payload := [] } ∧ (Instr.nop 7 []).wf = true ∧ (1 : Byte).toNat < 0x60 ∧
        Fresh (frames 32 ready) ∧ (frames 32 ready).link.online = .online ∧ 32 ≤ (frames 32 ready).link.queue.length) ∧
      ((Instr.writeDone 7 []).frame = some { kind := 0x62, tag := 7, payload := [] } ∧ (Instr.writeDone 7 []).wf = true ∧
        0x60 ≤ (0x62 : Byte).toNat ∧ (0x63 : Byte).toNat ≤ 0x63 ∧ answerLengthOk 0x62 [] = false ∧ answerLengthOk 0x60 [] = false) := by
  decide +kernel

theorem witness_UnservedRequestsAreAnswered :
    (Instr.unknownKind 0x5F 0 []).wf = true ∧ Ready ready ∧ (Instr.nop 7 [0]).frame = some { kind := 1, tag := 7, payload := [0] } ∧
      (Instr.nop 7 [0]).wf = true ∧ requestLength 1 [0] = some false := by decide +kernel

theorem witness_LatchingCounts :
    (level 48 0 ready).events.recs[Source.linkError.id].level = 0 ∧
      (ready.events.recs[Source.linkError.id].level ≠ 0 ∧ ready.link.threshold ≤ ready.events.recs[Source.linkError.id].level ∧
        (frames 30 ready).link.online = .online ∧ (frames 30 ready).link.held = false ∧ (frames 30 ready).link.queue.length ≤ 30 ∧
        (∀ f ∈ (frames 30 ready).link.queue, f.kind ≠ 0xE5)) ∧
      ¬(frames 31 ready).link.queue.length ≤ 30 ∧
      (let s := ready.updLink fun l => { l with threshold := 2 }
       s.events.recs[Source.linkError.id].level < s.link.threshold) ∧
      Source.linkError.id = Source.linkError.id := by decide +kernel

/-- A part whose head frame is being shifted out. -/
def shifting (k : Nat) (s : State) : State := (frames k s).updLink fun l => { l with shifting := true }

theorem witness_HeadFrameLeavesInOrder :
    let f : Frame := { kind := 0x81, tag := 0, payload := [0, 0] }
    let base := fun (k : Nat) (s : State) => s.porst = false ∧ s.link.txn = .active ∧ s.link.shifting = true ∧
      s.link.queue = f :: List.replicate k f ∧ s.link.online = .online ∧ s.link.held = false
    let owed := { shifting 31 ready with events := { ready.events with owed := true } }
    let asked := (slot 0 1 (.offered 0 3000) (cached (line 0 5 (.fetching 0) 0) (shifting 29 ready))).updLink fun l => { l with waiting := [.fetch 0] }
    let streams := (shifting 21 ready).updHist 0 fun h => { h with streaming := true, next := 1, current := [textRec 0 0 RecFlags.none "a"] }
    (base 0 (shifting 1 ready) ∧ ready.events.owed = false ∧ ready.link.waiting = [] ∧ ∀ n, ready.wantsToSend n = false) ∧
      (base 30 owed ∧ owed.events.owed = true ∧ (List.replicate 30 f).length ≤ 30 ∧ ∀ x ∈ List.replicate 30 f, x.kind ≠ 0xE5) ∧
      (base 28 asked ∧ asked.events.owed = false ∧ (List.replicate 28 f).length ≤ 28 ∧ asked.link.waiting = [.fetch 0] ∧
        asked.slotLine 0 = some (line 0 5 (.fetching 0) 0) ∧ asked.cache.slots[(0 : Fin 16)].use = .offered 0 3000) ∧
      (base 20 streams ∧ streams.events.owed = false ∧ streams.link.waiting = [] ∧ (List.replicate 20 f).length ≤ 20 ∧
        ∃ n, streams.wantsToSend n = true) := by decide +kernel

theorem witness_FirstFrameReturnsTheLink :
    (Fresh (away ready) ∧ (away ready).link.online = .autonomous ∧ (away ready).link.queue = [] ∧ (away ready).events.recs[(49 : Fin 52)].level ≠ 0) ∧
      ((Instr.nop 5 []).frame = some { kind := 0x01, tag := 5, payload := [] } ∧ (Instr.nop 5 []).wf = true) ∧
      ((Instr.partReset 5 []).frame = some { kind := 0x04, tag := 5, payload := [] } ∧ (Instr.partReset 5 []).wf = true ∧
        (away ready).anyOutputActive = false ∧ (away (cut 1 ready)).anyOutputActive = true) ∧
      ((Instr.eventTake 5 (le 8 (2 ^ 52 - 1))).frame = some { kind := 0x41, tag := 5, payload := le 8 (2 ^ 52 - 1) } ∧
        (Instr.eventTake 5 (le 8 (2 ^ 52 - 1))).wf = true) ∧
      ((Instr.badKind 0xFF 5 []).frame = some { kind := 0xFF, tag := 5, payload := [] } ∧ (Instr.badKind 0xFF 5 []).wf = true ∧
        (Instr.unknownKind 0x5F 5 [1]).frame = some { kind := 0x5F, tag := 5, payload := [1] } ∧ (Instr.unknownKind 0x5F 5 [1]).wf = true) := by
  decide +kernel

theorem witness_NopAndPartInfoReport :
    Ready ready ∧ Ready (frames 31 ready) ∧ ([0] : List Byte) ≠ [] ∧ (List.replicate 600 (0 : Byte)).length ≤ 600 := by decide +kernel

theorem witness_LinkConfigSets : Ready ready ∧ ready.link.online = .online ∧ 0 < 65536 ∧ 65535 < 65536 := by decide +kernel

theorem witness_PartResetWaitsForCsn :
    let waits := fun s : State => s.updLink fun l => { l with inbound := .ignore, resetPending := some 5 }
    (Ready (cut 1 ready) ∧ (cut 1 ready).anyOutputActive = true) ∧ (Ready ready ∧ ready.anyOutputActive = false) ∧
      (let s := waits ready
       s.link.txn = .active ∧ s.link.inbound = .ignore ∧ s.link.resetPending = some 5 ∧ s.anyOutputActive = false) ∧
      (let s := waits (cut 1 ready)
       s.link.txn = .active ∧ s.link.inbound = .ignore ∧ s.link.resetPending = some 5 ∧ s.anyOutputActive = true ∧ s.link.online = .online ∧
         (away s).link.txn = .active ∧ (away s).link.inbound = .ignore ∧ (away s).link.resetPending = some 5 ∧
         (away s).anyOutputActive = true ∧ (away s).link.online = .autonomous) := by
  decide +kernel

theorem witness_TimebaseIncreases : ready.porst = false ∧ ready.due = [] ∧ ∀ n, (ready.node n).tx.queue = [] := by decide +kernel

/-! ## Buffer memory -/

theorem witness_PoolConfigSetsTheRing :
    Ready ready ∧ ([3, 20, 0, 64, 0] : List Byte).length = 5 ∧ 3 < u8 [4, 0, 0, 0, 0] 0 ∧
      ((0 : Node) : Nat) = u8 [0, 20, 0, 64, 0] 0 ∧
      -- the sum of the reserves
      (let s := (ready.updHist 1 fun h => { h with reserve := 449 }).updHist 2 fun h => { h with reserve := 31 }
       512 < 17 + ((allNodes.filter (· ≠ 0)).map fun m => (s.node m).hist.reserve).sum ∧
         16 + ((allNodes.filter (· ≠ 0)).map fun m => (s.node m).hist.reserve).sum ≤ 512) ∧
      -- the supply
      (let s := ready.updPool fun p => { p with free := 3 }
       s.pool.free + 8 * (s.cache.lines.filter fun l => decide (l.state = .valid) && l.pins == 0).length < 20 - (s.node 0).hist.holding) ∧
      -- a maximum below the holding, with spare pages; and a reserve above the holding
      (ready.pool.waiting = [] ∧ 4 ≤ (ready.node 0).hist.holding ∧ (ready.node 0).hist.holding - 4 ≤ (ready.node 0).hist.spare) ∧
      ((ready.node 0).hist.holding < 64 ∧ 64 - (ready.node 0).hist.holding ≤ ready.pool.free) := by decide +kernel

theorem witness_PagesAreConserved :
    (RingInv waiting ∧ pageSum waiting = 1024 ∧ ∃ t, step waiting = .next t) ∧
      (∀ m, 1 ≤ (ready.node m).hist.reserve) ∧ 4 ≤ 4 ∧ 4 ≤ 4 ∧ 4 - (ready.node 0).hist.holding ≤ ready.supply ∧
      64 - (ready.node 0).hist.holding ≤ ready.supply ∧ demandAlloc ready = .got (ready.updPool fun p => { p with free := 952 }) :=
  ⟨⟨waiting_rings, by decide +kernel, waiting_steps⟩, by decide +kernel, by decide, by decide, by decide +kernel, by decide +kernel, rfl⟩

/-- N0 of a part with a READ(10) whose line waits for pages, its slot reserved. -/
def waitsForPages : State :=
  let s := (inPhase 0 .dataIn .read (command 0x28 (wrapper true 512 0 1)) (insert 0 0 image (usb 0 ready))).updCtx 0 fun x =>
    { x with ask := some { index := 0, generation := 3, state := .waitingPages } }
  (slot 0 6 (.reserved 0) s).updPool fun p => { p with waiting := [{ node := 0, start := 0, timeout := 3000 }] }

theorem witness_DemandAllocationInOrder :
    (ready.cache.lines.length < ready.cache.limit ∧ 8 ≤ (ready.updPool fun p => { p with free := 8 }).pool.free) ∧
      (let s := (cached (line 0 1 .valid 0) (cached (line 0 0 .valid 1) ready)).updPool fun p => { p with free := 7 }
       ¬(s.cache.lines.length < s.cache.limit ∧ 8 ≤ s.pool.free) ∧ s.cache.lines = [line 0 0 .valid 1] ++ line 0 1 .valid 0 :: [] ∧
         (∀ x ∈ [line 0 0 .valid 1], x.evictable = false) ∧ (line 0 1 .valid 0).evictable = true) ∧
      (let s := ready.updCache fun c => { c with limit := 0 }
       (∀ l ∈ s.cache.lines, l.evictable = false) ∧ s.cache.limit ≤ s.cache.lines.length) ∧
      (let s := waitsForPages
       s.porst = false ∧ s.pool.waiting = [{ node := 0, start := 0, timeout := 3000 }] ∧ s.cache.lines.length < s.cache.limit ∧ 8 ≤ s.pool.free ∧
         s.reservedSlot 0 = some 0 ∧ (s.node 0).ctx.command = some (command 0x28 (wrapper true 512 0 1)) ∧
         (s.node 0).ctx.ask = some { index := 0, generation := 3, state := .waitingPages }) := by decide +kernel

/-- A part with 7 free pages and one spare page over its reserve in N1's ring. -/
def tight : State := (ready.updPool fun p => { p with free := 7 }).updHist 1 fun h => { h with spare := h.spare + 1 }

theorem witness_DemandAllocationInOrder_trims :
    RingInv tight ∧
      ((∀ l ∈ tight.cache.lines, l.evictable = false) ∧ tight.cache.lines.length < tight.cache.limit ∧ tight.pool.free = 7 ∧
        8 ≤ tight.pool.free + tight.totalSurplus ∧ tight.events.recs[Source.poolPressure.id].level ≠ 0) ∧
      (0 < (tight.node 1).hist.surplus ∧ (∀ m, m < 1 → (tight.node m).hist.surplus < (tight.node 1).hist.surplus) ∧
        (∀ m, 1 < m → (tight.node m).hist.surplus ≤ (tight.node 1).hist.surplus) ∧ 0 < (tight.node 1).hist.spare) ∧
      -- the same with a filled page and no spare one
      (let s := tight.updHist 1 fun h => { h with filled := [[textRec 0 0 RecFlags.none "a"]], spare := 0, reserve := 1, next := 1 }
       0 < (s.node 1).hist.surplus ∧ (∀ m, m < 1 → (s.node m).hist.surplus < (s.node 1).hist.surplus) ∧
         (∀ m, 1 < m → (s.node m).hist.surplus ≤ (s.node 1).hist.surplus) ∧ (s.node 1).hist.spare = 0 ∧
         ((s.node 1).hist.filled.head?.bind List.getLast?) = some (textRec 0 0 RecFlags.none "a")) ∧
      -- too little even with every surplus
      (let s := ready.updPool fun p => { p with free := 7 }
       (∀ l ∈ s.cache.lines, l.evictable = false) ∧ s.cache.lines.length < s.cache.limit ∧ s.pool.free + s.totalSurplus < 8) :=
  ⟨rings_of_empty tight (by decide +kernel) (by decide +kernel) (by decide +kernel), by decide +kernel⟩

theorem witness_DemandAllocationInOrder_prefetches :
    let s := insert 0 0 image ready
    let few := (List.finRange 12).foldl (fun t (k : Fin 12) => slot (Fin.castLE (by decide) k) 1 (.reserved 1) t) s
    ((ready.drive 0 0).lineCount ≤ 0 ∧ 244140 < (s.drive 0 0).lineCount ∧ (s.drive 0 0).lineCount ≤ 244141) ∧
      (cached (line 0 0 .valid 0) s).findLine 0 0 ((cached (line 0 0 .valid 0) s).drive 0 0).generation 0 ≠ none ∧
      (few.freeSlots = 4 ∧ few.freeSlots < 5 ∧ few.findLine 0 0 3 0 = none) ∧
      ((s.updPort 0 fun p => { p with state := .suspended }).node 0).port.state = .suspended ∧
      (away s).link.online = .autonomous ∧
      ((∀ l ∈ s.cache.lines, l.evictable = false) ∧ (s.updCache fun c => { c with limit := 0 }).cache.limit ≤ s.cache.lines.length ∧
        (s.updPool fun p => { p with free := 7 }).pool.free < 8) ∧
      (s.findLine 0 0 (s.drive 0 0).generation 0 = none ∧ 5 ≤ s.freeSlots ∧ (s.node 0).port.state ≠ .suspended ∧
        s.link.online = .online ∧ s.cache.lines.length < s.cache.limit ∧ 8 ≤ s.pool.free ∧ s.lowestFreeSlot = some 0) := by
  dsimp only; and_intros <;> decide +kernel

theorem witness_DemandAllocationInOrder_waits :
    let s := (cached (line 1 0 (.fetching 1) 1) waitsForPages).updCache fun c => { c with limit := 1 }
    s.porst = false ∧ s.pool.waiting = [{ node := 0, start := 0, timeout := 3000 }] ∧ demandAlloc s = .waits :=
  ⟨by decide +kernel, by decide +kernel, rfl⟩

/-! ## Console capture and history -/

theorem witness_CharacterIsPlaced :
    (ready.porst = false ∧ (ready.updRx 0 fun r => { r with inBreak := true }).porst = false ∧
        ((ready.updRx 0 fun r => { r with inBreak := true }).node 0).rx.inBreak = true) ∧
      (ready.node 0).rx.inBreak = false ∧ ¬(true = true ∧ (0x41 : Byte) = 0) ∧ ¬(false = true ∧ (0 : Byte) = 0) := by decide +kernel

theorem witness_BreakAndIdleGapClose :
    let s := owing (.idleGap 0) (at' 1050 (opened 0 1000 (ascii "login: ") ready))
    (s.porst = false ∧ (s.node 0).rx.inBreak = false ∧ ((s.node 0).rx.opened.map OpenRec.payload) = some (ascii "login: ") ∧
        s.events.recs[(Source.node 0 .conBreakIn).id].level ≠ 0) ∧
      (ready.node 0).rx.opened = none ∧ s.isDue (.idleGap 0) = true := by decide +kernel

theorem witness_HistoryIsRead :
    Ready ready ∧ 3 < u8 [4, 0, 0, 0, 0, 0, 0] 0 ∧ ([1, 41, 0, 0, 0, 40, 0] : List Byte).length = 7 ∧ ((1 : Node) : Nat) = u8 [1, 41, 0, 0, 0, 40, 0] 0 := by decide +kernel

theorem witness_StreamingIsSet :
    (Ready ready ∧ ([3, 0, 0, 0, 0, 0] : List Byte).length = 6 ∧ ((3 : Node) : Nat) = u8 [3, 0, 0, 0, 0, 0] 0 ∧ u8 [3, 0, 0, 0, 0, 0] 1 = 0) ∧
      (Ready (frames 21 ready) ∧ u8 [3, 1, 0, 0, 0, 0] 1 = 1 ∧ 20 < (frames 21 ready).link.queue.length) ∧
      (let s := (frames 20 ready).updHist 0 fun h => { h with streaming := true, next := 1, current := [textRec 0 0 RecFlags.none "a"] }
       s.admits 12 = true ∧ (arbiterOrder s.lastServed).find? s.wantsToSend = some 0) := by decide +kernel

/-! ## The consoles -/

theorem witness_ConsoleIsConfigured :
    let p : List Byte := [3, 7, 2, 16, 50, 0, 1, 0, 0]
    (Ready ready ∧ p.length = 9 ∧ 3 < u8 [4, 0, 0, 0, 0, 0, 0, 0, 0] 0) ∧
      (((3 : Node) : Nat) = u8 p 0 ∧ u8 p 1 ≤ 7 ∧ u8 p 2 = Parity.odd.num ∧ u8 p 6 ≤ 1 ∧ u8 p 7 ≤ 1 ∧ .idleGap 3 ∉ ready.due ∧
        (7 ≠ (ready.node 3).rx.settings.rate ∨ Parity.odd ≠ (ready.node 3).rx.settings.parity)) ∧
      -- the rate and parity in force, with an open record of 15 bytes, which 16 does not close, and of 16 bytes, which it does
      ((4 : Nat) = (ready.node 3).rx.settings.rate ∧ Parity.none = (ready.node 3).rx.settings.parity ∧
        (((opened 3 0 (List.replicate 15 0) ready).node 3).rx.opened.map fun o => o.payload.length) = some 15 ∧
        (((opened 3 0 (List.replicate 16 0) ready).node 3).rx.opened.map fun o => o.payload.length) = some 16 ∧
        clamp 16 240 (u8 p 3) = 16) := by decide +kernel

theorem witness_TextsAndPatternsAreLoaded :
    (Ready ready ∧ (List.replicate 32 (0 : Byte)).length ≤ 32 ∧ 15 < (16 : Byte).toNat ∧ ((15 : Fin 16) : Nat) = (15 : Byte).toNat ∧
        ∀ n, ready.waitingOn n .waitingQueue ≠ some (.sendText 15)) ∧
      (42 < (List.replicate 43 (0 : Byte)).length ∧ (List.replicate 600 (0 : Byte)).length ≤ 600 ∧
        (let least : List Byte := [3, 7, 1, 1, 2, 16, 0, 0, 0, 0]
         10 ≤ least.length ∧ u8 least 4 = 2 ∧ 15 < u8 least 5) ∧
        (List.replicate 42 (4 : Byte)).length ≤ 42 ∧ 3 < u8 (List.replicate 42 4) 0 ∧ ([4, 0, 0, 0] : List Byte).length = 4 ∧
        3 < u8 [4, 0, 0, 0] 0 ∧ 7 < u8 [3, 8, 0, 0] 1 ∧ 1 < u8 [3, 7, 2, 0] 2 ∧ 1 < u8 [3, 7, 1, 2] 3) ∧
      (let s := running 2 3 .waitingQueue 0 (load 3 (planOf [.sendText 15]) ready)
       Ready s ∧ s.waitingOn 2 .waitingQueue = some (.sendText 15)) ∧
      (33 < (List.replicate 34 (0 : Byte)).length ∧
        (let s := load 3 (planOf [.sendText 15]) ready
         Ready s ∧ s.plans[(3 : Fin 16)] = some (planOf [.sendText 15]) ∧ s.hostPulse 2 = false ∧ (s.node 2).exec.run = none ∧
           (planOf [.sendText 15]).steps = [{ kind := .sendText 15, timeout := 0, onFail := .abort }] ∧ s.texts[(15 : Fin 16)] = [])) ∧
      (let s := running 2 3 .waitingMatch 0 (load 3 (planOf [.waitMatch 7]) ready)
       Ready s ∧ s.waitingOn 2 .waitingMatch = some (.waitMatch 7) ∧ s.waitingOn 2 .waitingMatch ≠ some (.waitMatch 6)) ∧
      ((PatAction.startPlan 15) = .startPlan 15 ∧ (15 : Byte).toNat = (15 : Fin 16)) ∧
      ((ready.node 0).patterns[(7 : Fin 8)] = none) ∧
      (let q : Pattern := { bytes := [1], wild := 0, fold := false, rep := false, armed := false, action := .none, hits := 65535 }
       let s := ready.updNode 0 fun c => { c with patterns := c.patterns.set 7 (some q) }
       Ready s ∧ (s.node 0).patterns[(7 : Fin 8)] = some q) := by decide +kernel

theorem witness_InjectionQueuesItems :
    let fill := fun k : Nat => (up 2 ready).updTx 2 fun t => { t with queue := List.replicate k (.brk 1) }
    (([0] : List Byte).length < 2 ∧ 257 < (List.replicate 258 (0 : Byte)).length ∧ (List.replicate 600 (0 : Byte)).length ≤ 600 ∧
        2 ≤ ([4, 0] : List Byte).length ∧ (List.replicate 257 (4 : Byte)).length ≤ 257 ∧ 3 < u8 [4, 0] 0 ∧ 3 < u8 [4, 0, 0] 0) ∧
      (Ready ready ∧ (List.replicate 255 (0 : Byte)).length < 256 ∧ (ready.node 2).lines.view ≠ .running) ∧
      (Ready (fill 1) ∧ ((fill 1).node 2).lines.view = .running ∧ 256 - ((fill 1).node 2).tx.queue.length < 255 + 1) ∧
      (Ready (fill 0) ∧ ((fill 0).node 2).lines.view = .running ∧ 255 + 1 ≤ 256 - ((fill 0).node 2).tx.queue.length) ∧
      (Ready (fill 256) ∧ 256 ≤ ((fill 256).node 2).tx.queue.length ∧ ((fill 255).node 2).tx.queue.length < 256) ∧
      (ready.waitingOn 2 .waitingQueue = none ∧ (ready.node 2).tx.inProgress = none) ∧
      (let s := (fill 1).updTx 2 fun t => { t with inProgress := some { item := .brk 300, start := 0, rate := 4, parity := .none } }
       Ready s ∧ s.waitingOn 2 .waitingQueue = none ∧ (s.node 2).tx.inProgress = some ⟨.brk 300, 0, 4, .none⟩) := by decide +kernel

theorem witness_ItemsAreSent :
    let tx := fun (q : List TxItem) (p : Option TxProgress) => (at' 5 (up 0 ready)).updTx 0 fun t => { t with queue := q, inProgress := p, lastWasByte := true }
    let paced := fun s : State => s.updRx 0 fun r => { r with settings := { r.settings with pacing := 6, echo := true } }
    (let s := tx [.brk 1] none
     s.porst = false ∧ (s.node 0).tx.queue = [.brk 1] ∧ s.waitingOn 0 .waitingQueue = none ∧ (s.node 0).tx.inProgress = none) ∧
      (let s := tx [.byte 1 none] none
       (s.node 0).tx.queue = [.byte 1 none] ∧ (s.node 0).tx.inProgress = none ∧
         (s.node 0).rx.settings.pacing ≤ (s.timebase - (s.node 0).tx.lastByteEnd).toNat) ∧
      (let s := paced (tx [.byte 1 none] none)
       (s.node 0).tx.lastWasByte = true ∧ (s.timebase - (s.node 0).tx.lastByteEnd).toNat < (s.node 0).rx.settings.pacing) ∧
      (let s := paced (tx [] (some ⟨.byte 1 (some 256), 5, 4, .none⟩))
       (s.node 0).tx.inProgress = some ⟨.byte 1 (some 256), 5, 4, .none⟩ ∧ (s.node 0).rx.settings.echo = true) ∧
      -- after a break: at 9600 baud with parity a character takes more than one and less than two milliseconds
      (let even := fun s : State => (s.updRx 0 fun r => { r with settings := { r.settings with rate := 0, parity := .even } }).updTx 0 fun t =>
           { t with lastWasByte := false }
       let s := even (tx [.byte 1 none] none)
       (s.node 0).tx.lastWasByte = false ∧ (s.timebase - (s.node 0).tx.breakEnd).toNat = 5 ∧ 11 * 1000 < (5 + 1) * 9600 ∧
         11 * 1000 < (1 + 1) * 9600 ∧ (0 + 1) * 9600 ≤ 11 * 1000 ∧ ((even (at' 0 (tx [.brk 1] none))).node 0).tx.queue = [.brk 1]) ∧
      (let s := tx [] (some ⟨.byte 1 none, 5, 4, .none⟩)
       (s.node 0).tx.inProgress = some ⟨.byte 1 none, 5, 4, .none⟩ ∧ (s.node 0).rx.settings.echo = false) ∧
      (let s := owing (.breakSent 0) (tx [] (some ⟨.brk 5, 0, 4, .none⟩))
       s.porst = false ∧ s.isDue (.breakSent 0) = true) ∧
      ready.waitingOn 0 .waitingQueue = none ∧
      (let s := running 0 3 .waitingQueue 0 (load 3 (planOf [.sendBreak 9]) (tx (List.replicate 255 (.brk 1)) none))
       s.waitingOn 0 .waitingQueue = some (.sendBreak 9) ∧ (s.node 0).exec.run.isSome = true ∧ (s.node 0).lines.view = .running ∧
         stepItems s (.sendBreak 9) ≠ [] ∧ (stepItems s (.sendBreak 9)).length ≤ 256 - (s.node 0).tx.queue.length ∧
         (s.planSteps 3).length = 0 + 1) ∧
      (let s := running 0 3 .waitingQueue 0 (load 3 (planOf [.sendBreak 9]) (tx (List.replicate 256 (.brk 1)) none))
       s.waitingOn 0 .waitingQueue = some (.sendBreak 9) ∧ 256 - (s.node 0).tx.queue.length < (stepItems s (.sendBreak 9)).length) := by
  decide +kernel

theorem witness_ItemsAreSent_config :
    let s := (up 0 ready).updTx 0 fun t => { t with inProgress := some ⟨.byte 1 none, 5, 4, .none⟩ }
    (Ready s ∧ (s.node 0).tx.inProgress = some ⟨.byte 1 none, 5, 4, .none⟩) ∧
      ∃ t, exec (.conConfig 1 [0, 7, 2, 16, 50, 0, 1, 0, 0]) s = .next t := ⟨by decide +kernel, _, rfl⟩

theorem witness_WindowHitsAreHandled :
    let q := fun (armed : Bool) (a : PatAction) =>
      ({ bytes := ascii "ab", wild := 0, fold := false, rep := true, armed := armed, action := a, hits := 65535 } : Pattern)
    let w := fun (armed : Bool) (a : PatAction) (s : State) => s.updNode 0 fun c =>
      { c with window := [0x61], patterns := c.patterns.set 7 (some (q armed a)) }
    let win := (((w true .none ready).node 0).window ++ [0x62]).drop (((w true .none ready).node 0).window.length + 1 - 32)
    (∀ i : Fin 8, (ready.node 0).patterns[i] = none) ∧
      ((w true .none ready).node 0).patterns[(7 : Fin 8)] = some (q true .none) ∧
      (∀ j : Fin 8, j ≠ 7 → ((w true .none ready).node 0).patterns[j] = none) ∧ (q true .none).hitsOn win = true ∧ (q true .none).armed = true ∧
      ((w true .none ready).node 0).exec.run = none ∧
      ((q true (.startPlan 15)).action = .startPlan 15 ∧ ready.plans[(15 : Fin 16)] = none) ∧
      (let s := w true (.startPlan 15) (load 15 (planOf [.delay 1]) ready)
       s.plans[(15 : Fin 16)] = some (planOf [.delay 1]) ∧ s.hostPulse 0 = false ∧ (planOf [.delay 1]).steps[0]? =
         some { kind := .delay 1, timeout := 0, onFail := .abort } ∧ (s.node 0).exec.run = none) ∧
      (let s := w false .none (running 0 3 .waitingMatch 0 (load 3 (planOf [.waitMatch 7]) ready))
       (q false .none).armed = false ∧ s.waitingOn 0 .waitingMatch = some (.waitMatch 7) ∧ (s.node 0).exec.run.isSome = true ∧
         (s.planSteps 3).length = 0 + 1) := by decide +kernel

end Sys2Proof.Tests
end

