-- ==== Sys2Proof/Tests/WitnessesNodes.lean ====
section
/-! SUPPORT. The witnesses of the statements about lines, plans, ports, drives, the media cache, the settings and the reports. -/

namespace Sys2Proof.Tests

open Sys2Proof Sys2Proof.Machine

-- One theorem after the other: their kernel evaluations side by side would ask for more threads than the check allows.
set_option Elab.async false

/-! ## Control lines and power view -/

theorem witness_OutputsAreDriven :
    (Ready ready ∧ 65535 < 65536 ∧ (2 : Byte).toNat ≤ 2 ∧ (ready.node 0).exec.run = none ∧ (ready.output 0 .cut).active = false) ∧
      (let s := running 0 3 .delaying 0 (load 3 (planOf [.delay 9]) ready)
       Ready s ∧ (s.node 0).exec.run.isSome = true) ∧
      -- CUT goes ACTIVE on a RUNNING node, and goes IDLE on one that was cut
      (let s := up 0 ready
       Ready s ∧ (s.output 0 .cut).active ≠ true ∧ (s.node 0).lines.view = .running ∧
         s.events.recs[(Source.node 0 .powerChange).id].level ≠ 0) ∧
      (Ready (cut 0 ready) ∧ ((cut 0 ready).output 0 .cut).active ≠ false) ∧
      -- LINE_CONFIG
      (((cut 0 ready).output 0 .cut).active = true ∧ (ready.output 0 .cut).active = false ∧ .cutSettle 0 ∉ ready.due) ∧
      -- the expiry of a pulse
      (ready.isDue (.pulse 0 .nmi) = false) ∧
      (let s := owing (.pulse 0 .nmi) (at' 9 (ready.updOutput 0 .nmi fun o => { o with active := true, pulse := some ⟨.host, 0, 9⟩ }))
       s.porst = false ∧ s.isDue (.pulse 0 .nmi) = true ∧ (s.output 0 .nmi).pulse = some ⟨.host, 0, 9⟩) ∧
      (let s := running 0 3 .pulsing 0 (load 3 (planOf [.pulseLine .nmi 9]) ready)
       let s := owing (.pulse 0 .nmi) (at' 9 (s.updOutput 0 .nmi fun o => { o with active := true, pulse := some ⟨.plan, 0, 9⟩ }))
       s.isDue (.pulse 0 .nmi) = true ∧ (s.output 0 .nmi).pulse = some ⟨.plan, 0, 9⟩ ∧ (s.node 0).exec.run.isSome = true ∧
         s.waitingOn 0 .pulsing = some (.pulseLine .nmi 9) ∧ (s.planSteps 3).length = 0 + 1) := by decide +kernel

theorem witness_InputsAreFollowed :
    let pin := fun (i : Input) (db : Nat) => at' 10 (ready.updInput 0 i fun l => { l with pin := true, debounce := db, candidate := some 0 })
    ({ ready with porst := true } : State).porst = true ∧
      (ready.porst = false ∧ false = ((ready.node 0).lines.input .pgood).accepted ∧ true ≠ ((ready.node 0).lines.input .pgood).accepted ∧
        0 < ((ready.node 0).lines.input .pgood).debounce) ∧
      (let s := ready.updInput 0 .auxin fun l => { l with debounce := 0 }
       s.porst = false ∧ true ≠ (s.node 0).lines.auxin.accepted ∧ (s.node 0).lines.auxin.debounce = 0 ∧
         (s.node 0).lines.auxin.candidate = none ∧ (s.node 0).exec.run = none) ∧
      ready.isDue (.debounce 0 .auxin) = false ∧
      (let s := owing (.debounce 0 .auxin) (pin .auxin 10)
       s.porst = false ∧ s.isDue (.debounce 0 .auxin) = true ∧ (s.node 0).exec.run = none) ∧
      (let s := owing (.debounce 0 .pgood) (pin .pgood 10)
       s.isDue (.debounce 0 .pgood) = true ∧ (s.node 0).lines.view = .standby ∧ (s.node 0).exec.run = none) ∧
      (let s := owing (.debounce 0 .pgood) (at' 10 ((up 0 ready).updInput 0 .pgood fun l => { l with pin := false, candidate := some 0 }))
       s.isDue (.debounce 0 .pgood) = true ∧ (s.node 0).lines.view = .running ∧ (s.node 0).exec.run = none) ∧
      ready.isDue (.cutSettle 0) = false ∧
      (let s := owing (.cutSettle 0) (at' 2000 (cut 0 ready))
       s.porst = false ∧ s.isDue (.cutSettle 0) = true ∧ (s.node 0).lines.pgood.active = true) ∧
      (Ready ready ∧ 256 < 65536 ∧ (ready.node 0).exec.run = none ∧ .debounce 0 .auxin ∉ ready.due ∧
        false ≠ (ready.node 0).lines.auxin.activeHigh) := by decide +kernel

/-! ## Reboot plans -/

theorem witness_PlansAreLoaded :
    let st : PlanStep := { kind := .sendBreak 2000, timeout := 65535, onFail := .goto 15 }
    let wrong : PlanStep := { kind := .delay 1, timeout := 0, onFail := .goto 1 }
    (Ready ready ∧ (List.replicate 66 st).length ≤ 66 ∧ 15 < (16 : Byte).toNat ∧ ([] : List PlanStep).length = 0 ∧
        16 < (List.replicate 17 st).length) ∧
      (((15 : Fin 16) : Nat) = (15 : Byte).toNat ∧ 1 ≤ (List.replicate 16 st).length ∧ (List.replicate 16 st).length ≤ 16 ∧
        (∀ x ∈ List.replicate 16 st, stepInRange 16 x = true) ∧ ∀ n, (ready.node n).exec.run = none) ∧
      (wrong ∈ [wrong] ∧ wrong.onFail = .goto 1 ∧ [wrong].length ≤ 1) ∧
      (let s := running 0 15 .delaying 0 (load 15 (planOf [.delay 9]) ready)
       Ready s ∧ ((s.node 0).exec.run.map Run.plan) = some 15) ∧
      ({ ready with arbiter := { ready.arbiter with holds := [⟨0, 0, 9⟩] } } : State).arbiter.holds ≠ [] ∧
      (ready.arbiter.holds = [] ∧ ready.arbiter.waiting = []) := by decide +kernel

theorem witness_PlansStartAndAbort :
    let loaded := fun (ks : List StepKind) (prio : Nat) => load 5 { planOf ks with priority := prio } ready
    (Ready ready ∧ ready.plans[(5 : Fin 16)] = none) ∧
      (let s := (loaded [.delay 65535] 2).updOutput 0 .nmi fun o => { o with active := true, pulse := some ⟨.host, 0, 9⟩ }
       Ready s ∧ s.plans[(5 : Fin 16)] = some (planOf [.delay 65535]) ∧ s.hostPulse 0 = true) ∧
      (let s := running 0 5 .delaying 0 (loaded [.delay 1] 2)
       Ready s ∧ ((s.node 0).exec.run.map Run.priority) = some 2 ∧ (s.plans[(5 : Fin 16)].map Plan.priority) = some 2) ∧
      (let s := loaded [.delay 1] 2
       s.hostPulse 0 = false ∧ (s.node 0).exec.run = none ∧
         (planOf [.delay 1]).steps[0]? = some { kind := .delay 1, timeout := 0, onFail := .abort }) ∧
      (let s := loaded [.setLine .nmi true] 2
       s.hostPulse 0 = false ∧ (s.node 0).exec.run = none ∧ Output.nmi ≠ .cut ∧
         (planOf [.setLine .nmi true]).steps = [{ kind := .setLine .nmi true, timeout := 0, onFail := .abort }]) ∧
      (let s := running 0 6 .delaying 0 (load 6 (planOf [.delay 9]) (loaded [.delay 1] 3))
       Ready s ∧ s.hostPulse 0 = false ∧ ((s.node 0).exec.run.map fun r => (r.plan, r.priority)) = some (6, 2) ∧
         (s.plans[(5 : Fin 16)].map Plan.priority) = some 3) := by decide +kernel

theorem witness_StepsExpire :
    let timed := fun (k : StepKind) (f : OnFail) => ({ kind := k, timeout := 9, onFail := f } : PlanStep)
    let waits := fun (f : OnFail) (started : Nat) =>
      owing (.step 0) (at' 9 ((running 0 5 .waitingMatch 0 (load 5 { priority := 2, steps := [timed (.waitMatch 0) f, timed (.delay 1) .abort] } ready)).updRun 0
        fun r => { r with started := started }))
    (ready.isDue (.step 0) = false ∧ ready.isDue (.delay 0) = false ∧ ready.isDue (.slotHold 0) = false ∧ ready.porst = false) ∧
      (let s := waits .abort 1
       s.isDue (.step 0) = true ∧ (s.node 0).exec.run.isSome = true ∧ s.currentStep 0 = some (timed (.waitMatch 0) .abort)) ∧
      (let s := waits (.goto 1) 64
       s.isDue (.step 0) = true ∧ s.currentStep 0 = some (timed (.waitMatch 0) (.goto 1)) ∧ ((s.node 0).exec.run.map Run.started) = some 64) ∧
      (let s := waits (.goto 1) 63
       s.isDue (.step 0) = true ∧ ((s.node 0).exec.run.map Run.started) = some 63 ∧ (s.planSteps 5)[1]? = some (timed (.delay 1) .abort)) ∧
      (let s := owing (.delay 0) (at' 9 (running 0 5 .delaying 0 (load 5 (planOf [.delay 9]) ready)))
       s.isDue (.delay 0) = true ∧ (s.node 0).exec.run.isSome = true ∧ (s.planSteps 5).length = 0 + 1) ∧
      (let s := owing (.delay 0) (at' 9 (running 0 5 .delaying 0 (load 5 (planOf [.delay 9, .delay 1]) ready)))
       s.isDue (.delay 0) = true ∧ ((s.node 0).exec.run.map Run.started) = some 1 ∧
         (s.planSteps 5)[0 + 1]? = some { kind := .delay 1, timeout := 0, onFail := .abort }) ∧
      (let s := owing (.slotHold 0) (at' 9 { ready with arbiter := { ready.arbiter with holds := [⟨0, 0, 9⟩] } })
       s.porst = false ∧ s.isDue (.slotHold 0) = true ∧ s.arbiter.waiting = []) ∧
      (let s := running 2 5 .waitingSlot 0 (load 5 (planOf [.takeSlot 7]) ready)
       let s := owing (.slotHold 0) (at' 9 { s with arbiter := { ready.arbiter with holds := [⟨0, 0, 9⟩], waiting := [⟨2, 7⟩] } })
       s.isDue (.slotHold 0) = true ∧ s.arbiter.waiting = ⟨2, 7⟩ :: [] ∧ (s.node 2).exec.run.isSome = true ∧ (s.planSteps 5).length = 0 + 1) := by
  decide +kernel

/-! ## USB ports -/

/-- N0 RUNNING with a descriptor set, its port in a state with the enabled flag and the policy given. -/
def port (st : PortState) (enabled always : Bool) : State :=
  (up 0 ready).updPort 0 fun p => { p with state := st, enabled := enabled, always := always, desc := some descs }

theorem witness_PortsConnect :
    (let p := ((port .disconnected true true).node 0).port
     Ready (port .disconnected true true) ∧ 10001 < 65536 ∧ .connect 0 ∉ (port .disconnected true true).due ∧ p.pullUp = false ∧
       p.state ≠ .connecting ∧ p.desc ≠ none ∧ ((port .disconnected true true).node 0).lines.view = .running) ∧
      (Ready ready ∧ (ready.node 0).port.pullUp = false ∧ (ready.node 0).port.desc = none) ∧
      (((port .connecting true true).node 0).port.state = .connecting ∧ ((usb 0 ready).node 0).port.pullUp = true ∧
        (usb 0 ready).events.recs[(Source.node 0 .portChange).id].level ≠ 0) ∧
      -- DESC_LOAD
      (descs.device.length < 256 ∧ descs.config.length < 256 ∧ (∀ e ∈ descs.strings.toList ++ descs.inquiry.toList, e.length < 256) ∧
        (descRecord 0 descs).length ≤ 600 ∧ descs.ok = true ∧ ({ descs with device := [] } : DescSet).ok = false) ∧
      ((ready.updPool fun p => { p with free := 0 }).pool.free = 0 ∧ ∀ l ∈ ready.cache.lines, l.evictable = false) ∧
      ((ready.node 0).port.enabled = false ∧ 0 < ready.pool.free) ∧
      (let s := (port .disconnected true true).updPort 0 fun p => { p with desc := none }
       (s.node 0).port.desc = none ∧ (s.node 0).port.enabled = true ∧ (s.node 0).port.always = true ∧ 0 < (s.node 0).port.delay) ∧
      -- the connect timer
      ready.isDue (.connect 0) = false ∧
      (let s := owing (.connect 0) (at' 1500 ((port .connecting true true).updPort 0 fun p => { p with connectStart := some 0 }))
       s.porst = false ∧ s.isDue (.connect 0) = true) := by decide +kernel

theorem witness_BusEventsAct :
    (ready.porst = false ∧ (ready.node 0).port.pullUp = false ∧ ready.isDue (.suspend 0) = false) ∧
      (((usb 0 ready).node 0).port.pullUp = true ∧ ((usb 0 ready).node 0).port.state ≠ .suspended ∧
        (usb 0 ready).events.recs[(Source.node 0 .portChange).id].level ≠ 0) ∧
      (owing (.suspend 0) (at' 3 (usb 0 ready))).isDue (.suspend 0) = true ∧
      (let p := (((usb 0 ready).updPort 0 fun p => { p with state := .suspended, remembered := some .configured }).node 0).port
       p.state = .suspended ∧ p.remembered = some .configured) := by decide +kernel

/-- N0's port with an address, in DEFAULT or ADDRESSED. -/
def addressed (st : PortState) : State := (usb 0 ready).updPort 0 fun p => { p with state := st, configuration := false }

theorem witness_ControlRequestsAreDecided :
    let s := usb 0 ready
    let named := fun u : SetupFields => u.recipient = .endpoint ∧ u.value = 0
    (Answering s 0 ∧ (s.node 0).port.desc = some descs ∧ (s.node 0).port.state = .configured) ∧
      (Answering (addressed .defaulted) 0 ∧ ((addressed .defaulted).node 0).port.state = .defaulted) ∧
      (Answering (addressed .addressed) 0 ∧ ((addressed .addressed).node 0).port.state ≠ .defaulted ∧
        ((addressed .addressed).node 0).port.state ≠ .configured) ∧
      ((setup true .device 0x100 0 64).value = 0x0100 ∧ (setup true .device 0x200 0 9).value = 0x0200 ∧
        (setup true .device 0x303 0 255).value = BitVec.ofNat 16 (0x0300 + (3 : Fin 4)) ∧ (setup true .device 0x400 0 9).value.toNat / 256 ∉ [1, 2, 3] ∧
        (setup true .device 0x101 0 9).value.toNat / 256 ≤ 2 ∧ (setup true .device 0x101 0 9).value.toNat % 256 ≠ 0 ∧
        3 < (setup true .device 0x304 0 9).value.toNat % 256) ∧
      ((setup false .device 127 0 0).value.toNat ≤ 127 ∧ (setup false .device 127 0 0).length = 0 ∧ 127 < (setup false .device 128 0 0).value.toNat) ∧
      ((setup false .device 1 0 0).value = 1 ∧ (setup false .device 0 0 0).value = 0 ∧ 1 < (setup false .device 2 0 0).value.toNat) ∧
      ((setup true .endpoint 0 0x81 2).recipient = .endpoint ∧ (setup true .endpoint 0 0x81 2).index = 0x81 ∧
        (setup true .endpoint 0 0x02 2).index = 0x02 ∧ (setup true .endpoint 0 0 2).index = 0 ∧ (setup true .endpoint 0 0x80 2).index ≠ 0 ∧
        (setup true .endpoint 0 0x80 2).index ≠ 0x81 ∧ (setup true .endpoint 0 0x80 2).index ≠ 0x02 ∧ (setup true .other 0 0 2).recipient = .other ∧
        (setup true .iface 0 1 2).recipient = .iface ∧ (setup true .iface 0 1 2).index ≠ 0 ∧
        (setup true .iface 0x100 1 64).recipient = .iface ∧ (setup true .iface 0x100 1 64).index ≠ 0 ∧
        (setup true .iface 0x100 1 64).value.toNat / 256 ≠ 3 ∧ (setup true .device 0x100 1 64).recipient ≠ .iface) ∧
      (named (setup false .endpoint 0 0x81 0) ∧ named (setup false .endpoint 0 0x02 0) ∧ ¬named (setup false .device 0 0x81 0)) ∧
      (((s.updPort 0 fun p => { p with recovery := true }).node 0).port.recovery = true ∧ (s.node 0).port.recovery = false ∧
        (s.node 0).ctx.phase ≠ .haltThenStatus) ∧
      (let t := (inPhase 0 .haltThenStatus .none (command 0x28 (wrapper true 2048 0 8)) s).updCtx 0 fun x => { x with halted := some .bulkIn }
       Answering t 0 ∧ (t.node 0).port.recovery = false ∧ (t.node 0).ctx.phase = .haltThenStatus ∧ (t.node 0).ctx.halted = some .bulkIn ∧
         (t.node 0).ctx.command ≠ none) ∧
      ((setup true .iface 0 0 1).recipient = .iface ∧ (setup true .iface 0 0 1).dirIn = true ∧ (setup false .iface 0 0 0).length = 0) := by
  dsimp only; and_intros <;> decide +kernel

theorem witness_ControlPacketsMove :
    let u := ControlRequest.getDescriptor.setup (setup true .device 0x302 0 255)
    let c := answeredTransfer u (List.replicate 64 0x41)
    let first : Packet := { toggle := true, data := List.replicate 64 0x41 }
    let done := answeredTransfer (ControlRequest.setAddress.setup (setup false .device 9 0 0)) []
    let ctl := fun (c : Control) (s : State) => setControl 0 c s
    (u.length ≠ 0 ∧ (setup false .device 9 0 0).length = 0) ∧
      (Answering (usb 0 ready) 0 ∧ ((usb 0 ready).node 0).port.control = none) ∧
      (Answering (ctl (stalledTransfer u) (usb 0 ready)) 0 ∧ (stalledTransfer u).nextPacket = none ∧ (stalledTransfer u).stage ≠ .data) ∧
      (((ctl c (usb 0 ready)).node 0).port.control = some c ∧ c.nextPacket = some first ∧ c.inFlight = none ∧ c.stage = .data) ∧
      ({ c with inFlight := some first }.inFlight = some first ∧ { c with inFlight := some first }.stage = .data) ∧
      (let k : Packet := { toggle := true, data := [] }
       let s := (ctl { done with inFlight := some k } (addressed .defaulted)).updPort 0 fun p => { p with pendingAddress := some 127 }
       Answering s 0 ∧ ({ done with inFlight := some k } : Control).inFlight = some k ∧ done.stage = .status ∧
         (s.node 0).port.pendingAddress = some 127 ∧ (s.node 0).port.state ≠ .configured ∧
         ((addressed .defaulted).node 0).port.pendingAddress = none) := by decide +kernel

theorem witness_BulkPacketsMove :
    let s := usb 0 ready
    let k : Packet := { toggle := false, data := List.replicate 13 0 }
    let c := command 0x12 (shortWrapper true 96 36)
    (Answering s 0 ∧ (s.node 0).port.state = .configured ∧ (8 : BitVec 7) ≠ (s.node 0).port.address ∧ (s.node 0).port.haltIn = false ∧
        (s.node 0).port.haltOut = false ∧ (s.node 0).port.recovery = false ∧ (s.node 0).ctx.phase = .expectCommand ∧
        (s.node 0).port.pendingIn = none ∧ 512 < (List.replicate 513 (0 : Byte)).length ∧ (List.replicate 512 (0 : Byte)).length ≤ 512) ∧
      (let t := s.updPort 0 fun p => { p with haltIn := true, haltOut := true }
       Answering t 0 ∧ (t.node 0).port.haltIn = true ∧ (t.node 0).port.haltOut = true) ∧
      (let t := inPhase 0 .status .none c (s.updPort 0 fun p => { p with pendingIn := some k })
       Answering t 0 ∧ (t.node 0).port.pendingIn = some k ∧ (t.node 0).ctx.phase = .status) ∧
      (let r := inPhase 0 .dataIn .read (command 0x28 (wrapper true 512 0 1)) (insert 0 0 image s)
       let r := r.updCtx 0 fun x => { x with ask := some { index := 0, generation := 3, state := .attached } }
       Answering r 0 ∧ (r.node 0).port.pendingIn = none ∧ (r.node 0).ctx.phase = .dataIn ∧ (r.node 0).ctx.mode = .read ∧
         (r.node 0).ctx.result = .passed ∧ (r.node 0).ctx.ask.map Ask.index = some (((r.node 0).ctx.startByte + (r.node 0).ctx.moved) / 4096) ∧
         r.readyLine 0 = none ∧ (cached (line 0 0 .valid 1) r).readyLine 0 = some (line 0 0 .valid 1)) ∧
      (let t := (inPhase 0 .dataIn .composed c s).updCtx 0 fun x => { x with dn := 36, composed := List.replicate 36 1 }
       Answering t 0 ∧ (t.node 0).port.pendingIn = none ∧ (t.node 0).ctx.phase = .dataIn ∧ (t.node 0).ctx.mode = .composed ∧
         (t.node 0).ctx.moved + 13 ≠ (t.node 0).ctx.dn) ∧
      (let t := inPhase 0 .dataIn .zlp c (s.updPort 0 fun p => { p with pendingIn := some { k with data := [] } })
       (t.node 0).ctx.mode = .zlp ∧ (t.node 0).ctx.ask = none ∧ (t.node 0).ctx.command ≠ none) ∧
      (let t := inPhase 0 .dataOut .discard (command 0x2A (wrapper false 1024 0 2)) s
       Answering t 0 ∧ (t.node 0).ctx.phase = .dataOut ∧ (t.node 0).ctx.mode = .discard ∧ (t.node 0).ctx.moved + 512 < (t.node 0).ctx.expected) ∧
      (true ≠ (s.node 0).port.toggleOut ∧ false = (s.node 0).port.toggleOut) := by
  dsimp only; and_intros <;> decide +kernel

/-! ## Drives and block commands -/

theorem witness_ImagesComeAndGo :
    let big : Image := { image with size := 2 ^ 41 }
    (Ready ready ∧ image.size < 2 ^ 48 ∧ image.block < 65536 ∧ image.valid = true ∧ big.valid = true ∧
        ({ big with size := 2 ^ 41 + 512 } : Image).valid = false ∧ ({ image with block := 1024 } : Image).valid = false ∧
        ({ image with block := 2048 } : Image).valid = false ∧ ({ image with size := 511 } : Image).valid = false) ∧
      ((ready.drive 0 1).image = none ∧ (ready.node 0).port.enabled = false ∧ (ready.node 0).port.state = .disabled) ∧
      (let s := port .disconnected true false
       Ready s ∧ (s.drive 0 0).image = none ∧ (s.node 0).port.enabled = true ∧ (s.node 0).port.desc ≠ none ∧ (s.node 0).lines.view = .running ∧
         (s.node 0).port.state = .disconnected ∧ 0 < (s.node 0).port.delay) ∧
      (let s := insert 0 0 image ready
       Ready s ∧ (s.drive 0 0).image ≠ none ∧ s.pool.waiting = [] ∧ s.cache.slotWait = [] ∧ (s.node 0).ctx.command = none ∧
         (s.node 0).port.pullUp = false) ∧
      (let s := insert 0 0 image (usb 0 ready)
       Ready s ∧ (s.node 0).port.always = true ∧ connectHolds s 0 = true) ∧
      (let c := command 0x28 (wrapper true 4608 1000 9)
       let s := inPhase 0 .dataIn .read c (insert 0 0 image (usb 0 ready))
       Ready s ∧ Reading s 0 c ∧ c.lun = 0 ∧ (s.node 0).port.always = true ∧ connectHolds s 0 = true ∧ (s.drive 0 0).image ≠ none) := by
  dsimp only; and_intros <;> decide +kernel

theorem witness_WrappersAreDispatched :
    let s := insert 0 0 image (usb 0 ready)
    let ua := s.updDrive 0 0 fun d => { d with unitAttention := true }
    (TakesWrapper s 0 false ∧ validWrapper [] = false ∧ validWrapper (List.replicate 512 0) = false) ∧
      (wrapperOk { shortWrapper true 96 36 with blockLen := 5 } 0x12 = true ∧ wrapperOk { wrapper true 96 0 0 with blockLen := 9 } 0x25 = true) ∧
      (TakesWrapper (usb 0 ready) 0 false ∧ wrapperOk (wrapper true 8 0 0) 0x25 = true ∧ 10 ≤ (wrapper true 8 0 0).blockLen.toNat ∧
        ((usb 0 ready).drive 0 0).image = none) ∧
      (TakesWrapper ua 0 false ∧ (ua.drive 0 0).image ≠ none ∧ (ua.drive 0 0).unitAttention = true) ∧
      (wrapperOk (shortWrapper true 0 0) 0x00 = true ∧ 6 ≤ (shortWrapper true 0 0).blockLen.toNat ∧ (shortWrapper true 0 0).expected.toNat = 0 ∧
        (s.drive 0 0).image = some image ∧ (s.drive 0 0).unitAttention = false) ∧
      (let w := shortWrapper true 18 255
       wrapperOk w 0x03 = true ∧ w.flags.msb = true ∧ min 18 (w.rest.toList.getD 3 0).toNat ≤ w.expected.toNat) ∧
      (let w := shortWrapper true 36 36
       wrapperOk w 0x12 = true ∧ (s.node 0).port.desc = some descs ∧ min 36 (256 * (w.rest.toList.getD 2 0).toNat + 36) ≤ w.expected.toNat) ∧
      ((wrapper true 8 0 0).flags.msb = true ∧ (wrapper true 0 0 0).expected.toNat = 0 ∧ (wrapper true 7 0 0).expected.toNat < 8) ∧
      (let w := wrapper true 512 1953124 1
       wrapperOk w 0x28 = true ∧ image.size / image.block = (command 0x28 w).lba + (command 0x28 w).blocks ∧
         image.size / image.block < (command 0x28 (wrapper true 512 1953125 1)).lba + 1 ∧ (s.drive 0 0).lastRead = none ∧
         s.link.online = .online ∧ s.pool.waiting = [] ∧ s.cache.slotWait = [] ∧ s.cache.lines.length < s.cache.limit ∧ 8 ≤ s.pool.free ∧
         s.findLine 0 0 3 ((command 0x28 w).lba * 512 / 4096) = none ∧ s.lowestFreeSlot = some 0) ∧
      (let w := wrapper true 4096 0 8
       let t := (cached (line 0 0 .valid 0) s).updDrive 0 0 fun d => { d with lastRead := some 0 }
       TakesWrapper t 0 false ∧ wrapperOk w 0x28 = true ∧ w.flags.msb = true ∧ (command 0x28 w).blocks = 8 ∧
         t.findLine 0 0 3 0 = some (line 0 0 .valid 0) ∧ (t.drive 0 0).lastRead = some 0 ∧ (0 * 512 + 8 * 512 - 1) / 4096 = 0) ∧
      (let w := wrapper false 512 0 1
       wrapperOk w 0x2A = true ∧ w.flags.msb = false ∧ image.writable = true ∧ ({ image with writable := false } : Image).writable = false ∧
         ∀ l ∈ s.cache.lines, ¬(l.node = 0 ∧ l.lun = 0)) ∧
      (wrapperOk (wrapper false 512 0 0) 0x1B = true ∧ (0x1B : Byte) ∉ executedOps ∧ s.link.held = false ∧ s.link.waiting = [] ∧
        (frames 28 s).link.queue.length ≤ 28) := by
  dsimp only; and_intros <;> decide +kernel

/-- N0 with a forwarded command that reads or writes 512 bytes, its FWD_CMD sent with ticket 1. -/
def forwarding (dirIn : Bool) : State :=
  (inPhase 0 .awaitHost .none (command 0x1B (wrapper dirIn 512 0 0)) (usb 0 ready)).updCtx 0 fun x =>
    { x with fwdState := .sent, fwdTicket := 1, fwdTimeout := 3000 }

theorem witness_ForwardsEnd :
    (Fresh ready ∧ ready.link.online = .online ∧ (List.replicate 512 (0 : Byte)).length ≤ 512 ∧ 3 < (4 : Byte).toNat ∧
        ((3 : Node) : Nat) = (3 : Byte).toNat ∧ (ready.node 3).ctx.fwdState ≠ .sent) ∧
      (let s := forwarding true
       Fresh s ∧ s.link.online = .online ∧ (s.node 0).ctx.fwdState = .sent ∧ (s.node 0).ctx.fwdTicket = 1 ∧
         (s.node 0).ctx.command = some (command 0x1B (wrapper true 512 0 0)) ∧ (command 0x1B (wrapper true 512 0 0)).dirIn = true ∧
         ([7] : List Byte).take (command 0x1B (wrapper true 512 0 0)).expected ≠ [] ∧ 0 < (command 0x1B (wrapper true 512 0 0)).expected) ∧
      (Fresh (forwarding false) ∧ ((forwarding false).node 0).ctx.fwdState = .sent ∧ (command 0x1B (wrapper false 512 0 0)).dirIn = false) ∧
      ready.isDue (.forward 0) = false ∧
      (let s := owing (.forward 0) (at' 3000 (forwarding true))
       s.porst = false ∧ s.isDue (.forward 0) = true ∧ (s.node 0).ctx.command = some (command 0x1B (wrapper true 512 0 0)) ∧
         0 < (command 0x1B (wrapper true 512 0 0)).expected) := by decide +kernel

/-! ## The media cache -/

/-- N0 reading 8 blocks from block 0, with line 0 being fetched in slot 0 with ticket 1. -/
def fetchingLine (pins : Nat) : State :=
  let s := (inPhase 0 .dataIn .read (command 0x28 (wrapper true 4096 0 8)) (insert 0 0 image (usb 0 ready))).updCtx 0 fun x =>
    { x with ask := some { index := 0, generation := 3, state := .attached } }
  slot 0 1 (.sent 0 3000) (cached (line 0 0 (.fetching 0) pins) s)

/-- A line with the first seven of its eight chunks received. -/
def almost : Line := { line 0 0 (.fetching 0) 1 with chunks := Vector.ofFn fun k => if k = 7 then none else some (List.replicate 512 0) }

theorem witness_FetchesEnd :
    let s := fetchingLine 1
    (Fresh ready ∧ ready.link.online = .online ∧ 1 ≤ (List.replicate 512 (0 : Byte)).length ∧ (List.replicate 512 (0 : Byte)).length ≤ 512 ∧
        15 < (16 : Byte).toNat ∧ ((15 : Fin 16) : Nat) = (15 : Byte).toNat ∧ ready.cache.slots[(15 : Fin 16)].use = .free) ∧
      (Fresh s ∧ s.cache.slots[(0 : Fin 16)].use = .sent 0 3000 ∧ s.cache.slots[(0 : Fin 16)].ticket = 1 ∧ s.slotLine 0 = some (line 0 0 (.fetching 0) 1) ∧
        (s.drive 0 0).lineLength 0 = 4096) ∧
      (((7 : Fin 8) : Nat) = (7 : Byte).toNat ∧ ((7 : Fin 8) : Nat) < (4096 + 511) / 512 ∧ (List.replicate 512 (0 : Byte)).length = min 512 (4096 - 512 * 7)) ∧
      ((line 0 0 (.fetching 0) 1).chunks[(7 : Fin 8)] = none ∧ (line 0 0 (.fetching 0) 1).complete 4096 = false) ∧
      (almost.chunks[(7 : Fin 8)] = none ∧ almost.chunks[(6 : Fin 8)] ≠ none ∧ almost.state = .fetching 0 ∧ 0 < almost.pins ∧
        ({ almost with chunks := almost.chunks.set 7 (some (List.replicate 512 0)) } : Line).complete 4096 = true) ∧
      ((fetchingLine 0).slotLine 0 = some (line 0 0 (.fetching 0) 0) ∧ (line 0 0 (.fetching 0) 0).pins = 0 ∧ s.cache.slotWait = [] ∧
        s.pool.waiting = [] ∧ 8 ≤ (8 : Byte).toNat) ∧
      Reading s 0 (command 0x28 (wrapper true 4096 0 8)) ∧
      ready.isDue (.fetch 15) = false ∧
      (let t := owing (.fetch 0) (at' 3000 (fetchingLine 0))
       t.porst = false ∧ t.isDue (.fetch 0) = true ∧ t.slotLine 0 = some (line 0 0 (.fetching 0) 0)) := by
  dsimp only; and_intros <;> decide +kernel

/-- N0 reading from a line it has asked for and does not have yet. -/
def asking (st : AskState) : State :=
  (inPhase 0 .dataIn .read (command 0x28 (wrapper true 4096 0 8)) (insert 0 0 image (usb 0 ready))).updCtx 0 fun x =>
    { x with ask := some { index := 0, generation := 3, state := st } }

theorem witness_WaitingReadsEnd :
    let w : Waiter := { node := 0, start := 0, timeout := 3000 }
    let k := command 0x28 (wrapper true 4096 0 8)
    let wait := (asking .waitingSlot).updCache fun c => { c with slotWait := [w] }
    let pages := slot 0 1 (.reserved 0) ((asking .waitingPages).updPool fun p => { p with waiting := [w] })
    (ready.porst = false ∧ ready.cache.slotWait = [] ∧ ready.isDue (.slotWait 0) = false ∧ ready.isDue (.allocationWait 0) = false) ∧
      (wait.porst = false ∧ wait.cache.slotWait = [w] ∧ wait.lowestFreeSlot = some 0 ∧ wait.cache.lines.length < wait.cache.limit ∧ 8 ≤ wait.pool.free ∧
        (wait.node 0).ctx.command = some k ∧ (wait.node 0).ctx.ask = some { index := 0, generation := 3, state := .waitingSlot }) ∧
      (let s := owing (.slotWait 0) (at' 3000 wait)
       s.porst = false ∧ Reading s 0 k ∧ s.isDue (.slotWait 0) = true ∧ (∀ i : Fin 16, s.cache.slots[i].use ≠ .reserved 0) ∧
         s.events.recs[(Source.node 0 .mediaError).id].level ≠ 0) ∧
      (let s := owing (.allocationWait 0) (at' 3000 pages)
       s.porst = false ∧ Reading s 0 k ∧ s.isDue (.allocationWait 0) = true ∧ s.reservedSlot 0 = some 0 ∧ s.cache.slotWait = [] ∧
         (s.node 0).ctx.ask = some { index := 0, generation := 3, state := .waitingPages }) := by decide +kernel

theorem witness_SilenceEntersAutonomous :
    let sent := fun first : Nat => ({ kind := 0xE1, tag := 0, payload := [1] ++ le 4 first ++ [1] } : Frame)
    let streams := fun (f : Frame) (oldest cursor next : Nat) => ((silent ready).updLink fun l => { l with queue := [f] }).updHist 1 fun h =>
      { h with streaming := true, oldest := BitVec.ofNat 32 oldest, cursor := BitVec.ofNat 32 cursor, next := BitVec.ofNat 32 next }
    let finds := fun (s : State) (f : Frame) =>
      s.porst = false ∧ s.isDue .silence = true ∧ s.link.queue.find? (fun f => f.kind == 0xE1 && u8 f.payload 0 == (1 : Node)) = some f
    let w : Waiter := { node := 0, start := 0, timeout := 3000 }
    let k := command 0x28 (wrapper true 4096 0 8)
    let c := command 0x2A (wrapper false 1536 0 3)
    -- an EVENT_SUMMARY in the queue
    (let s := (silent ready).updLink fun l => { l with queue := [{ kind := 0xE5, tag := 0, payload := [] }] }
     s.porst = false ∧ s.isDue .silence = true ∧ ∃ f ∈ s.link.queue, f.kind = 0xE5) ∧
      -- a CON_DATA whose records are in history, one that is not behind the cursor, and one whose records are gone
      (finds (streams (sent 5) 3 9 9) (sent 5) ∧ w32 (sent 5).payload 1 = 5 ∧ (5 : Word32) ≠ 9 ∧ ((9 : Word32) - 5).toNat < 2 ^ 31 ∧
        ((5 : Word32) - 3).toNat < ((9 : Word32) - 3).toNat) ∧
      (finds (streams (sent 9) 3 9 9) (sent 9) ∧ finds (streams (sent 2) 3 9 9) (sent 2) ∧
        ¬(((2 : Word32) - 3).toNat < ((9 : Word32) - 3).toNat) ∧ 2 ^ 31 ≤ ((2 : Word32) - 9).toNat ∧
        (streams (sent 2) 3 9 9).events.recs[(Source.node 1 .streamGap).id].level ≠ 0) ∧
      -- a read that waits, one whose line is being fetched, a write in AWAIT_HOST, and forwards
      (let s := silent ((asking .waitingSlot).updCache fun c => { c with slotWait := [w] })
       s.isDue .silence = true ∧ Reading s 0 k ∧ (s.node 0).ctx.fwdState = .none ∧ ∃ w ∈ s.cache.slotWait ++ s.pool.waiting, w.node = 0) ∧
      (let s := silent (fetchingLine 1)
       s.isDue .silence = true ∧ Reading s 0 k ∧ s.slotLine 0 = some (line 0 0 (.fetching 0) 1) ∧ s.occupied 0 = true ∧
         s.events.recs[(Source.node 0 .mediaError).id].level ≠ 0) ∧
      (let s := silent (entry 0 1 (entryOf 0 false) ((inPhase 0 .awaitHost .none c (insert 0 0 image (usb 0 ready))).updCtx 0 fun x =>
         { x with running := true }))
       s.isDue .silence = true ∧ (s.node 0).ctx.command = some c ∧ (s.node 0).ctx.fwdState = .none ∧ (s.node 0).ctx.running = true ∧
         (s.node 0).ctx.phase = .awaitHost ∧ (s.node 0).ctx.result = .passed ∧ s.cache.writes[(0 : Fin 32)].use = some (entryOf 0 false) ∧
         (entryOf 0 false).node = 0 ∧ (entryOf 0 false).cancelled = false) ∧
      (let s := silent (forwarding true)
       s.isDue .silence = true ∧ (s.node 0).ctx.command = some (command 0x1B (wrapper true 512 0 0)) ∧ (s.node 0).ctx.fwdState ≠ .none ∧
         (s.node 0).ctx.running = false) := by
  dsimp only; and_intros <;> decide +kernel

theorem witness_WritesAreAnswered :
    let c := command 0x2A (wrapper false 1536 0 3)
    let s := inPhase 0 .dataOut .write c (insert 0 0 image (usb 0 ready))
    (let x := (s.node 0).ctx
     let p := (s.node 0).port
     Answering s 0 ∧ p.state = .configured ∧ p.haltOut = false ∧ p.recovery = false ∧ p.toggleOut = false ∧ p.high = true ∧
       (List.replicate 512 (0 : Byte)).length = 512 ∧ x.command = some c ∧ x.phase = .dataOut ∧ x.mode = .write ∧ x.running = true ∧
       x.result = .passed ∧ x.filling = none ∧ x.moved % 512 = 0 ∧ x.moved + 512 < x.dn ∧ x.dn ≤ c.expected ∧ s.stagingPages 0 < 8 ∧
       0 < s.pool.free ∧ s.link.online = .online ∧ s.cache.writes[(0 : Fin 32)].use = none) ∧
      (Fresh ready ∧ ready.link.online = .online ∧ 31 < (32 : Byte).toNat ∧ ((31 : Fin 32) : Nat) = (31 : Byte).toNat ∧
        ready.cache.writes[(31 : Fin 32)].use = none) ∧
      (let t := entry 0 1 (entryOf 0 true) ready
       Fresh t ∧ t.cache.writes[(0 : Fin 32)].use = some (entryOf 0 true) ∧ (entryOf 0 true).sent = true ∧ t.cache.writes[(0 : Fin 32)].ticket = 1 ∧
         t.pool.waiting = [] ∧ (entryOf 0 true).cancelled = true) ∧
      (let t := entry 0 1 (entryOf 0 false) ((inPhase 0 .awaitHost .none c s).updCtx 0 fun x => { x with running := true })
       Fresh t ∧ t.cache.writes[(0 : Fin 32)].use = some (entryOf 0 false) ∧ (entryOf 0 false).cancelled = false ∧ (t.node 0).ctx.command = some c ∧
         (t.node 0).ctx.phase = .awaitHost ∧ (t.node 0).ctx.running = true ∧ (∀ j : Fin 32, j ≠ 0 → t.cache.writes[j].use = none) ∧
         (t.node 0).ctx.result = .passed ∧ (t.node 0).ctx.filling = none) ∧
      (let t := at' 2999 (entry 0 1 (entryOf 0 true) ready)
       t.porst = false ∧ t.isDue (.write 0) = false) ∧
      (let t := owing (.write 0) (at' 3000 (entry 0 1 (entryOf 0 true) ready))
       t.porst = false ∧ t.cache.writes[(0 : Fin 32)].use = some (entryOf 0 true) ∧ t.isDue (.write 0) = true ∧ t.pool.waiting = []) := by
  decide +kernel

/-! ## Settings of the cache and the event table, and reports -/

theorem witness_CacheAndEventsAreSet :
    let s := insert 0 0 image ready
    (Ready ready ∧ 65535 < 65536 ∧ ∀ n u, (ready.drive n u).image = none) ∧
      (Ready s ∧ (s.drive 0 0).image ≠ none ∧ (s.node 0).ctx.ask = none ∧ s.pool.waiting = [] ∧ (s.drive 0 1).image = none) ∧
      (2 ^ 52 - 1 < 2 ^ 52 ∧ 2 ^ 52 ≤ 2 ^ 52 ∧ 2 ^ 64 - 1 < 2 ^ 64) ∧
      (∀ r ∈ ready.events.recs.toList, r.level ≤ 3) ∧ (∀ i : Fin 52, ready.events.recs[i].count = 0) ∧
      -- a source that a take of nothing leaves pending at the threshold, with a summary owed, in a queue of 30 frames and of 31
      (let t := { (frames 30 ready) with events := { ready.events with owed := true, recs := ready.events.recs.set 51 ⟨1, 1, 0, none⟩ } }
       Ready t ∧ 0 < t.events.recs[(51 : Fin 52)].count ∧ t.link.threshold ≤ t.events.recs[(51 : Fin 52)].level ∧ t.events.owed = true ∧
         t.link.queue.length ≤ 30 ∧ (∀ f ∈ t.link.queue, f.kind ≠ 0xE5) ∧ ¬(frames 31 t).link.queue.length ≤ 30) := by
  decide +kernel

theorem witness_ReportsAreTaken : Ready ready ∧ Ready (frames 31 ready) := by decide +kernel

end Sys2Proof.Tests
end

/-! # Requests that arrive in the normal course -/

namespace Sys2Proof.Machine

open Sys2Proof

/-! ## The state in which a request is carried out -/

@[simp] theorem heard_pending (s : State) : (heard s).pending = s.pending := rfl
@[simp] theorem heard_porst (s : State) : (heard s).porst = s.porst := rfl
@[simp] theorem heard_timebase (s : State) : (heard s).timebase = s.timebase := rfl
@[simp] theorem heard_due (s : State) : (heard s).due = s.due := rfl
@[simp] theorem heard_link (s : State) :
    (heard s).link = { s.link with silenceStart := s.timebase, inbound := .ignore } := rfl
@[simp] theorem heard_events (s : State) : (heard s).events = s.events := rfl
@[simp] theorem heard_pool (s : State) : (heard s).pool = s.pool := rfl
@[simp] theorem heard_texts (s : State) : (heard s).texts = s.texts := rfl
@[simp] theorem heard_plans (s : State) : (heard s).plans = s.plans := rfl
@[simp] theorem heard_arbiter (s : State) : (heard s).arbiter = s.arbiter := rfl
@[simp] theorem heard_cache (s : State) : (heard s).cache = s.cache := rfl
@[simp] theorem heard_nodes (s : State) : (heard s).nodes = s.nodes := rfl
@[simp] theorem heard_node (s : State) (n : Node) : (heard s).node n = s.node n := rfl
@[simp] theorem heard_drive (s : State) (n : Node) (u : Lun) : (heard s).drive n u = s.drive n u := rfl
@[simp] theorem heard_output (s : State) (n : Node) (o : Output) : (heard s).output n o = s.output n o := rfl
@[simp] theorem heard_hostPulse (s : State) (n : Node) : (heard s).hostPulse n = s.hostPulse n := rfl

/-! ## From the bytes of a frame to its disposal -/

/-- The bytes of a frame the link can carry are put together to that frame, which is taken at its last byte (R2 to R4). -/
theorem frameIn_taken {k : Byte} (t : Byte) {p : List Byte} {s : State} (hk : k ≠ 0) (hp : p.length ≤ 600)
    (ht : s.link.txn = .active) (hi : s.link.inbound = .header []) :
    frameIn k t p s = takeFrame k t p (ignoring s) := by
  have hb := foldl_header_body k t p hp hk s hi
  have hc := foldl_check k t p (crc (headerBytes k t p.length ++ p)) s
  rw [if_pos rfl] at hc
  rw [frameIn, feed, if_pos ht, frameBytes, checkBytes, List.foldl_append, hb, hc]
  rfl

/-- A frame taken while the link is ONLINE is disposed of with the silence timer restarted (R7). -/
theorem takeFrame_online {k t : Byte} {p : List Byte} {s : State} (h : s.link.online = .online) :
    takeFrame k t p (ignoring s) = dispose k t p (heard s) := by
  rw [takeFrame, if_neg (by simp [ignoring, h])]
  rfl

/-- In the normal course a frame that arrives is disposed of (R7). -/
theorem live_frameIn {k : Byte} (t : Byte) {p : List Byte} {s : State} (h : Ready s) (hk : k ≠ 0) (hp : p.length ≤ 600) :
    live (frameIn k t p) s = .next (dispose k t p (heard s)) := by
  obtain ⟨⟨hporst, htxn, hin⟩, honline, -, -⟩ := h
  rw [live, hporst, frameIn_taken t hk hp htxn hin, takeFrame_online honline]
  rfl

/-- A request of an allowed length, for whose reply the queue has an entry free, is carried out (R7, R8). -/
theorem dispose_request {k t : Byte} {p : List Byte} {s : State} (hk : k.toNat < 0x60) (hq : s.link.queue.length < 32)
    (hl : requestLength k.toNat p = some true) : dispose k t p s = replyTo k t (runRequest k.toNat t p s) := by
  have hfree : s.freeEntries ≠ 0 := by simp only [State.freeEntries, Config.queueEntries]; omega
  simp only [dispose, if_neg (show ¬0x64 ≤ k.toNat by omega), if_neg (show ¬0x60 ≤ k.toNat by omega), if_neg hfree, hl]

/-- A request of a length that is not allowed is answered BAD_LENGTH (R196). -/
theorem dispose_badLength {k t : Byte} {p : List Byte} {s : State} (hk : k.toNat < 0x60) (hq : s.link.queue.length < 32)
    (hl : requestLength k.toNat p = some false) : dispose k t p s = s.enqueueReply k t (Reply.refuse .badLength) := by
  have hfree : s.freeEntries ≠ 0 := by simp only [State.freeEntries, Config.queueEntries]; omega
  simp only [dispose, if_neg (show ¬0x64 ≤ k.toNat by omega), if_neg (show ¬0x60 ≤ k.toNat by omega), if_neg hfree, hl]

/-- A request of an allowed length is carried out in the state `heard` gives, and its reply is queued behind what that
queues (R7, R8). -/
theorem live_request {k : Byte} (t : Byte) {p : List Byte} {s : State} (h : Ready s) (hk : k ≠ 0 ∧ k.toNat < 0x60)
    (hp : p.length ≤ 600) (hl : requestLength k.toNat p = some true) :
    live (frameIn k t p) s = .next (replyTo k t (runRequest k.toNat t p (heard s))) := by
  rw [live_frameIn t h hk.1 hp, dispose_request (s := heard s) hk.2 h.2.2.2 hl]

/-- A request of a length that is not allowed is answered BAD_LENGTH (R7, R196). -/
theorem live_badLength {k : Byte} (t : Byte) {p : List Byte} {s : State} (h : Ready s) (hk : k ≠ 0 ∧ k.toNat < 0x60)
    (hp : p.length ≤ 600) (hl : requestLength k.toNat p = some false) :
    live (frameIn k t p) s = .next ((heard s).enqueueReply k t (Reply.refuse .badLength)) := by
  rw [live_frameIn t h hk.1 hp, dispose_badLength (s := heard s) hk.2 h.2.2.2 hl]

@[simp] theorem replyTo_refused (k t : Byte) (st : Status) (s : State) :
    replyTo k t (refused st s) = s.enqueueReply k t (Reply.refuse st) := rfl

@[simp] theorem replyTo_accepted (k t : Byte) (b : Bool) (x : List Byte) (s : State) :
    replyTo k t (accepted b x s) = s.enqueueReply k t (Reply.okay b x) := rfl

/-! ## Fields of a payload -/

/-- The bytes of a field, spelled out, give its number (section 11.1). -/
theorem fieldAt_append_le (a b : List Byte) (k v : Nat) (hv : v < 256 ^ k) :
    fieldAt (a ++ (le k v ++ b)) a.length k = v := by
  have : (List.drop a.length (a ++ (le k v ++ b))).take k = le k v := by simp
  rw [fieldAt, bytesAt, this, leNat_le, Nat.mod_eq_of_lt hv]

/-- A flag that says whether a value was moved into its range. -/
theorem moved_eq (lo hi v : Nat) : moved lo hi v = decide (clamp lo hi v ≠ v) := rfl

end Sys2Proof.Machine

/-! # NOP, PART_INFO and LINK_CONFIG -/

namespace Sys2Proof.Machine

open Sys2Proof

/-- Settles O26: each is carried out with no effect, and answers from the state as it stands. -/
theorem nopAndPartInfoReport : Obligations.NopAndPartInfoReport := by
  intro s tag h
  refine ⟨fun p hp hlen => ?_, ?_, ?_⟩
  · have hne : (p.length == 0) = false := by simpa using hp
    exact ⟨live_badLength tag h (by decide) hlen (congrArg some hne), live_badLength tag h (by decide) hlen (congrArg some hne)⟩
  · exact live_request (k := 0x01) tag h (by decide) (by simp) rfl
  · exact live_request (k := 0x02) tag h (by decide) (by simp) rfl

/-- Whether a duration has passed, in milliseconds of the timebase modulo 2^32 (R14). -/
theorem passed_iff (s : State) (start : Word32) (ms : Nat) : s.passed start ms = true ↔ ms ≤ (s.timebase - start).toNat :=
  decide_eq_true_iff

/-- Settles O27: the payload's two fields are read back, each is moved into its range, and the timer is measured from the
taking of the request. -/
theorem linkConfigSets : Obligations.LinkConfigSets := by
  refine ⟨⟨rfl, rfl⟩, fun s hon => ?_, fun s => rfl, fun s tag v w h hv => ?_⟩
  · simp only [expired, hon, passed_iff, decide_true, Bool.true_and, Bool.and_eq_true, decide_eq_true_eq]
  · have hlen : requestLength (0x03 : Byte).toNat (le 2 v ++ [w]) = some true := by simp [requestLength]
    have hsilence : u16 (le 2 v ++ [w]) 0 = v := fieldAt_append_le [] [w] 2 v hv
    have hthreshold : u8 (le 2 v ++ [w]) 2 = w.toNat := rfl
    have hrun := live_request tag h (by decide) (by simp) hlen
    dsimp only
    refine hrun.trans ?_
    rw [show runRequest (0x03 : Byte).toNat tag (le 2 v ++ [w]) (heard s) = linkConfigRequest (le 2 v ++ [w]) (heard s) from rfl,
      linkConfigRequest, hsilence, hthreshold, replyTo_accepted, moved_eq, ← Bool.decide_or]
    rfl

end Sys2Proof.Machine

/-! # ATTN -/

namespace Sys2Proof.Machine

open Sys2Proof

/-- ATTN outside PORST (R12). -/
theorem attn_iff {s : State} (h : s.porst = false) : s.attn = true ↔ s.link.queue ≠ [] := by
  simp [State.attn, h]

/-- A part reset leaves PART_STARTED in the queue and ATTN asserted (R12, R21). -/
@[simp] theorem partReset_attn (reason : Byte) (txn : Txn) (s : State) : (partReset reason txn s).attn = true := rfl

end Sys2Proof.Machine

/-! # Events and work lost while the link is AUTONOMOUS -/

namespace Sys2Proof.Machine

open Sys2Proof

/-! ## Folds of operations -/

/-- A fold whose steps all keep a property keeps it. -/
theorem foldl_keeps {α : Type} {f : State → α → State} {P : State → Prop} (hP : ∀ t b, P t → P (f t b)) (l : List α) {s : State}
    (hs : P s) : P (l.foldl f s) := by
  induction l generalizing s with
  | nil => exact hs
  | cons b l ih => exact ih (hP _ _ hs)

/-- A fold comes to hold Q at an element `a` at the latest, and keeps it from there. -/
theorem foldl_reaches {α : Type} {f : State → α → State} {P Q : State → Prop} {a : α} (hPQ : ∀ t b, P t → P (f t b) ∨ Q (f t b))
    (ha : ∀ t, P t → Q (f t a)) (hQ : ∀ t b, Q t → Q (f t b)) {l : List α} (hl : a ∈ l) {s : State} (hs : P s ∨ Q s) :
    Q (l.foldl f s) := by
  induction l generalizing s with
  | nil => cases hl
  | cons b l ih =>
    rcases hs with hs | hs
    · rcases List.mem_cons.1 hl with rfl | hl
      · exact foldl_keeps hQ l (ha _ hs)
      · exact ih hl (hPQ _ _ hs)
    · exact foldl_keeps hQ l (hQ _ _ hs)

/-- A fold over a list without repetition comes to hold Q at its element `a`, where the others keep both P and Q. -/
theorem foldl_once {α : Type} {f : State → α → State} {P Q : State → Prop} {a : α} (hP : ∀ t b, b ≠ a → P t → P (f t b))
    (ha : ∀ t, P t → Q (f t a)) (hQ : ∀ t b, b ≠ a → Q t → Q (f t b)) {l : List α} (hl : a ∈ l) (hn : l.Nodup) {s : State}
    (hs : P s) : Q (l.foldl f s) := by
  have keeps {R : State → Prop} (hR : ∀ t b, b ≠ a → R t → R (f t b)) (l : List α) (hl : a ∉ l) {t : State} (ht : R t) :
      R (l.foldl f t) := by
    induction l generalizing t with
    | nil => exact ht
    | cons b l ih =>
      have hb : b ≠ a := fun e => hl (e ▸ List.mem_cons_self)
      exact ih (fun h => hl (List.mem_cons_of_mem _ h)) (hR _ _ hb ht)
  obtain ⟨before, after, rfl⟩ := List.append_of_mem hl
  have hna := List.nodup_append.1 hn
  have hbefore : a ∉ before := fun h => hna.2.2 a h a List.mem_cons_self rfl
  have hafter : a ∉ after := (List.nodup_cons.1 hna.2.1).1
  rw [List.foldl_append, List.foldl_cons]
  exact keeps hQ after hafter (ha _ (keeps hP before hbefore hs))

/-! ## Latching without an offer -/

/-- The event table after a latch of a source, before a summary is offered (R191). -/
def EventTable.latched (e : EventTable) (threshold : Nat) (now : Word32) (src : Source) (d : Nat) : EventTable :=
  if e.recs[src.id].level = 0 then e
  else { recs := e.recs.set src.id (e.recs[src.id].latched now d), owed := e.owed || decide (threshold ≤ e.recs[src.id].level) }

/-- An event table that has gained events of the sources `P` and nothing else. -/
structure EventTable.Grows (P : Fin 52 → Prop) (e e' : EventTable) : Prop where
  owed : e.owed = true → e'.owed = true
  level : ∀ i : Fin 52, e'.recs[i].level = e.recs[i].level
  count : ∀ i : Fin 52, 0 < e.recs[i].count → 0 < e'.recs[i].count
  others : ∀ i : Fin 52, ¬P i → e'.recs[i] = e.recs[i]

theorem EventTable.Grows.refl (P : Fin 52 → Prop) (e : EventTable) : e.Grows P e :=
  ⟨id, fun _ => rfl, fun _ => id, fun _ _ => rfl⟩

theorem EventTable.Grows.trans {P : Fin 52 → Prop} {e f g : EventTable} (h : e.Grows P f) (k : f.Grows P g) : e.Grows P g :=
  ⟨fun x => k.owed (h.owed x), fun i => (k.level i).trans (h.level i), fun i x => k.count i (h.count i x),
    fun i hi => (k.others i hi).trans (h.others i hi)⟩

/-- A record after one record of the table is set. -/
theorem recs_set (v : Vector EventRec 52) (i j : Fin 52) (r : EventRec) : (v.set i r)[j] = if i = j then r else v[j] := by
  simp only [Fin.getElem_fin, Vector.getElem_set, Fin.ext_iff]

theorem grows_latched (e : EventTable) (threshold : Nat) (now : Word32) (src : Source) (d : Nat) :
    e.Grows (· = src.id) (e.latched threshold now src d) := by
  unfold EventTable.latched
  split
  · exact .refl _ e
  · refine ⟨fun h => by simp [h], fun i => ?_, fun i hi => ?_, fun i hi => ?_⟩ <;> simp only [recs_set] <;> split
    · subst_vars; rfl
    · rfl
    · simp [EventRec.latched]
    · exact hi
    · exact absurd (Eq.symm ‹_›) hi
    · rfl

/-- A latch of a source that is not at level 0 leaves the detail and a count above 0 (R191). -/
theorem latched_self {e : EventTable} (threshold : Nat) (now : Word32) {src : Source} (d : Nat) (h : e.recs[src.id].level ≠ 0) :
    (e.latched threshold now src d).recs[src.id] = e.recs[src.id].latched now d := by
  rw [EventTable.latched, if_neg h, recs_set, if_pos rfl]

/-- While AUTONOMOUS nothing is admitted (R16). -/
theorem admits_away {s : State} (h : s.link.online = .autonomous) (room : Nat) : s.admits room = false := by
  simp [State.admits, h]

theorem offerSummary_away {s : State} (h : s.link.online = .autonomous) : offerSummary s = s := by
  simp [offerSummary, admits_away h]

/-- While AUTONOMOUS a latch changes the event table alone (R16, R191). -/
theorem latch_away {s : State} (h : s.link.online = .autonomous) (src : Source) (d : Nat) :
    latch src d s = { s with events := s.events.latched s.link.threshold s.timebase src d } := by
  unfold latch EventTable.latched
  dsimp only
  split
  · rfl
  · split
    · refine (offerSummary_away ?_).trans ?_
      · exact h
      · rw [decide_eq_true ‹_›, Bool.or_true]
    · rw [decide_eq_false ‹_›, Bool.or_false]

end Sys2Proof.Machine

/-! # The entry into AUTONOMOUS -/

namespace Sys2Proof.Machine

open Sys2Proof

/-! ## The work that is lost, in the state it is lost in -/

/-- The link is AUTONOMOUS and no read waits for a slot or for pages: nothing that is freed passes to anyone. -/
structure Quiet (s : State) : Prop where
  online : s.link.online = .autonomous
  slotWait : s.cache.slotWait = []
  waiting : s.pool.waiting = []

theorem Quiet.of_eq {s t : State} (h : Quiet s) (ho : t.link.online = s.link.online) (hs : t.cache.slotWait = s.cache.slotWait)
    (hw : t.pool.waiting = s.pool.waiting) : Quiet t :=
  ⟨ho.trans h.online, hs.trans h.slotWait, hw.trans h.waiting⟩

theorem Quiet.updCtx {s : State} (h : Quiet s) (n : Node) (f : Context → Context) : Quiet (s.updCtx n f) := h.of_eq rfl rfl rfl

theorem Quiet.freeEntry {s : State} (h : Quiet s) (i : Fin 32) :
    Quiet ((withdraw (.write i) s).updEntry i fun e => { e with use := none }) := h.of_eq rfl rfl rfl

/-- Without a waiting allocation there is nothing to retry (R31). -/
theorem retryWaiting_of_nil {s : State} (h : s.pool.waiting = []) : retryWaiting s = s := by
  rw [retryWaiting, h, retryList]

/-- Without a waiting allocation pages that are freed are free. -/
theorem pagesJoin_of_nil {s : State} (h : s.pool.waiting = []) (k : Nat) :
    pagesJoin k s = s.updPool fun p => { p with free := p.free + k } :=
  retryWaiting_of_nil (s := s.updPool fun p => { p with free := p.free + k }) h

theorem Quiet.retryWaiting {s : State} (h : Quiet s) : Machine.retryWaiting s = s := retryWaiting_of_nil h.waiting

theorem Quiet.grantSlots {s : State} (h : Quiet s) : Machine.grantSlots s = s := by
  rw [Machine.grantSlots, h.slotWait, grantList]

theorem Quiet.pagesJoin {s : State} (h : Quiet s) (k : Nat) :
    Machine.pagesJoin k s = s.updPool fun p => { p with free := p.free + k } := pagesJoin_of_nil h.waiting k

theorem Quiet.mediaError {s : State} (h : Quiet s) (n : Node) (c : MediaCause) (u : Lun) :
    Machine.mediaError n c u s =
      { s with events := s.events.latched s.link.threshold s.timebase (.node n .mediaError) (c.num + 256 * u) } :=
  latch_away h.online ..

/-- What identifies a line and its data (R170). -/
def Line.contents (l : Line) : Node × Lun × Byte × Nat × Vector (Option (List Byte)) 8 := (l.node, l.lun, l.generation, l.index, l.chunks)

/-- The VALID lines in the order of use. -/
def Cache.validLines (c : Cache) := (c.lines.filter fun l => decide (l.state = .valid)).map Line.contents

/-- The sources MEDIA_ERROR of the four nodes. -/
def IsMediaError (i : Fin 52) : Prop := ∃ n, i = (Source.node n .mediaError).id

/-- What the loss of a fetch, an entry, a forward or a waiting read leaves of the part (R16, R167, R186): the histories, the
waiting lists, the VALID lines and all that `State.still` keeps stay, slots and entries only become free, and no event but
MEDIA_ERROR is latched. -/
structure Loses (s t : State) : Prop where
  still : t.still = s.still
  queue : t.link.queue = s.link.queue
  hist : ∀ n, (t.node n).hist = (s.node n).hist
  slotWait : t.cache.slotWait = s.cache.slotWait
  waiting : t.pool.waiting = s.pool.waiting
  valid : t.cache.validLines = s.cache.validLines
  events : s.events.Grows IsMediaError t.events
  slots : ∀ i : Fin 16, s.cache.slots[i].use = .free → t.cache.slots[i].use = .free
  writes : ∀ i : Fin 32, s.cache.writes[i].use = none → t.cache.writes[i].use = none

theorem Loses.refl (s : State) : Loses s s := ⟨rfl, rfl, fun _ => rfl, rfl, rfl, rfl, .refl _ _, fun _ => id, fun _ => id⟩

theorem Loses.trans {s t u : State} (h : Loses s t) (k : Loses t u) : Loses s u :=
  ⟨k.still.trans h.still, k.queue.trans h.queue, fun n => (k.hist n).trans (h.hist n), k.slotWait.trans h.slotWait,
    k.waiting.trans h.waiting, k.valid.trans h.valid, h.events.trans k.events, fun i x => k.slots i (h.slots i x),
    fun i x => k.writes i (h.writes i x)⟩

theorem Loses.quiet {s t : State} (h : Loses s t) (hq : Quiet s) : Quiet t :=
  hq.of_eq (congrArg (·.link.online) h.still) h.slotWait h.waiting

/-! ## The updates it is made of -/

variable {s s0 : State}

theorem loses_updCtx (h : Loses s0 s) (n : Node) (f : Context → Context) : Loses s0 (s.updCtx n f) :=
  h.trans ⟨by simp, rfl, fun _ => by simp, rfl, rfl, rfl, .refl _ _, fun _ => id, fun _ => id⟩

theorem loses_updDrive (h : Loses s0 s) (n : Node) (u : Lun) (f : Drive → Drive) (hf : ∀ d, (f d).still = d.still) :
    Loses s0 (s.updDrive n u f) :=
  h.trans ⟨by simp [hf], rfl, fun _ => by simp, rfl, rfl, rfl, .refl _ _, fun _ => id, fun _ => id⟩

theorem loses_free (h : Loses s0 s) (f : Pool → Nat) : Loses s0 (s.updPool fun p => { p with free := f p }) :=
  h.trans ⟨rfl, rfl, fun _ => rfl, rfl, rfl, rfl, .refl _ _, fun _ => id, fun _ => id⟩

theorem loses_lines (h : Loses s0 s) (f : Cache → List Line) (hf : ∀ c : Cache, ({ c with lines := f c } : Cache).validLines = c.validLines) :
    Loses s0 (s.updCache fun c => { c with lines := f c }) :=
  h.trans ⟨rfl, rfl, fun _ => rfl, rfl, rfl, hf _, .refl _ _, fun _ => id, fun _ => id⟩

theorem loses_withdraw (h : Loses s0 s) (o : MediaOwner) : Loses s0 (withdraw o s) :=
  h.trans ⟨rfl, rfl, fun _ => rfl, rfl, rfl, rfl, .refl _ _, fun _ => id, fun _ => id⟩

/-- A fetch slot after a slot's use is set. -/
theorem setSlotUse_use (s : State) (i j : Fin 16) (v : SlotUse) :
    (s.setSlotUse i v).cache.slots[j].use = if i = j then v else s.cache.slots[j].use := by
  simp only [State.setSlotUse, State.updSlot, updCache_cache, Fin.getElem_fin, Vector.getElem_set, Fin.ext_iff]
  split <;> rfl

/-- A write entry after an entry ends. -/
theorem updEntry_use (s : State) (i j : Fin 32) (v : Option WriteUse) :
    (s.updEntry i fun e => { e with use := v }).cache.writes[j].use = if i = j then v else s.cache.writes[j].use := by
  simp only [State.updEntry, updCache_cache, Fin.getElem_fin, Vector.getElem_set, Fin.ext_iff]
  split <;> rfl

theorem loses_freeSlot (h : Loses s0 s) (i : Fin 16) : Loses s0 (s.setSlotUse i .free) :=
  h.trans ⟨rfl, rfl, fun _ => rfl, rfl, rfl, rfl, .refl _ _, fun j hj => by rw [setSlotUse_use, hj, ite_self], fun _ => id⟩

theorem loses_freeEntry (h : Loses s0 s) (i : Fin 32) : Loses s0 (s.updEntry i fun e => { e with use := none }) :=
  h.trans ⟨rfl, rfl, fun _ => rfl, rfl, rfl, rfl, .refl _ _, fun _ => id, fun j hj => by rw [updEntry_use, hj, ite_self]⟩

theorem loses_mediaError (h : Loses s0 s) (hq : Quiet s) (n : Node) (c : MediaCause) (u : Lun) : Loses s0 (mediaError n c u s) := by
  rw [hq.mediaError]
  have hg := grows_latched s.events s.link.threshold s.timebase (.node n .mediaError) (c.num + 256 * u)
  exact h.trans ⟨rfl, rfl, fun _ => rfl, rfl, rfl, rfl,
    ⟨hg.owed, hg.level, hg.count, fun i hi => hg.others i fun e => hi ⟨n, e⟩⟩, fun _ => id, fun _ => id⟩

/-- A change of pins leaves the VALID lines with their data. -/
theorem validLines_map (c : Cache) (g : Line → Line) (hg : ∀ l, ∃ k, g l = { l with pins := k }) :
    ({ c with lines := c.lines.map g } : Cache).validLines = c.validLines := by
  have hstate : ∀ l, (g l).state = l.state := fun l => by obtain ⟨k, hk⟩ := hg l; rw [hk]
  have hcontents : Line.contents ∘ g = Line.contents := funext fun l => by obtain ⟨k, hk⟩ := hg l; simp [hk, Line.contents]
  simp only [Cache.validLines, List.filter_map, List.map_map, hcontents]
  congr 2
  funext l
  simp [hstate]

/-- Erasing an element that a test passes over leaves what the test picks. -/
theorem filter_eraseP {α : Type} {p q : α → Bool} (h : ∀ a, p a = true → q a = false) (l : List α) :
    (l.eraseP p).filter q = l.filter q := by
  induction l with
  | nil => rfl
  | cons a l ih =>
    by_cases hp : p a = true
    · simp [hp, h a hp]
    · simp [hp, List.filter_cons, ih]

theorem validLines_eraseP (c : Cache) (i : Fin 16) :
    ({ c with lines := c.lines.eraseP fun x => x.inSlot i } : Cache).validLines = c.validLines := by
  simp only [Cache.validLines]
  rw [filter_eraseP]
  intro l hl
  cases hs : l.state <;> simp_all [Line.inSlot]

theorem loses_freeSlotLine (h : Loses s0 s) (i : Fin 16) : Loses s0 (freeSlotLine i s) :=
  loses_free (loses_lines h _ fun c => validLines_eraseP c i) _

/-! ## The operations -/

theorem loses_enterStatus (h : Loses s0 s) (n : Node) : Loses s0 (enterStatus n s) := by
  unfold enterStatus
  dsimp only
  split
  · exact h
  · refine loses_updCtx (loses_updDrive h _ _ _ ?_) _ _
    intro d
    rfl

theorem loses_closeFailed (h : Loses s0 s) (n : Node) : Loses s0 (closeFailed n s) := by
  unfold closeFailed
  dsimp only
  split
  · exact loses_updCtx h _ _
  · exact loses_enterStatus h n

theorem loses_readFails (h : Loses s0 s) (n : Node) (x : Sense) : Loses s0 (readFails n x s) := by
  unfold readFails
  dsimp only
  split
  · split
    · exact loses_closeFailed (loses_updCtx h _ _) n
    · exact loses_updCtx h _ _
  · exact h

/-- Two changes of one context are one. -/
theorem updCtx_updCtx (s : State) (n : Node) (f g : Context → Context) : (s.updCtx n f).updCtx n g = s.updCtx n (g ∘ f) := by
  simp [State.updCtx, State.updNode]

@[simp] theorem enterStatus_cache (n : Node) (s : State) : (enterStatus n s).cache = s.cache := by
  unfold enterStatus; dsimp only; split <;> rfl

@[simp] theorem closeFailed_cache (n : Node) (s : State) : (closeFailed n s).cache = s.cache := by
  unfold closeFailed; dsimp only; split <;> simp

@[simp] theorem readFails_cache (n : Node) (x : Sense) (s : State) : (readFails n x s).cache = s.cache := by
  unfold readFails; dsimp only; split
  · split <;> simp
  · rfl

/-- A change of the pins of lines of one node's drives. -/
def Unpins (n : Node) (g : Line → Line) : Prop := ∀ l, (∃ k, g l = { l with pins := k }) ∧ (l.node ≠ n → g l = l)

theorem unpins_id (n : Node) : Unpins n id := fun l => ⟨⟨l.pins, rfl⟩, fun _ => rfl⟩

/-- A cache whose lines' pins have changed. -/
def Cache.unpin (g : Line → Line) (c : Cache) : Cache := { c with lines := c.lines.map g }

theorem updCache_unpin_id (s : State) : s.updCache (Cache.unpin id) = s := by simp [State.updCache, Cache.unpin]

/-- A context that is told of no further line. -/
def Context.forget (x : Context) : Context := { x with ask := none }

/-- Where nothing waits, a detachment changes the pins of the node's lines and what its read asked for (R173). -/
theorem detach_quiet (h : Quiet s) (n : Node) : ∃ g, Unpins n g ∧
    (detach n s = s.updCache (Cache.unpin g) ∨ detach n s = (s.updCtx n Context.forget).updCache (Cache.unpin g)) := by
  unfold detach
  split
  · exact ⟨id, unpins_id n, .inl (updCache_unpin_id s).symm⟩
  · rename_i a _
    split
    · refine ⟨fun l => if l.isFor n (s.cmdLun n) a.generation a.index then { l with pins := l.pins - 1 } else l,
        fun l => ⟨?_, fun hl => if_neg (by simp [Line.isFor, hl])⟩, .inr ?_⟩
      · dsimp only
        split
        · exact ⟨_, rfl⟩
        · exact ⟨l.pins, rfl⟩
      · dsimp only
        split
        · rfl
        · split
          · exact Quiet.retryWaiting (h.of_eq rfl rfl rfl)
          · rfl
    · exact ⟨id, unpins_id n, .inl (updCache_unpin_id s).symm⟩

/-- Where nothing waits, a read that fails is told of no further line, and only the pins of its node's lines change
(R159, R173). -/
theorem failRead_quiet (h : Quiet s) (n : Node) (x : Sense) : ∃ g, Unpins n g ∧
    failRead n x s = ((readFails n x s).updCtx n Context.forget).updCache (Cache.unpin g) := by
  obtain ⟨g, hg, e⟩ := detach_quiet ((loses_readFails (.refl s) n x).quiet h) n
  refine ⟨g, hg, ?_⟩
  rcases e with e | e
  · exact congrArg (State.updCtx · n Context.forget) e
  · refine (congrArg (State.updCtx · n Context.forget) e).trans ?_
    exact congrArg (State.updCache · (Cache.unpin g)) (updCtx_updCtx (readFails n x s) n Context.forget Context.forget)

theorem loses_failRead (h : Loses s0 s) (hq : Quiet s) (n : Node) (x : Sense) : Loses s0 (failRead n x s) := by
  obtain ⟨g, hg, e⟩ := failRead_quiet hq n x
  rw [e]
  exact loses_lines (loses_updCtx (loses_readFails h n x) _ _) _ fun c => validLines_map c g fun l => (hg l).1

theorem failRead_cache (h : Quiet s) (n : Node) (x : Sense) : ∃ g, Unpins n g ∧
    (failRead n x s).cache = s.cache.unpin g := by
  obtain ⟨g, hg, e⟩ := failRead_quiet h n x
  exact ⟨g, hg, by rw [e]; simp⟩

/-- The line of a fetch slot is freed with its slot, and its FETCH_REQ withdrawn (R175, R179). -/
def fetchFreed (i : Fin 16) (s : State) : State := (freeSlotLine i (withdraw (.fetch i) s)).setSlotUse i .free

/-- A fetch is lost, before the read that waits for it is told (R175, R179): MEDIA_ERROR is latched for a FETCHING line. -/
def fetchGone (i : Fin 16) (c : MediaCause) (s : State) : State :=
  match s.slotLine i with
  | none => (withdraw (.fetch i) s).setSlotUse i .free
  | some l =>
    match l.state with
    | .fetching _ => mediaError l.node c l.lun (fetchFreed i s)
    | _ => fetchFreed i s

theorem Quiet.fetchFreed (hq : Quiet s) (i : Fin 16) : Quiet (Machine.fetchFreed i s) := hq.of_eq rfl rfl rfl

/-- Where nothing waits, a lost fetch fails at most one read, and that of a pinned FETCHING line for certain (R179). -/
theorem fetchFails_quiet (hq : Quiet s) (i : Fin 16) (c : MediaCause) (x : Sense) :
    (fetchFails i c x s = fetchGone i c s ∨ ∃ n, fetchFails i c x s = failRead n x (fetchGone i c s)) ∧
    ∀ l j, s.slotLine i = some l → l.state = .fetching j → 0 < l.pins →
      fetchFails i c x s = failRead l.node x (fetchGone i c s) := by
  have hfreed : grantSlots (retryWaiting ((freeSlotLine i (withdraw (.fetch i) s)).setSlotUse i .free)) = fetchFreed i s := by
    change grantSlots (retryWaiting (fetchFreed i s)) = _
    rw [(hq.fetchFreed i).retryWaiting, (hq.fetchFreed i).grantSlots]
  cases hl : s.slotLine i with
  | none => exact ⟨.inl (by simp only [fetchFails, fetchGone, hl]), by simp⟩
  | some l =>
    cases hs : l.state with
    | fetching j =>
      simp only [fetchFails, fetchGone, hl, hs, hfreed]
      refine ⟨?_, fun l' j' e _ hp => ?_⟩
      · split
        · exact .inr ⟨l.node, rfl⟩
        · exact .inl rfl
      · cases e
        rw [if_pos hp]
    | valid =>
      refine ⟨.inl (by simp only [fetchFails, fetchGone, hl, hs, hfreed]), fun l' j' e he => ?_⟩
      cases e
      simp [hs] at he
    | doomed j =>
      refine ⟨.inl (by simp only [fetchFails, fetchGone, hl, hs, hfreed]), fun l' j' e he => ?_⟩
      cases e
      simp [hs] at he

theorem loses_fetchGone (h : Loses s0 s) (hq : Quiet s) (i : Fin 16) (c : MediaCause) : Loses s0 (fetchGone i c s) := by
  have hfreed : Loses s0 (fetchFreed i s) := loses_freeSlot (loses_freeSlotLine (loses_withdraw h _) i) i
  unfold fetchGone
  split
  · exact loses_freeSlot (loses_withdraw h _) i
  · split
    · exact loses_mediaError hfreed (hq.fetchFreed i) ..
    · exact hfreed

theorem loses_fetchFails (h : Loses s0 s) (hq : Quiet s) (i : Fin 16) (c : MediaCause) (x : Sense) :
    Loses s0 (fetchFails i c x s) := by
  have hgone := loses_fetchGone h hq i c
  rcases (fetchFails_quiet hq i c x).1 with e | ⟨n, e⟩ <;> rw [e]
  · exact hgone
  · exact loses_failRead hgone ((loses_fetchGone (.refl s) hq i c).quiet hq) n x

theorem loses_pagesJoin (h : Loses s0 s) (hq : Quiet s) (k : Nat) : Loses s0 (pagesJoin k s) := by
  rw [hq.pagesJoin]
  exact loses_free h _

theorem loses_endEntry (h : Loses s0 s) (hq : Quiet s) (i : Fin 32) : Loses s0 (endEntry i s) :=
  loses_pagesJoin (loses_freeEntry (loses_withdraw h _) i) (hq.freeEntry i) 1

theorem loses_entryLost (h : Loses s0 s) (hq : Quiet s) (i : Fin 32) : Loses s0 (entryLost s i) := by
  unfold entryLost
  split
  · exact h
  · exact loses_mediaError (loses_endEntry h hq i) ((loses_endEntry (.refl s) hq i).quiet hq) ..

theorem loses_discardUnit (h : Loses s0 s) (hq : Quiet s) (n : Node) : Loses s0 (discardUnit n s) := by
  unfold discardUnit
  split
  · exact loses_pagesJoin (loses_updCtx h _ _) (hq.updCtx _ _) 1
  · exact h

theorem loses_checkAwait (h : Loses s0 s) (n : Node) : Loses s0 (checkAwait n s) := by
  unfold checkAwait
  split
  · exact loses_enterStatus h n
  · exact h

/-- A fold of operations that lose work loses work. -/
theorem loses_foldl {α : Type} {f : State → α → State} (hf : ∀ t a, Quiet t → Loses t (f t a)) (l : List α) (hq : Quiet s) :
    Loses s (l.foldl f s) :=
  (foldl_keeps (P := fun t => Loses s t ∧ Quiet t) (fun t a ht => ⟨ht.1.trans (hf t a ht.2), (hf t a ht.2).quiet ht.2⟩) l
    ⟨.refl s, hq⟩).1

theorem loses_failWrite (h : Loses s0 s) (hq : Quiet s) (n : Node) (x : Sense) : Loses s0 (failWrite n x s) := by
  unfold failWrite
  dsimp only
  split
  · have hfailed := loses_updCtx (.refl s) n fun c => { c with result := .failed x }
    have hended := hfailed.trans (loses_foldl (f := fun t i => endEntry i t) (fun t i ht => loses_endEntry (.refl t) ht i)
      ((s.updCtx n fun c => { c with result := .failed x }).ownedEntries n fun w => !w.sent) (hfailed.quiet hq))
    exact h.trans (loses_checkAwait (loses_discardUnit hended (hended.quiet hq) n) n)
  · exact h

theorem loses_failForward (h : Loses s0 s) (n : Node) (x : Sense) : Loses s0 (failForward n x s) := by
  have hfailed := loses_updCtx (loses_withdraw h (.forward n)) n fun c => { c with fwdState := .none, result := .failed x }
  unfold failForward
  dsimp only
  split
  · exact hfailed
  · split
    · exact loses_updCtx hfailed _ _
    · exact loses_enterStatus hfailed n

/-! ## What a lost fetch does to the slots and the lines -/

theorem fetchGone_nodes (hq : Quiet s) (i : Fin 16) (c : MediaCause) : (fetchGone i c s).nodes = s.nodes := by
  unfold fetchGone
  split
  · rfl
  · split
    · rw [(hq.fetchFreed i).mediaError]; rfl
    · rfl

/-- The cache of a lost fetch is that of its freed line and slot. -/
theorem fetchGone_cache (hq : Quiet s) (i : Fin 16) (c : MediaCause) :
    (fetchGone i c s).cache = (s.setSlotUse i .free).cache ∨ (fetchGone i c s).cache = (fetchFreed i s).cache := by
  unfold fetchGone
  split
  · exact .inl rfl
  · split
    · rw [(hq.fetchFreed i).mediaError]; exact .inr rfl
    · exact .inr rfl

theorem fetchGone_use (hq : Quiet s) (i : Fin 16) (c : MediaCause) : (fetchGone i c s).cache.slots[i].use = .free := by
  rcases fetchGone_cache hq i c with e | e <;> rw [e]
  · rw [setSlotUse_use, if_pos rfl]
  · rw [fetchFreed, setSlotUse_use, if_pos rfl]

theorem fetchGone_writes (hq : Quiet s) (i : Fin 16) (c : MediaCause) : (fetchGone i c s).cache.writes = s.cache.writes := by
  rcases fetchGone_cache hq i c with e | e <;> rw [e] <;> rfl

/-- Erasing an element that another test passes over leaves what that test finds. -/
theorem find?_eraseP {α : Type} {p q : α → Bool} (h : ∀ a, p a = true → q a = false) (l : List α) :
    (l.eraseP p).find? q = l.find? q := by
  rw [← List.head?_filter, filter_eraseP h, List.head?_filter]

/-- A line belongs to one slot at most. -/
theorem inSlot_ne {l : Line} {i j : Fin 16} (hij : j ≠ i) (h : l.inSlot i = true) : l.inSlot j = false := by
  cases hs : l.state <;> simp_all [Line.inSlot] <;> exact Ne.symm hij

/-- A lost fetch leaves the lines of the other slots. -/
theorem fetchGone_slotLine (hq : Quiet s) {i j : Fin 16} (hij : j ≠ i) (c : MediaCause) :
    (fetchGone i c s).slotLine j = s.slotLine j := by
  unfold State.slotLine
  rcases fetchGone_cache hq i c with e | e <;> rw [e]
  · rfl
  · exact find?_eraseP (fun l => inSlot_ne hij) _

/-- A lost fetch of a FETCHING line counts as a MEDIA_ERROR of its node (R179). -/
theorem fetchGone_latches (hq : Quiet s) {i : Fin 16} (c : MediaCause) {l : Line} {j : Fin 16} {n : Node}
    (hl : s.slotLine i = some l) (hs : l.state = .fetching j) (hn : l.node = n)
    (hlevel : s.events.recs[(Source.node n .mediaError).id].level ≠ 0) :
    0 < (fetchGone i c s).events.recs[(Source.node n .mediaError).id].count := by
  subst hn
  have e : fetchGone i c s = mediaError l.node c l.lun (fetchFreed i s) := by simp only [fetchGone, hl, hs]
  rw [e, (hq.fetchFreed i).mediaError]
  dsimp only
  rw [latched_self]
  · simp [EventRec.latched]
  · exact hlevel

/-- Where nothing waits, a read that fails changes at most the pins of its node's lines. -/
theorem failRead_slotLine (hq : Quiet s) (n : Node) (x : Sense) (i : Fin 16) : ∃ g, Unpins n g ∧
    (failRead n x s).slotLine i = (s.slotLine i).map g := by
  obtain ⟨g, hg, e⟩ := failRead_cache hq n x
  refine ⟨g, hg, ?_⟩
  have hslot : (fun l : Line => l.inSlot i) ∘ g = fun l => l.inSlot i := funext fun l => by
    obtain ⟨⟨k, hk⟩, -⟩ := hg l
    simp [hk, Line.inSlot]
  simp only [State.slotLine, e, Cache.unpin, List.find?_map, hslot]

/-! ## What befalls a column -/

theorem enterStatus_node_ne {n m : Node} (h : n ≠ m) (s : State) : (enterStatus n s).node m = s.node m := by
  unfold enterStatus
  dsimp only
  split
  · rfl
  · rw [updCtx_node_ne _ _ h, updDrive_node_ne _ _ _ _ _ h]

theorem closeFailed_node_ne {n m : Node} (h : n ≠ m) (s : State) : (closeFailed n s).node m = s.node m := by
  unfold closeFailed
  dsimp only
  split
  · exact updCtx_node_ne _ _ h
  · exact enterStatus_node_ne h s

theorem readFails_node_ne {n m : Node} (h : n ≠ m) (x : Sense) (s : State) : (readFails n x s).node m = s.node m := by
  unfold readFails
  dsimp only
  split
  · split
    · rw [closeFailed_node_ne h, updCtx_node_ne _ _ h]
    · exact updCtx_node_ne _ _ h
  · rfl

theorem failRead_node_ne (hq : Quiet s) {n m : Node} (h : n ≠ m) (x : Sense) : (failRead n x s).node m = s.node m := by
  obtain ⟨g, -, e⟩ := failRead_quiet hq n x
  rw [e, updCache_node, updCtx_node_ne _ _ h, readFails_node_ne h]

theorem failRead_ctx (hq : Quiet s) (n : Node) (x : Sense) :
    ((failRead n x s).node n).ctx = ((readFails n x s).node n).ctx.forget := by
  obtain ⟨g, -, e⟩ := failRead_quiet hq n x
  rw [e, updCache_node, updCtx_node_self]

/-- A context with a command enters STATUS with its result as it stands (R162). -/
theorem enterStatus_ctx {n : Node} {k : Command} (h : (s.node n).ctx.command = some k) :
    ((enterStatus n s).node n).ctx = { (s.node n).ctx with
      phase := .status, mode := .none,
      statusBytes := statusWrapper k.tag (k.expected - (s.node n).ctx.moved) (s.node n).ctx.result.num } := by
  unfold enterStatus
  simp only [h, updCtx_node_self, updDrive_ctx]

theorem endEntry_quiet (hq : Quiet s) (i : Fin 32) : endEntry i s =
    ((withdraw (.write i) s).updEntry i fun e => { e with use := none }).updPool fun p => { p with free := p.free + 1 } :=
  (hq.freeEntry i).pagesJoin 1

theorem endEntry_nodes (hq : Quiet s) (i : Fin 32) : (endEntry i s).nodes = s.nodes := by
  rw [endEntry_quiet hq]
  rfl

theorem endEntry_use (hq : Quiet s) (i j : Fin 32) :
    (endEntry i s).cache.writes[j].use = if i = j then none else s.cache.writes[j].use := by
  rw [endEntry_quiet hq]
  exact updEntry_use (withdraw (.write i) s) i j none

theorem discardUnit_node_ne (hq : Quiet s) {n m : Node} (h : n ≠ m) : (discardUnit n s).node m = s.node m := by
  unfold discardUnit
  split
  · rw [(hq.updCtx _ _).pagesJoin, updPool_node, updCtx_node_ne _ _ h]
  · rfl

/-- The unit being filled is all that its discard takes from a context. -/
theorem discardUnit_ctx (hq : Quiet s) (n : Node) :
    ((discardUnit n s).node n).ctx = { (s.node n).ctx with filling := none } := by
  unfold discardUnit
  split
  · rw [(hq.updCtx _ _).pagesJoin, updPool_node, updCtx_node_self]
  · rename_i h
    rw [Bool.not_eq_true, Option.isSome_eq_false_iff, Option.isNone_iff_eq_none] at h
    rw [← h]

theorem checkAwait_node_ne {n m : Node} (h : n ≠ m) : (checkAwait n s).node m = s.node m := by
  unfold checkAwait
  split
  · exact enterStatus_node_ne h s
  · rfl

theorem failWrite_node_ne (hq : Quiet s) {n m : Node} (h : n ≠ m) (x : Sense) : (failWrite n x s).node m = s.node m := by
  unfold failWrite
  dsimp only
  split
  · have hfailed := loses_updCtx (.refl s) n fun c => { c with result := .failed x }
    have hended := foldl_keeps (P := fun t => Quiet t ∧ t.node m = s.node m) (f := fun t i => endEntry i t)
      (fun t i ht => ⟨(loses_endEntry (.refl t) ht.1 i).quiet ht.1, by simp only [State.node, endEntry_nodes ht.1]; exact ht.2⟩)
      ((s.updCtx n fun c => { c with result := .failed x }).ownedEntries n fun w => !w.sent)
      ⟨hfailed.quiet hq, updCtx_node_ne _ _ h⟩
    rw [checkAwait_node_ne h, discardUnit_node_ne hended.1 h, hended.2]
  · rfl

theorem failForward_node_ne {n m : Node} (h : n ≠ m) (x : Sense) : (failForward n x s).node m = s.node m := by
  have hfailed : ((withdraw (.forward n) s).updCtx n fun c => { c with fwdState := .none, result := .failed x }).node m = s.node m :=
    updCtx_node_ne _ _ h
  unfold failForward
  dsimp only
  split
  · exact hfailed
  · split
    · rw [updCtx_node_ne _ _ h, hfailed]
    · rw [enterStatus_node_ne h, hfailed]

/-! ## Contexts that stay as they are -/

/-- A failure of a read that is not running, or has failed, leaves its context but for the line it asked for. -/
theorem failRead_ctx_of_not (hq : Quiet s) {n : Node} (x : Sense)
    (h : ¬((s.node n).ctx.phase = .dataIn ∧ (s.node n).ctx.running = true ∧ (s.node n).ctx.result = .passed)) :
    ((failRead n x s).node n).ctx = (s.node n).ctx.forget := by
  rw [failRead_ctx hq, readFails, if_neg h]

/-- A property of contexts that the failure of a read does not touch: it holds of no read that runs, and does not depend on
the line asked for. -/
def ReadProof (P : Context → Prop) : Prop :=
  ∀ x, P x → P x.forget ∧ ¬(x.phase = .dataIn ∧ x.running = true ∧ x.result = .passed)

theorem failRead_keeps {P : Context → Prop} (hP : ReadProof P) {n : Node} (hq : Quiet s) (h : P (s.node n).ctx) (m : Node)
    (x : Sense) : P ((failRead m x s).node n).ctx := by
  rcases eq_or_ne m n with rfl | hne
  · rw [failRead_ctx_of_not hq x (hP _ h).2]
    exact (hP _ h).1
  · rw [failRead_node_ne hq hne]
    exact h

theorem fetchFails_keeps {P : Context → Prop} (hP : ReadProof P) {n : Node} (hq : Quiet s) (h : P (s.node n).ctx) (i : Fin 16)
    (c : MediaCause) (x : Sense) : P ((fetchFails i c x s).node n).ctx := by
  have hgone : P ((fetchGone i c s).node n).ctx := by simpa only [State.node, fetchGone_nodes hq] using h
  rcases (fetchFails_quiet hq i c x).1 with e | ⟨m, e⟩ <;> rw [e]
  · exact hgone
  · exact failRead_keeps hP ((loses_fetchGone (.refl s) hq i c).quiet hq) hgone m x

/-! ## Reads -/

/-- A context whose read of command `k` the loss of the link has failed (R159, R186). -/
structure Context.ReadLost (k : Command) (x : Context) : Prop where
  result : x.result = .failed senseNotReady
  ask : x.ask = none
  command : x.command = some k
  fwdState : x.fwdState = .none
  phase : x.phase = .dataIn ∨ x.phase = .status

theorem readProof_readLost (k : Command) : ReadProof (Context.ReadLost k) := fun _ h =>
  ⟨⟨h.result, rfl, h.command, h.fwdState, h.phase⟩, fun e => by simp [h.result] at e⟩

/-- A reading command fails with the sense, in DATA_IN or on to STATUS (R159). -/
theorem failRead_of_reading (hq : Quiet s) {n : Node} {k : Command} (h : Reading s n k) (hf : (s.node n).ctx.fwdState = .none) :
    ((failRead n senseNotReady s).node n).ctx.ReadLost k := by
  obtain ⟨hcommand, hphase, hmode, hrunning, hresult, hpending⟩ := h
  rw [failRead_ctx hq, readFails, if_pos ⟨hphase, hrunning, hresult⟩]
  dsimp only
  rw [if_pos ⟨hmode, hpending⟩, closeFailed]
  split
  · rw [updCtx_node_self, updCtx_node_self]
    exact ⟨rfl, rfl, hcommand, hf, .inl hphase⟩
  · rw [enterStatus_ctx (k := k) (by rw [updCtx_node_self]; exact hcommand), updCtx_node_self]
    exact ⟨rfl, rfl, hcommand, hf, .inr rfl⟩

/-- A read that still waits for the line of a fetch slot (R174, R175). -/
structure ReadsSlot (n : Node) (k : Command) (i : Fin 16) (s : State) : Prop where
  reading : Reading s n k
  fwdState : (s.node n).ctx.fwdState = .none
  line : ∃ l, s.slotLine i = some l ∧ l.state = .fetching i ∧ l.node = n ∧ 0 < l.pins

theorem ReadsSlot.of_eq {n : Node} {k : Command} {i : Fin 16} {t : State} (h : ReadsSlot n k i s) (e : t.node n = s.node n)
    (hl : t.slotLine i = s.slotLine i) : ReadsSlot n k i t :=
  ⟨by simpa only [Reading, e] using h.reading, by rw [e]; exact h.fwdState, by rw [hl]; exact h.line⟩

/-- Another read that fails leaves it waiting; its own failure is the loss of the read. -/
theorem ReadsSlot.failRead {n m : Node} {k : Command} {i : Fin 16} (h : ReadsSlot n k i s) (hq : Quiet s) :
    ReadsSlot n k i (failRead m senseNotReady s) ∨ ((failRead m senseNotReady s).node n).ctx.ReadLost k := by
  rcases eq_or_ne m n with rfl | hne
  · exact .inr (failRead_of_reading hq h.reading h.fwdState)
  · obtain ⟨l, hl, hs, hn, hp⟩ := h.line
    obtain ⟨g, hg, e⟩ := failRead_slotLine hq m senseNotReady i
    have hgl : g l = l := (hg l).2 (hn ▸ hne.symm)
    exact .inl (h.of_eq (failRead_node_ne hq hne _) (by rw [e, hl, Option.map_some, hgl]))

/-- The loss of another fetch leaves it waiting, or fails it; that of its own fetch fails it. -/
theorem ReadsSlot.fetchFails {n : Node} {k : Command} {i j : Fin 16} (h : ReadsSlot n k i s) (hq : Quiet s) (c : MediaCause) :
    (i ≠ j ∧ ReadsSlot n k i (fetchFails j c senseNotReady s)) ∨ ((fetchFails j c senseNotReady s).node n).ctx.ReadLost k := by
  have hnode : (fetchGone j c s).node n = s.node n := by simp only [State.node, fetchGone_nodes hq]
  have hquiet := (loses_fetchGone (.refl s) hq j c).quiet hq
  rcases eq_or_ne i j with rfl | hne
  · obtain ⟨l, hl, hs, rfl, hp⟩ := h.line
    rw [(fetchFails_quiet hq i c senseNotReady).2 l i hl hs hp]
    exact .inr (failRead_of_reading hquiet (by simpa only [Reading, hnode] using h.reading) (by rw [hnode]; exact h.fwdState))
  · have hgone := h.of_eq hnode (fetchGone_slotLine hq hne c)
    rcases (fetchFails_quiet hq j c senseNotReady).1 with e | ⟨m, e⟩ <;> rw [e]
    · exact .inl ⟨hne, hgone⟩
    · exact (hgone.failRead hquiet).imp (⟨hne, ·⟩) id

/-! ## Writes -/

/-- A WRITE(10) that waits for the host's answers (R161). -/
structure Context.AwaitsWrites (x : Context) : Prop where
  command : x.command ≠ none
  fwdState : x.fwdState = .none
  running : x.running = true
  phase : x.phase = .awaitHost
  result : x.result = .passed

/-- A WRITE(10) that the loss of its entries has failed (R161, R186). -/
structure Context.WriteLost (x : Context) : Prop where
  result : x.result = .failed senseNotReady
  fwdState : x.fwdState = .none
  phase : x.phase = .status

theorem readProof_awaitsWrites : ReadProof Context.AwaitsWrites := fun _ h =>
  ⟨⟨h.command, h.fwdState, h.running, h.phase, h.result⟩, fun e => by simp [h.phase] at e⟩

/-- The command of a node whose entries are lost (R186). -/
def loseWrite (t : State) (n : Node) : State := checkAwait n (failWrite n senseNotReady t)

theorem loses_loseWrite (hq : Quiet s) (n : Node) : Loses s (loseWrite s n) :=
  loses_checkAwait (loses_failWrite (.refl s) hq n _) n

theorem loseWrite_node_ne (hq : Quiet s) {n m : Node} (h : n ≠ m) : (loseWrite s n).node m = s.node m := by
  rw [loseWrite, checkAwait_node_ne h, failWrite_node_ne hq h]

/-- A command that does not run in DATA_OUT or AWAIT_HOST does not depend on entries. -/
theorem loseWrite_self {n : Node} (h : (s.node n).ctx.running = true → (s.node n).ctx.phase ≠ .dataOut ∧ (s.node n).ctx.phase ≠ .awaitHost) :
    loseWrite s n = s := by
  have e : failWrite n senseNotReady s = s := if_neg fun ⟨hp, hr, _⟩ => hp.elim (h hr).1 (h hr).2
  rw [loseWrite, e]
  exact if_neg fun ⟨hp, hr, _⟩ => (h hr).2 hp

theorem loseWrite_keeps {P : Context → Prop} (hP : ∀ x, P x → x.running = true → x.phase ≠ .dataOut ∧ x.phase ≠ .awaitHost)
    {n : Node} (hq : Quiet s) (h : P (s.node n).ctx) (m : Node) : P ((loseWrite s m).node n).ctx := by
  rcases eq_or_ne m n with rfl | hne
  · rw [loseWrite_self (hP _ h)]
    exact h
  · rw [loseWrite_node_ne hq hne]
    exact h

/-- With every entry FREE no command owns one. -/
theorem ownedEntries_nil (h : ∀ i : Fin 32, s.cache.writes[i].use = none) (n : Node) (p : WriteUse → Bool) :
    s.ownedEntries n p = [] := by
  simp only [State.ownedEntries, List.filter_eq_nil_iff, h]
  simp

/-- A WRITE(10) whose entries are all gone fails and enters STATUS (R161, R186). -/
theorem loseWrite_of_awaits (hq : Quiet s) (hnone : ∀ i : Fin 32, s.cache.writes[i].use = none) {n : Node}
    (h : (s.node n).ctx.AwaitsWrites) : ((loseWrite s n).node n).ctx.WriteLost := by
  obtain ⟨k, hk⟩ := Option.ne_none_iff_exists'.1 h.command
  let t := s.updCtx n fun x => { x with result := .failed senseNotReady }
  have hloses : Loses s (discardUnit n t) := loses_discardUnit (loses_updCtx (.refl s) _ _) (hq.updCtx _ _) n
  have hctx : ((discardUnit n t).node n).ctx = { (s.node n).ctx with result := .failed senseNotReady, filling := none } := by
    rw [discardUnit_ctx (s := t) (hq.updCtx _ _), updCtx_node_self]
  have howned (u : State) (hu : Loses s u) (p : WriteUse → Bool) : u.ownedEntries n p = [] :=
    ownedEntries_nil (fun i => hu.writes i (hnone i)) n p
  have hcheck : checkAwait n (discardUnit n t) = enterStatus n (discardUnit n t) :=
    if_pos ⟨by rw [hctx]; exact h.phase, by rw [hctx]; exact h.running, howned _ hloses _⟩
  have hfail : failWrite n senseNotReady s = enterStatus n (discardUnit n t) := by
    unfold failWrite
    dsimp only
    rw [if_pos ⟨.inr h.phase, h.running, h.result⟩, howned _ (loses_updCtx (.refl s) _ _), List.foldl_nil]
    exact hcheck
  have hstatus := enterStatus_ctx (s := discardUnit n t) (n := n) (k := k) (by rw [hctx]; exact hk)
  rw [loseWrite, hfail, checkAwait, if_neg (by rw [hstatus]; simp), hstatus, hctx]
  exact ⟨rfl, h.fwdState, rfl⟩

/-! ## Forwards -/

/-- A forwarded command whose forward is in progress (R148, R165). -/
structure Context.Forwards (k : Command) (x : Context) : Prop where
  command : x.command = some k
  fwdState : x.fwdState ≠ .none
  running : x.running = false

/-- A forwarded command that the loss of the link has failed (R167). -/
structure Context.ForwardLost (k : Command) (x : Context) : Prop where
  result : x.result = .failed senseNotReady
  fwdState : x.fwdState = .none
  phase : x.phase = if k.dirIn = true ∧ 0 < k.expected then .dataIn else .status

theorem readProof_forwards (k : Command) : ReadProof (Context.Forwards k) := fun _ h =>
  ⟨⟨h.command, h.fwdState, h.running⟩, fun e => by simp [h.running] at e⟩

/-- The forward of a node, if it has one, is lost (R167). -/
def loseForward (t : State) (n : Node) : State := if (t.node n).ctx.fwdState ≠ .none then failForward n senseNotReady t else t

theorem loses_loseForward (n : Node) : Loses s (loseForward s n) := by
  unfold loseForward
  split
  · exact loses_failForward (.refl s) n _
  · exact .refl s

theorem loseForward_node_ne {n m : Node} (h : n ≠ m) : (loseForward s n).node m = s.node m := by
  unfold loseForward
  split
  · exact failForward_node_ne h _
  · rfl

/-- A forward that fails closes its command's data phase (R167). -/
theorem failForward_of_forwards {n : Node} {k : Command} (h : (s.node n).ctx.command = some k) :
    ((failForward n senseNotReady s).node n).ctx.ForwardLost k := by
  unfold failForward
  simp only [h]
  split
  · rename_i hdir
    rw [updCtx_node_self, updCtx_node_self]
    exact ⟨rfl, rfl, (if_pos hdir).symm⟩
  · rename_i hdir
    rw [enterStatus_ctx (k := k) (by rw [updCtx_node_self]; exact h), updCtx_node_self]
    exact ⟨rfl, rfl, (if_neg hdir).symm⟩

/-- No forward is left of a node (R167). -/
theorem loseForward_fwdState (n : Node) : ((loseForward s n).node n).ctx.fwdState = .none := by
  unfold loseForward
  split
  · cases hk : (s.node n).ctx.command with
    | some k => exact (failForward_of_forwards hk).fwdState
    | none => simp [failForward, hk]
  · exact not_not.1 ‹_›

theorem loseForward_keeps {P : Context → Prop} (hP : ∀ x, P x → x.fwdState = .none) {n : Node} (h : P (s.node n).ctx) (m : Node) :
    P ((loseForward s m).node n).ctx := by
  rcases eq_or_ne m n with rfl | hne
  · rw [loseForward, if_neg (not_not.2 (hP _ h))]
    exact h
  · rw [loseForward_node_ne hne]
    exact h

/-! ## Entries -/

theorem entryLost_nodes (hq : Quiet s) (i : Fin 32) : (entryLost s i).nodes = s.nodes := by
  unfold entryLost
  split
  · rfl
  · rw [((loses_endEntry (.refl s) hq i).quiet hq).mediaError]
    exact endEntry_nodes hq i

theorem entryLost_use (hq : Quiet s) (i j : Fin 32) :
    (entryLost s i).cache.writes[j].use = if i = j then none else s.cache.writes[j].use := by
  unfold entryLost
  split
  · rename_i h
    split
    · subst_vars; exact h
    · rfl
  · rw [((loses_endEntry (.refl s) hq i).quiet hq).mediaError]
    exact endEntry_use hq i j

/-- A lost entry counts as a MEDIA_ERROR of its node (R186). -/
theorem entryLost_latches (hq : Quiet s) {i : Fin 32} {w : WriteUse} (hw : s.cache.writes[i].use = some w)
    (hlevel : s.events.recs[(Source.node w.node .mediaError).id].level ≠ 0) :
    0 < (entryLost s i).events.recs[(Source.node w.node .mediaError).id].count := by
  have hloses := loses_endEntry (.refl s) hq i
  have e : entryLost s i = mediaError w.node .writeLost w.lun (endEntry i s) := by simp only [entryLost, hw]
  rw [e, (hloses.quiet hq).mediaError]
  dsimp only
  rw [latched_self]
  · simp [EventRec.latched]
  · rw [hloses.events.level]
    exact hlevel

/-! ## The five stages of the loss -/

/-- The waiting lists are emptied and the reads on them fail. -/
def loseReads (s : State) : State := s.waitingReads.foldl (fun t n => failRead n senseNotReady t) (emptyLists s)

/-- The fetches are lost. -/
def loseFetches (t : State) : State := (allSlots.filter t.occupied).foldl (fun t i => fetchFails i .fetchLost senseNotReady t) t

/-- The write entries are lost. -/
def loseEntries (t : State) : State := allEntries.foldl entryLost t

/-- The commands whose entries were lost fail. -/
def loseWrites (writers : List Node) (t : State) : State := writers.foldl loseWrite t

/-- The forwards are lost. -/
def loseForwards (t : State) : State := allNodes.foldl loseForward t

theorem loseHostWork_eq (s : State) : loseHostWork s =
    loseForwards (loseWrites (allNodes.filter (loseFetches (loseReads s)).ownsEntries) (loseEntries (loseFetches (loseReads s)))) :=
  rfl

theorem quiet_emptyLists (h : s.link.online = .autonomous) : Quiet (emptyLists s) := ⟨h, rfl, rfl⟩

theorem loses_loseReads (h : s.link.online = .autonomous) : Loses (emptyLists s) (loseReads s) :=
  loses_foldl (fun t n ht => loses_failRead (.refl t) ht n _) _ (quiet_emptyLists h)

theorem loses_loseFetches (hq : Quiet s) : Loses s (loseFetches s) :=
  loses_foldl (fun t i ht => loses_fetchFails (.refl t) ht i _ _) _ hq

theorem loses_loseEntries (hq : Quiet s) : Loses s (loseEntries s) :=
  loses_foldl (fun t i ht => loses_entryLost (.refl t) ht i) _ hq

theorem loses_loseWrites (ws : List Node) (hq : Quiet s) : Loses s (loseWrites ws s) :=
  loses_foldl (fun _ n ht => loses_loseWrite ht n) _ hq

theorem loses_loseForwards (hq : Quiet s) : Loses s (loseForwards s) :=
  loses_foldl (fun _ n _ => loses_loseForward n) _ hq

/-- Failing reads leaves the slots and the entries. -/
theorem loseReads_cache (h : s.link.online = .autonomous) :
    (loseReads s).cache.slots = s.cache.slots.map FetchSlot.release ∧ (loseReads s).cache.writes = s.cache.writes := by
  refine (foldl_keeps (P := fun t => Quiet t ∧ t.cache.slots = s.cache.slots.map FetchSlot.release ∧ t.cache.writes = s.cache.writes)
    (fun t n ht => ?_) s.waitingReads (s := emptyLists s) ⟨quiet_emptyLists h, rfl, rfl⟩).2
  obtain ⟨g, -, e⟩ := failRead_cache ht.1 n senseNotReady
  exact ⟨(loses_failRead (.refl t) ht.1 n _).quiet ht.1, by rw [e]; exact ht.2.1, by rw [e]; exact ht.2.2⟩

theorem fetchFails_writes (hq : Quiet s) (i : Fin 16) (c : MediaCause) (x : Sense) :
    (fetchFails i c x s).cache.writes = s.cache.writes := by
  rcases (fetchFails_quiet hq i c x).1 with e | ⟨n, e⟩ <;> rw [e]
  · exact fetchGone_writes hq i c
  · obtain ⟨g, -, e'⟩ := failRead_cache ((loses_fetchGone (.refl s) hq i c).quiet hq) n x
    rw [e']
    exact fetchGone_writes hq i c

theorem fetchFails_use (hq : Quiet s) (i : Fin 16) (c : MediaCause) (x : Sense) : (fetchFails i c x s).cache.slots[i].use = .free := by
  rcases (fetchFails_quiet hq i c x).1 with e | ⟨n, e⟩ <;> rw [e]
  · exact fetchGone_use hq i c
  · exact (loses_failRead (.refl _) ((loses_fetchGone (.refl s) hq i c).quiet hq) n x).slots i (fetchGone_use hq i c)

theorem loseFetches_writes (hq : Quiet s) : (loseFetches s).cache.writes = s.cache.writes :=
  (foldl_keeps (P := fun t => Quiet t ∧ t.cache.writes = s.cache.writes)
    (fun t i ht => ⟨(loses_fetchFails (.refl t) ht.1 i _ _).quiet ht.1, (fetchFails_writes ht.1 i _ _).trans ht.2⟩) _ ⟨hq, rfl⟩).2

/-- A slot that is not occupied is released (R186). -/
theorem release_use {i : Fin 16} (h : ¬s.occupied i = true) : (s.cache.slots[(i : Nat)]).release.use = .free := by
  unfold State.occupied at h
  rw [Fin.getElem_fin] at h
  unfold FetchSlot.release
  cases hu : s.cache.slots[(i : Nat)].use with
  | free => exact hu
  | reserved => rfl
  | offered | sent => simp [hu] at h

/-- A slot is occupied after the reads have failed as it was before (R175). -/
theorem occupied_loseReads (h : s.link.online = .autonomous) (i : Fin 16) : (loseReads s).occupied i = s.occupied i := by
  have hrelease (x : FetchSlot) : x.release.use = (match x.use with | .reserved _ => .free | u => u) := by
    cases hu : x.use <;> simp [FetchSlot.release, hu]
  unfold State.occupied
  rw [(loseReads_cache h).1, Fin.getElem_fin, Fin.getElem_fin, Vector.getElem_map, hrelease]
  cases s.cache.slots[(i : Nat)].use <;> rfl

/-! ## What the stages keep of a context -/

theorem loseReads_keeps {P : Context → Prop} (hP : ReadProof P) (h : s.link.online = .autonomous) {n : Node}
    (hn : P (s.node n).ctx) : P ((loseReads s).node n).ctx :=
  (foldl_keeps (P := fun t => Quiet t ∧ P (t.node n).ctx)
    (fun t m ht => ⟨(loses_failRead (.refl t) ht.1 m _).quiet ht.1, failRead_keeps hP ht.1 ht.2 m _⟩) s.waitingReads
    (s := emptyLists s) ⟨quiet_emptyLists h, hn⟩).2

theorem loseFetches_keeps {P : Context → Prop} (hP : ReadProof P) (hq : Quiet s) {n : Node} (hn : P (s.node n).ctx) :
    P ((loseFetches s).node n).ctx :=
  (foldl_keeps (P := fun t => Quiet t ∧ P (t.node n).ctx)
    (fun t i ht => ⟨(loses_fetchFails (.refl t) ht.1 i _ _).quiet ht.1, fetchFails_keeps hP ht.1 ht.2 i _ _⟩) _ ⟨hq, hn⟩).2

theorem loseEntries_node (hq : Quiet s) (n : Node) : (loseEntries s).node n = s.node n :=
  congrArg (·[n]) (foldl_keeps (P := fun t => Quiet t ∧ t.nodes = s.nodes)
    (fun t i ht => ⟨(loses_entryLost (.refl t) ht.1 i).quiet ht.1, (entryLost_nodes ht.1 i).trans ht.2⟩) allEntries ⟨hq, rfl⟩).2

theorem loseWrites_keeps {P : Context → Prop} (hP : ∀ x, P x → x.running = true → x.phase ≠ .dataOut ∧ x.phase ≠ .awaitHost)
    (ws : List Node) (hq : Quiet s) {n : Node} (hn : P (s.node n).ctx) : P ((loseWrites ws s).node n).ctx :=
  (foldl_keeps (P := fun t => Quiet t ∧ P (t.node n).ctx)
    (fun _ m ht => ⟨(loses_loseWrite ht.1 m).quiet ht.1, loseWrite_keeps hP ht.1 ht.2 m⟩) ws ⟨hq, hn⟩).2

theorem loseForwards_keeps {P : Context → Prop} (hP : ∀ x, P x → x.fwdState = .none) {n : Node} (hn : P (s.node n).ctx) :
    P ((loseForwards s).node n).ctx :=
  foldl_keeps (P := fun t => P (t.node n).ctx) (fun _ m ht => loseForward_keeps hP ht m) allNodes hn

theorem mem_allNodes (n : Node) : n ∈ allNodes := by fin_cases n <;> simp [allNodes]

theorem mem_allSlots (i : Fin 16) : i ∈ allSlots := List.mem_finRange i

theorem mem_allEntries (i : Fin 32) : i ∈ allEntries := List.mem_finRange i

/-! ## What each stage brings about -/

theorem loseFetches_use (h : s.link.online = .autonomous) (i : Fin 16) : (loseFetches (loseReads s)).cache.slots[i].use = .free := by
  have hq := (loses_loseReads h).quiet (quiet_emptyLists h)
  by_cases ho : (loseReads s).occupied i = true
  · refine (foldl_reaches (P := Quiet) (Q := fun t => Quiet t ∧ t.cache.slots[i].use = .free)
      (fun t b ht => .inl ((loses_fetchFails (.refl t) ht b _ _).quiet ht))
      (fun t ht => ⟨(loses_fetchFails (.refl t) ht i _ _).quiet ht, fetchFails_use ht i _ _⟩) (fun t b ht => ?_)
      (List.mem_filter.2 ⟨mem_allSlots i, ho⟩) (.inl hq)).2
    have hb := loses_fetchFails (.refl t) ht.1 b .fetchLost senseNotReady
    exact ⟨hb.quiet ht.1, hb.slots i ht.2⟩
  · have hfree : (loseReads s).cache.slots[i].use = .free := by
      rw [(loseReads_cache h).1, Fin.getElem_fin, Vector.getElem_map]
      rw [occupied_loseReads h] at ho
      exact release_use ho
    exact (loses_loseFetches hq).slots i hfree

theorem loseEntries_use (hq : Quiet s) (i : Fin 32) : (loseEntries s).cache.writes[i].use = none := by
  unfold loseEntries
  refine (foldl_reaches (f := entryLost) (l := allEntries) (P := Quiet) (Q := fun t => Quiet t ∧ t.cache.writes[i].use = none)
    (fun t b ht => .inl ((loses_entryLost (.refl t) ht b).quiet ht))
    (fun t ht => ⟨(loses_entryLost (.refl t) ht i).quiet ht, by rw [entryLost_use ht, if_pos rfl]⟩) (fun t b ht => ?_)
    (mem_allEntries i) (.inl hq)).2
  have hb := loses_entryLost (.refl t) ht.1 b
  exact ⟨hb.quiet ht.1, hb.writes i ht.2⟩

/-- A read on a waiting list is lost (R186). -/
theorem loseReads_waiting (h : s.link.online = .autonomous) {n : Node} {k : Command} (hn : n ∈ s.waitingReads)
    (hr : Reading s n k) (hf : (s.node n).ctx.fwdState = .none) : ((loseReads s).node n).ctx.ReadLost k := by
  have quiet (t : State) (ht : Quiet t) (m : Node) : Quiet (failRead m senseNotReady t) := (loses_failRead (.refl t) ht m _).quiet ht
  refine (foldl_reaches (P := fun t => Quiet t ∧ t.node n = s.node n) (Q := fun t => Quiet t ∧ (t.node n).ctx.ReadLost k)
    (a := n) (fun t b ht => ?_) (fun t ht => ?_) (fun t b ht => ⟨quiet t ht.1 b, failRead_keeps (readProof_readLost k) ht.1 ht.2 b _⟩) hn
    (s := emptyLists s) (.inl ⟨quiet_emptyLists h, rfl⟩)).2
  · rcases eq_or_ne b n with rfl | hne
    · refine .inr ⟨quiet t ht.1 b, failRead_of_reading ht.1 ?_ ?_⟩
      · simpa only [Reading, ht.2] using hr
      · rw [ht.2]; exact hf
    · exact .inl ⟨quiet t ht.1 b, (failRead_node_ne ht.1 hne _).trans ht.2⟩
  · refine ⟨quiet t ht.1 n, failRead_of_reading ht.1 ?_ ?_⟩
    · simpa only [Reading, ht.2] using hr
    · rw [ht.2]; exact hf

/-- A read that waits for a line being fetched is lost, with the waiting reads or with its fetch (R186). -/
theorem loseFetches_reading (h : s.link.online = .autonomous) {n : Node} {k : Command} {i : Fin 16} (hr : ReadsSlot n k i s)
    (ho : s.occupied i = true) : ((loseFetches (loseReads s)).node n).ctx.ReadLost k := by
  have hreads : Quiet (loseReads s) ∧ (ReadsSlot n k i (loseReads s) ∨ ((loseReads s).node n).ctx.ReadLost k) := by
    refine foldl_keeps (P := fun t => Quiet t ∧ (ReadsSlot n k i t ∨ (t.node n).ctx.ReadLost k)) (fun t m ht => ?_) s.waitingReads
      (s := emptyLists s) ⟨quiet_emptyLists h, .inl (hr.of_eq rfl rfl)⟩
    refine ⟨(loses_failRead (.refl t) ht.1 m _).quiet ht.1, ht.2.elim (fun x => x.failRead ht.1) fun x => .inr ?_⟩
    exact failRead_keeps (readProof_readLost k) ht.1 x m _
  have quiet (t : State) (ht : Quiet t) (j : Fin 16) : Quiet (fetchFails j .fetchLost senseNotReady t) :=
    (loses_fetchFails (.refl t) ht j _ _).quiet ht
  refine (foldl_reaches (P := fun t => Quiet t ∧ ReadsSlot n k i t) (Q := fun t => Quiet t ∧ (t.node n).ctx.ReadLost k) (a := i)
    (fun t j ht => ?_) (fun t ht => ?_) (fun t j ht => ⟨quiet t ht.1 j, fetchFails_keeps (readProof_readLost k) ht.1 ht.2 j _ _⟩)
    (List.mem_filter.2 ⟨mem_allSlots i, by rw [occupied_loseReads h, ho]⟩)
    (hreads.2.imp (⟨hreads.1, ·⟩) (⟨hreads.1, ·⟩))).2
  · exact (ht.2.fetchFails ht.1 .fetchLost).imp (⟨quiet t ht.1 j, ·.2⟩) (⟨quiet t ht.1 j, ·⟩)
  · exact (ht.2.fetchFails ht.1 .fetchLost).elim (fun x => absurd rfl x.1) (⟨quiet t ht.1 i, ·⟩)

/-- A fetch that is lost counts as a MEDIA_ERROR (R186). -/
theorem loseFetches_latches (h : s.link.online = .autonomous) {i : Fin 16} {l : Line} (hl : s.slotLine i = some l)
    (hs : l.state = .fetching i) (ho : s.occupied i = true) {n : Node} (hn : l.node = n)
    (hlevel : s.events.recs[(Source.node n .mediaError).id].level ≠ 0) :
    0 < (loseFetches (loseReads s)).events.recs[(Source.node n .mediaError).id].count := by
  let P (t : State) : Prop := (Quiet t ∧ t.events.recs[(Source.node n .mediaError).id].level ≠ 0) ∧
    ∃ l', t.slotLine i = some l' ∧ l'.state = .fetching i ∧ l'.node = n
  have step (t u : State) (hu : Loses t u) (ht : Quiet t ∧ t.events.recs[(Source.node n .mediaError).id].level ≠ 0) :
      Quiet u ∧ u.events.recs[(Source.node n .mediaError).id].level ≠ 0 := ⟨hu.quiet ht.1, by rw [hu.events.level]; exact ht.2⟩
  have read (t : State) (m : Node) (ht : P t) : P (failRead m senseNotReady t) := by
    obtain ⟨l', hl', hs', hn'⟩ := ht.2
    obtain ⟨g, hg, e⟩ := failRead_slotLine ht.1.1 m senseNotReady i
    obtain ⟨⟨p, hp⟩, -⟩ := hg l'
    exact ⟨step _ _ (loses_failRead (.refl t) ht.1.1 m _) ht.1, g l', by rw [e, hl']; rfl, by rw [hp]; exact hs', by rw [hp]; exact hn'⟩
  have hreads : P (loseReads s) :=
    foldl_keeps (P := P) (fun t m ht => read t m ht) s.waitingReads (s := emptyLists s) ⟨⟨quiet_emptyLists h, hlevel⟩, l, hl, hs, hn⟩
  have gone (t : State) (ht : P t) : 0 < (fetchFails i .fetchLost senseNotReady t).events.recs[(Source.node n .mediaError).id].count := by
    obtain ⟨l', hl', hs', hn'⟩ := ht.2
    have hcount := fetchGone_latches ht.1.1 .fetchLost hl' hs' hn' ht.1.2
    rcases (fetchFails_quiet ht.1.1 i .fetchLost senseNotReady).1 with e | ⟨m, e⟩ <;> rw [e]
    · exact hcount
    · exact (loses_failRead (.refl _) ((loses_fetchGone (.refl t) ht.1.1 i _).quiet ht.1.1) m _).events.count _ hcount
  refine (foldl_reaches (P := P) (Q := fun t => Quiet t ∧ 0 < t.events.recs[(Source.node n .mediaError).id].count) (a := i)
    (fun t j ht => ?_) (fun t ht => ⟨(loses_fetchFails (.refl t) ht.1.1 i _ _).quiet ht.1.1, gone t ht⟩) (fun t j ht => ?_)
    (List.mem_filter.2 ⟨mem_allSlots i, by rw [occupied_loseReads h, ho]⟩) (.inl hreads)).2
  · rcases eq_or_ne i j with rfl | hne
    · exact .inr ⟨(loses_fetchFails (.refl t) ht.1.1 i _ _).quiet ht.1.1, gone t ht⟩
    · have hgone : P (fetchGone j .fetchLost t) := by
        refine ⟨step _ _ (loses_fetchGone (.refl t) ht.1.1 j _) ht.1, ?_⟩
        rw [fetchGone_slotLine ht.1.1 hne]
        exact ht.2
      rcases (fetchFails_quiet ht.1.1 j .fetchLost senseNotReady).1 with e | ⟨m, e⟩ <;> rw [e]
      · exact .inl hgone
      · exact .inl (read _ m hgone)
  · have hloses := loses_fetchFails (.refl t) ht.1 j .fetchLost senseNotReady
    exact ⟨hloses.quiet ht.1, hloses.events.count _ ht.2⟩

/-- An entry that is lost counts as a MEDIA_ERROR (R186). -/
theorem loseEntries_latches (hq : Quiet s) {i : Fin 32} {w : WriteUse} (hw : s.cache.writes[i].use = some w)
    (hlevel : s.events.recs[(Source.node w.node .mediaError).id].level ≠ 0) :
    0 < (loseEntries s).events.recs[(Source.node w.node .mediaError).id].count := by
  unfold loseEntries
  refine (foldl_reaches (f := entryLost) (l := allEntries)
    (P := fun t => Quiet t ∧ t.cache.writes[i].use = some w ∧ t.events.recs[(Source.node w.node .mediaError).id].level ≠ 0)
    (Q := fun t => Quiet t ∧ 0 < t.events.recs[(Source.node w.node .mediaError).id].count) (a := i)
    (fun t j ht => ?_) (fun t ht => ?_) (fun t j ht => ?_) (mem_allEntries i) (.inl ⟨hq, hw, hlevel⟩)).2
  · have hloses := loses_entryLost (.refl t) ht.1 j
    rcases eq_or_ne j i with rfl | hne
    · exact .inr ⟨hloses.quiet ht.1, entryLost_latches ht.1 ht.2.1 ht.2.2⟩
    · exact .inl ⟨hloses.quiet ht.1, by rw [entryLost_use ht.1, if_neg hne]; exact ht.2.1, by rw [hloses.events.level]; exact ht.2.2⟩
  · exact ⟨(loses_entryLost (.refl t) ht.1 i).quiet ht.1, entryLost_latches ht.1 ht.2.1 ht.2.2⟩
  · have hloses := loses_entryLost (.refl t) ht.1 j
    exact ⟨hloses.quiet ht.1, hloses.events.count _ ht.2⟩

/-- A WRITE(10) that waits for the host and owned an entry is lost (R186). -/
theorem loseWrites_awaits {ws : List Node} (hq : Quiet s) (hnone : ∀ i : Fin 32, s.cache.writes[i].use = none) {n : Node}
    (hn : n ∈ ws) (h : (s.node n).ctx.AwaitsWrites) : ((loseWrites ws s).node n).ctx.WriteLost := by
  have hstep (t : State) (m : Node) (ht : Quiet t ∧ ∀ i : Fin 32, t.cache.writes[i].use = none) :
      Quiet (loseWrite t m) ∧ ∀ i : Fin 32, (loseWrite t m).cache.writes[i].use = none :=
    ⟨(loses_loseWrite ht.1 m).quiet ht.1, fun i => (loses_loseWrite ht.1 m).writes i (ht.2 i)⟩
  refine (foldl_reaches
    (P := fun t => (Quiet t ∧ ∀ i : Fin 32, t.cache.writes[i].use = none) ∧ (t.node n).ctx.AwaitsWrites)
    (Q := fun t => (Quiet t ∧ ∀ i : Fin 32, t.cache.writes[i].use = none) ∧ (t.node n).ctx.WriteLost) (a := n)
    (fun t m ht => ?_) (fun t ht => ⟨hstep t n ht.1, loseWrite_of_awaits ht.1.1 ht.1.2 ht.2⟩) (fun t m ht => ⟨hstep t m ht.1, ?_⟩)
    hn (.inl ⟨⟨hq, hnone⟩, h⟩)).2
  · rcases eq_or_ne m n with rfl | hne
    · exact .inr ⟨hstep t m ht.1, loseWrite_of_awaits ht.1.1 ht.1.2 ht.2⟩
    · exact .inl ⟨hstep t m ht.1, by rw [loseWrite_node_ne ht.1.1 hne]; exact ht.2⟩
  · exact loseWrite_keeps (P := Context.WriteLost) (fun x hx _ => by simp [hx.phase]) ht.1.1 ht.2 m

/-- A forward in progress is lost (R167). -/
theorem loseForwards_forwards {n : Node} {k : Command} (h : (s.node n).ctx.Forwards k) :
    ((loseForwards s).node n).ctx.ForwardLost k := by
  have lost (t : State) (ht : (t.node n).ctx.Forwards k) : ((loseForward t n).node n).ctx.ForwardLost k := by
    rw [loseForward, if_pos ht.fwdState]
    exact failForward_of_forwards ht.command
  refine foldl_reaches (P := fun t => (t.node n).ctx.Forwards k) (Q := fun t => (t.node n).ctx.ForwardLost k) (fun t m ht => ?_)
    (fun t ht => lost t ht) (fun t m ht => loseForward_keeps (fun _ x => x.fwdState) ht m) (mem_allNodes n) (.inl h)
  rcases eq_or_ne m n with rfl | hne
  · exact .inr (lost t ht)
  · exact .inl (by rw [loseForward_node_ne hne]; exact ht)

/-- No forward is left (R167). -/
theorem loseForwards_fwdState (n : Node) : ((loseForwards s).node n).ctx.fwdState = .none := by
  unfold loseForwards
  exact foldl_reaches (f := loseForward) (l := allNodes) (P := fun _ => True) (Q := fun t => (t.node n).ctx.fwdState = .none)
    (fun _ _ _ => .inl trivial) (fun _ _ => loseForward_fwdState n) (fun _ m ht => loseForward_keeps (P := fun x => x.fwdState = .none) (fun _ => id) ht m)
    (mem_allNodes n) (.inl trivial)

end Sys2Proof.Machine

/-! # The silence timer expires -/

namespace Sys2Proof.Machine

open Sys2Proof

/-! ## Cursors over removed notices -/

/-- A history whose cursor is set back over the CON_DATA notices removed from the queue (R56). -/
def History.setBack (q : List Frame) (n : Node) (h : History) : History :=
  match firstRemoved q n with
  | none => h
  | some first =>
    if h.cursor = first ∨ 2 ^ 31 ≤ (h.cursor - first).toNat then h
    else match h.classify first with
      | .inHistory => { h with cursor := first }
      | .before => { h with cursor := h.oldest }
      | .atOrAfter => h

/-- How many of the records to which the cursor goes back are gone, where STREAM_GAP reports it (R56). -/
def History.gone (q : List Frame) (n : Node) (h : History) : Option Nat :=
  match firstRemoved q n with
  | none => none
  | some first =>
    if h.cursor = first ∨ 2 ^ 31 ≤ (h.cursor - first).toNat then none
    else match h.classify first with
      | .inHistory => none
      | .before => if h.streaming then some (min 65535 (h.oldest - first).toNat) else none
      | .atOrAfter => none

/-- The event table after a node's cursor is set back (R56). -/
def State.gapLatched (q : List Frame) (s : State) (n : Node) : EventTable :=
  ((s.node n).hist.gone q n).elim s.events fun d => s.events.latched s.link.threshold s.timebase (.node n .streamGap) d

/-- A change of a node's history is what it makes of the history there is. -/
theorem updHist_congr {s : State} {n : Node} {f g : History → History} (h : f (s.node n).hist = g (s.node n).hist) :
    s.updHist n f = s.updHist n g :=
  congrArg (fun x => s.updNode n fun c => { c with hist := x }) h

theorem updHist_id (s : State) (n : Node) : (s.updHist n fun h => h) = s := by
  change { s with nodes := s.nodes.set n s.nodes[n] } = s
  rw [Fin.getElem_fin, Vector.set_getElem_self]

/-- While AUTONOMOUS a cursor that is set back changes its history and the event table alone. -/
theorem setBackCursor_away {s : State} (h : s.link.online = .autonomous) (q : List Frame) (n : Node) :
    setBackCursor q s n = { s.updHist n (History.setBack q n) with events := s.gapLatched q n } := by
  have same (hback : (s.node n).hist.setBack q n = (s.node n).hist) (hgone : (s.node n).hist.gone q n = none) :
      s = { s.updHist n (History.setBack q n) with events := s.gapLatched q n } := by
    rw [updHist_congr (g := fun h => h) hback, updHist_id, State.gapLatched, hgone]
    rfl
  have set (g : History → History) (hback : (s.node n).hist.setBack q n = g (s.node n).hist) (hgone : (s.node n).hist.gone q n = none) :
      s.updHist n g = { s.updHist n (History.setBack q n) with events := s.gapLatched q n } := by
    rw [updHist_congr hback, State.gapLatched, hgone]
    rfl
  cases hf : firstRemoved q n with
  | none =>
    simp only [setBackCursor, hf]
    exact same (by simp only [History.setBack, hf]) (by simp only [History.gone, hf])
  | some first =>
    by_cases hc : (s.node n).hist.cursor = first ∨ 2 ^ 31 ≤ ((s.node n).hist.cursor - first).toNat
    · simp only [setBackCursor, hf, if_pos hc]
      exact same (by simp only [History.setBack, hf, if_pos hc]) (by simp only [History.gone, hf, if_pos hc])
    · cases hk : (s.node n).hist.classify first with
      | inHistory =>
        simp only [setBackCursor, hf, if_neg hc, hk]
        exact set _ (by simp only [History.setBack, hf, if_neg hc, hk]) (by simp only [History.gone, hf, if_neg hc, hk])
      | atOrAfter =>
        simp only [setBackCursor, hf, if_neg hc, hk]
        exact same (by simp only [History.setBack, hf, if_neg hc, hk]) (by simp only [History.gone, hf, if_neg hc, hk])
      | before =>
        have hback : (s.node n).hist.setBack q n = { (s.node n).hist with cursor := (s.node n).hist.oldest } := by
          simp only [History.setBack, hf, if_neg hc, hk]
        simp only [setBackCursor, hf, if_neg hc, hk]
        by_cases hs : (s.node n).hist.streaming = true
        · have hgone : (s.node n).hist.gone q n = some (min 65535 ((s.node n).hist.oldest - first).toNat) := by
            simp only [History.gone, hf, if_neg hc, hk, if_pos hs]
          rw [if_pos hs, latch_away (by exact h), updHist_congr (g := fun h => { h with cursor := h.oldest }) hback, State.gapLatched, hgone]
          rfl
        · rw [if_neg hs]
          exact set _ hback (by simp only [History.gone, hf, if_neg hc, hk, if_neg hs])

/-- The sources STREAM_GAP of the four nodes. -/
def IsStreamGap (i : Fin 52) : Prop := ∃ n, i = (Source.node n .streamGap).id

/-- What the cursors that are set back leave of the part. -/
structure Rewinds (s t : State) : Prop where
  still : t.still = s.still
  link : t.link = s.link
  cache : t.cache = s.cache
  pool : t.pool = s.pool
  node : ∀ n, ∃ h, t.node n = { s.node n with hist := h }
  events : s.events.Grows IsStreamGap t.events

theorem Rewinds.refl (s : State) : Rewinds s s := ⟨rfl, rfl, rfl, rfl, fun n => ⟨(s.node n).hist, rfl⟩, .refl _ _⟩

theorem Rewinds.trans {s t u : State} (h : Rewinds s t) (k : Rewinds t u) : Rewinds s u where
  still := k.still.trans h.still
  link := k.link.trans h.link
  cache := k.cache.trans h.cache
  pool := k.pool.trans h.pool
  node n := by
    obtain ⟨x, hx⟩ := h.node n
    obtain ⟨y, hy⟩ := k.node n
    exact ⟨y, by rw [hy, hx]⟩
  events := h.events.trans k.events

theorem setBack_still (q : List Frame) (n : Node) (h : History) : (h.setBack q n).still = h.still := by
  unfold History.setBack
  repeat' split
  all_goals rfl

theorem grows_gapLatched (q : List Frame) (s : State) (n : Node) :
    s.events.Grows (· = (Source.node n .streamGap).id) (s.gapLatched q n) := by
  unfold State.gapLatched
  cases (s.node n).hist.gone q n with
  | none => exact .refl _ _
  | some d => exact grows_latched ..

section

variable {s : State} (h : s.link.online = .autonomous) (q : List Frame) {n : Node}
include h

theorem rewinds_setBackCursor : Rewinds s (setBackCursor q s n) := by
  have hg := grows_gapLatched q s n
  rw [setBackCursor_away h]
  refine ⟨(still_updHist s n _ (setBack_still q n)), rfl, rfl, rfl, fun m => ?_,
    ⟨hg.owed, hg.level, hg.count, fun i hi => hg.others i fun e => hi ⟨n, e⟩⟩⟩
  rcases eq_or_ne n m with rfl | hne
  · exact ⟨_, updHist_node_self ..⟩
  · exact ⟨(s.node m).hist, (updHist_node s n m _).trans (if_neg hne)⟩

theorem setBackCursor_hist : ((setBackCursor q s n).node n).hist = (s.node n).hist.setBack q n := by
  rw [setBackCursor_away h]
  exact congrArg NodeState.hist (updHist_node_self ..)

theorem setBackCursor_hist_ne {m : Node} (hne : n ≠ m) : ((setBackCursor q s n).node m).hist = (s.node m).hist := by
  rw [setBackCursor_away h]
  exact congrArg NodeState.hist ((updHist_node ..).trans (if_neg hne))

theorem setBackCursor_recs_ne {m : Node} (hne : n ≠ m) :
    (setBackCursor q s n).events.recs[(Source.node m .streamGap).id] = s.events.recs[(Source.node m .streamGap).id] := by
  rw [setBackCursor_away h]
  refine (grows_gapLatched q s n).others _ fun e => hne (Fin.ext ?_)
  have hid : 12 * (m : Nat) + 3 = 12 * n + 3 := congrArg Fin.val e
  omega

theorem setBackCursor_detail {d : Nat} (hd : (s.node n).hist.gone q n = some d)
    (hl : s.events.recs[(Source.node n .streamGap).id].level ≠ 0) :
    (setBackCursor q s n).events.recs[(Source.node n .streamGap).id].lastDetail = d := by
  rw [setBackCursor_away h]
  dsimp only
  rw [State.gapLatched, hd, Option.elim_some, latched_self _ _ _ hl]
  rfl

end

/-! ## The cursors of all the nodes -/

/-- The cursors are set back. -/
def setBackCursors (q : List Frame) (s : State) : State := allNodes.foldl (setBackCursor q) s

section

variable {s : State} (h : s.link.online = .autonomous) (q : List Frame)
include h

theorem rewinds_setBackCursors : Rewinds s (setBackCursors q s) :=
  foldl_keeps (f := setBackCursor q) (P := Rewinds s) (fun t n ht => ht.trans (rewinds_setBackCursor (by rw [ht.link]; exact h) q))
    allNodes (.refl s)

theorem setBackCursors_hist (n : Node) : ((setBackCursors q s).node n).hist = (s.node n).hist.setBack q n := by
  unfold setBackCursors
  refine (foldl_once (f := setBackCursor q) (l := allNodes) (a := n)
    (P := fun t => t.link.online = .autonomous ∧ (t.node n).hist = (s.node n).hist)
    (Q := fun t => t.link.online = .autonomous ∧ (t.node n).hist = (s.node n).hist.setBack q n)
    (fun t b hb ht => ⟨?_, (setBackCursor_hist_ne ht.1 q hb).trans ht.2⟩) (fun t ht => ⟨?_, by rw [setBackCursor_hist ht.1, ht.2]⟩)
    (fun t b hb ht => ⟨?_, (setBackCursor_hist_ne ht.1 q hb).trans ht.2⟩) (mem_allNodes n) (by decide) ⟨h, rfl⟩).2 <;>
  rw [(rewinds_setBackCursor ht.1 q).link] <;> exact ht.1

theorem setBackCursors_detail {n : Node} {d : Nat} (hd : (s.node n).hist.gone q n = some d)
    (hl : s.events.recs[(Source.node n .streamGap).id].level ≠ 0) :
    (setBackCursors q s).events.recs[(Source.node n .streamGap).id].lastDetail = d := by
  unfold setBackCursors
  refine (foldl_once (f := setBackCursor q) (l := allNodes) (a := n)
    (P := fun t => t.link.online = .autonomous ∧ (t.node n).hist = (s.node n).hist ∧
      t.events.recs[(Source.node n .streamGap).id].level ≠ 0)
    (Q := fun t => t.link.online = .autonomous ∧ t.events.recs[(Source.node n .streamGap).id].lastDetail = d)
    (fun t b hb ht => ⟨?_, (setBackCursor_hist_ne ht.1 q hb).trans ht.2.1, ?_⟩)
    (fun t ht => ⟨?_, setBackCursor_detail ht.1 q (by rw [ht.2.1]; exact hd) ht.2.2⟩)
    (fun t b hb ht => ⟨?_, by rw [setBackCursor_recs_ne ht.1 q hb]; exact ht.2⟩) (mem_allNodes n) (by decide) ⟨h, rfl, hl⟩).2
  · rw [(rewinds_setBackCursor ht.1 q).link]; exact ht.1
  · rw [setBackCursor_recs_ne ht.1 q hb]; exact ht.2.2
  · rw [(rewinds_setBackCursor ht.1 q).link]; exact ht.1
  · rw [(rewinds_setBackCursor ht.1 q).link]; exact ht.1

end

end Sys2Proof.Machine

/-! ## The host's work, from its loss to the end of the stages -/

namespace Sys2Proof.Machine

open Sys2Proof

section

variable {s : State} (h : s.link.online = .autonomous)
include h

/-- The state in which the reads have failed has nothing that waits. -/
theorem quiet_loseReads : Quiet (loseReads s) := (loses_loseReads h).quiet (quiet_emptyLists h)

theorem quiet_loseFetches : Quiet (loseFetches (loseReads s)) := (loses_loseFetches (quiet_loseReads h)).quiet (quiet_loseReads h)

theorem quiet_loseEntries : Quiet (loseEntries (loseFetches (loseReads s))) :=
  (loses_loseEntries (quiet_loseFetches h)).quiet (quiet_loseFetches h)

theorem quiet_loseWrites (ws : List Node) : Quiet (loseWrites ws (loseEntries (loseFetches (loseReads s)))) :=
  (loses_loseWrites ws (quiet_loseEntries h)).quiet (quiet_loseEntries h)

/-- What the last two stages leave of the part. -/
theorem loses_loseEntries_loseHostWork : Loses (loseEntries (loseFetches (loseReads s))) (loseHostWork s) :=
  (loses_loseWrites _ (quiet_loseEntries h)).trans (loses_loseForwards (quiet_loseWrites h _))

/-- What the stages after the fetches leave of the part. -/
theorem loses_loseFetches_loseHostWork : Loses (loseFetches (loseReads s)) (loseHostWork s) :=
  (loses_loseEntries (quiet_loseFetches h)).trans (loses_loseEntries_loseHostWork h)

/-- What the loss of the host's work leaves of the part (R16, R167, R186). -/
theorem loses_loseHostWork : Loses (emptyLists s) (loseHostWork s) :=
  ((loses_loseReads h).trans (loses_loseFetches (quiet_loseReads h))).trans (loses_loseFetches_loseHostWork h)

theorem loseHostWork_slots (i : Fin 16) : (loseHostWork s).cache.slots[i].use = .free :=
  (loses_loseFetches_loseHostWork h).slots i (loseFetches_use h i)

theorem loseHostWork_writes (i : Fin 32) : (loseHostWork s).cache.writes[i].use = none :=
  (loses_loseEntries_loseHostWork h).writes i (loseEntries_use (quiet_loseFetches h) i)

theorem loseHostWork_readLost {n : Node} {k : Command} (hr : ((loseFetches (loseReads s)).node n).ctx.ReadLost k) :
    ((loseHostWork s).node n).ctx.ReadLost k := by
  have hentries : ((loseEntries (loseFetches (loseReads s))).node n).ctx.ReadLost k := by
    rw [loseEntries_node (quiet_loseFetches h)]
    exact hr
  have hwrites := loseWrites_keeps (P := Context.ReadLost k) (fun x hx _ => by rcases hx.phase with e | e <;> simp [e])
    (allNodes.filter (loseFetches (loseReads s)).ownsEntries) (quiet_loseEntries h) hentries
  exact loseForwards_keeps (P := Context.ReadLost k) (fun x hx => hx.fwdState) hwrites

/-- A read on a waiting list is lost, and stays so (R186). -/
theorem loseHostWork_waiting {n : Node} {k : Command} (hn : n ∈ s.waitingReads) (hr : Reading s n k)
    (hf : (s.node n).ctx.fwdState = .none) : ((loseHostWork s).node n).ctx.ReadLost k :=
  loseHostWork_readLost h (loseFetches_keeps (readProof_readLost k) (quiet_loseReads h) (loseReads_waiting h hn hr hf))

/-- A read that waits for a line being fetched is lost, and stays so (R186). -/
theorem loseHostWork_reading {n : Node} {k : Command} {i : Fin 16} (hr : ReadsSlot n k i s) (ho : s.occupied i = true) :
    ((loseHostWork s).node n).ctx.ReadLost k :=
  loseHostWork_readLost h (loseFetches_reading h hr ho)

/-- A WRITE(10) in AWAIT_HOST with an entry is lost (R161, R186). -/
theorem loseHostWork_awaits {n : Node} (ha : (s.node n).ctx.AwaitsWrites) (ho : s.ownsEntries n = true) :
    ((loseHostWork s).node n).ctx.WriteLost := by
  have hfetches := loseFetches_keeps readProof_awaitsWrites (quiet_loseReads h) (loseReads_keeps readProof_awaitsWrites h ha)
  have hentries : ((loseEntries (loseFetches (loseReads s))).node n).ctx.AwaitsWrites := by
    rw [loseEntries_node (quiet_loseFetches h)]
    exact hfetches
  have howns : (loseFetches (loseReads s)).ownsEntries n = true := by
    rw [State.ownsEntries, State.ownedEntries, loseFetches_writes (quiet_loseReads h), (loseReads_cache h).2]
    exact ho
  have hwrites := loseWrites_awaits (quiet_loseEntries h) (loseEntries_use (quiet_loseFetches h))
    (List.mem_filter.2 ⟨mem_allNodes n, howns⟩) hentries
  exact loseForwards_keeps (P := Context.WriteLost) (fun x hx => hx.fwdState) hwrites

/-- A forward in progress is lost (R167). -/
theorem loseHostWork_forwards {n : Node} {k : Command} (hf : (s.node n).ctx.Forwards k) :
    ((loseHostWork s).node n).ctx.ForwardLost k := by
  have hfetches := loseFetches_keeps (readProof_forwards k) (quiet_loseReads h) (loseReads_keeps (readProof_forwards k) h hf)
  have hentries : ((loseEntries (loseFetches (loseReads s))).node n).ctx.Forwards k := by
    rw [loseEntries_node (quiet_loseFetches h)]
    exact hfetches
  have hwrites := loseWrites_keeps (P := Context.Forwards k) (fun x hx hr => absurd hr (by simp [hx.running]))
    (allNodes.filter (loseFetches (loseReads s)).ownsEntries) (quiet_loseEntries h) hentries
  exact loseForwards_forwards hwrites

/-- A lost fetch or entry leaves MEDIA_ERROR latched (R186). -/
theorem loseHostWork_latches {n : Node} (hlevel : s.events.recs[(Source.node n .mediaError).id].level ≠ 0)
    (hlost : (∃ i : Fin 32, ∃ w ∈ s.cache.writes[i].use, w.node = n) ∨
      ∃ i : Fin 16, ∃ l ∈ s.slotLine i, s.occupied i = true ∧ l.state = .fetching i ∧ l.node = n) :
    0 < (loseHostWork s).events.recs[(Source.node n .mediaError).id].count := by
  rcases hlost with ⟨i, w, hw, rfl⟩ | ⟨i, l, hl, ho, hs, hn⟩
  · refine (loses_loseEntries_loseHostWork h).events.count _ (loseEntries_latches (quiet_loseFetches h) (i := i) ?_ ?_)
    · rw [loseFetches_writes (quiet_loseReads h), (loseReads_cache h).2]
      exact hw
    · rw [((loses_loseReads h).trans (loses_loseFetches (quiet_loseReads h))).events.level]
      exact hlevel
  · exact (loses_loseFetches_loseHostWork h).events.count _ (loseFetches_latches h hl hs ho hn hlevel)

end

/-! ## The entry into AUTONOMOUS as a whole -/

/-- The link at the entry into AUTONOMOUS, before its work is lost (R16). -/
def away (s : State) : State :=
  { s.updLink fun l => { l with online := .autonomous, queue := [], shifting := false, autonomousMs := 0 } with
    events := { s.events with owed := s.events.owed || s.link.queue.any fun f => f.kind == 0xE5 } }

theorem silenceExpires_eq (s : State) : silenceExpires s = loseHostWork (setBackCursors s.link.queue (away s)) := rfl

theorem exec_silenceTimerExpiry {s : State} (hporst : s.porst = false) (hdue : s.isDue .silence = true) :
    exec .silenceTimerExpiry s = .next (silenceExpires { s with due := s.due.erase .silence }) := by
  change live (fire .silence) s = _
  rw [live, if_neg (by simp [hporst]), fire, if_pos hdue, onExpiry]

/-- The state with its cursors set back is AUTONOMOUS. -/
theorem online_setBackCursors_away (s : State) : (setBackCursors s.link.queue (away s)).link.online = .autonomous := by
  rw [(rewinds_setBackCursors (s := away s) rfl _).link]
  rfl

theorem silenceExpires_queue (s : State) : (silenceExpires s).link.queue = [] := by
  rw [silenceExpires_eq, (loses_loseHostWork (online_setBackCursors_away s)).queue]
  exact congrArg Link.queue (rewinds_setBackCursors (s := away s) rfl _).link

/-- The loss of the host's work leaves what `State.still` keeps (R16). -/
theorem silenceExpires_still (s : State) : (silenceExpires s).still = (away s).still := by
  rw [silenceExpires_eq, (loses_loseHostWork (online_setBackCursors_away s)).still]
  exact (rewinds_setBackCursors (s := away s) rfl _).still

end Sys2Proof.Machine

/-! # The obligations of the silence timer and of ATTN -/

namespace Sys2Proof.Machine

open Sys2Proof

/-- A cursor that is not behind what was removed stays (R56). -/
theorem setBack_of_not_behind {q : List Frame} {n : Node} {h : History} {first : Word32} (hf : firstRemoved q n = some first)
    (hb : ¬(first ≠ h.cursor ∧ (h.cursor - first).toNat < 2 ^ 31)) : h.setBack q n = h := by
  have hc : h.cursor = first ∨ 2 ^ 31 ≤ (h.cursor - first).toNat := by
    rcases not_and_or.1 hb with e | e
    · exact .inl (not_not.1 e).symm
    · exact .inr (not_lt.1 e)
  simp only [History.setBack, hf, if_pos hc]

/-- A cursor goes back to the first removed record that is in history (R56). -/
theorem setBack_of_inside {q : List Frame} {n : Node} {h : History} {first : Word32} (hf : firstRemoved q n = some first)
    (hb : first ≠ h.cursor ∧ (h.cursor - first).toNat < 2 ^ 31) (hin : (first - h.oldest).toNat < (h.next - h.oldest).toNat) :
    h.setBack q n = { h with cursor := first } := by
  have hc : ¬(h.cursor = first ∨ 2 ^ 31 ≤ (h.cursor - first).toNat) := not_or.2 ⟨hb.1.symm, not_le.2 hb.2⟩
  have hk : h.classify first = .inHistory := if_pos hin
  simp only [History.setBack, hf, if_neg hc, hk]

/-- A cursor goes back to the oldest record where the removed ones are gone, and a stream reports how many (R56). -/
theorem setBack_of_gone {q : List Frame} {n : Node} {h : History} {first : Word32} (hf : firstRemoved q n = some first)
    (hb : first ≠ h.cursor ∧ (h.cursor - first).toNat < 2 ^ 31) (hout : ¬(first - h.oldest).toNat < (h.next - h.oldest).toNat)
    (hbefore : 2 ^ 31 ≤ (first - h.next).toNat) :
    h.setBack q n = { h with cursor := h.oldest } ∧
      (h.streaming = true → h.gone q n = some (min 65535 (h.oldest - first).toNat)) := by
  have hc : ¬(h.cursor = first ∨ 2 ^ 31 ≤ (h.cursor - first).toNat) := not_or.2 ⟨hb.1.symm, not_le.2 hb.2⟩
  have hk : h.classify first = .before := by rw [History.classify, if_neg (by exact hout), if_neg (not_lt.2 hbefore)]
  refine ⟨by simp only [History.setBack, hf, if_neg hc, hk], fun hs => ?_⟩
  simp only [History.gone, hf, if_neg hc, hk, if_pos hs]

/-- What two states agree on that have the same `still`: the link's mode and time away, the texts, the plans, the arbiter, and of
each node the receiver, the transmitter, the lines and the executor. -/
structure Undisturbed (s t : State) : Prop where
  online : t.link.online = s.link.online
  shifting : t.link.shifting = s.link.shifting
  autonomousMs : t.link.autonomousMs = s.link.autonomousMs
  arbiter : t.arbiter = s.arbiter
  texts : t.texts = s.texts
  plans : t.plans = s.plans
  rx : ∀ n, (t.node n).rx = (s.node n).rx
  tx : ∀ n, (t.node n).tx = (s.node n).tx
  lines : ∀ n, (t.node n).lines = (s.node n).lines
  exec : ∀ n, (t.node n).exec = (s.node n).exec

theorem undisturbed_of_still {s t : State} (h : t.still = s.still) : Undisturbed s t := by
  have hnode (n : Node) : (t.node n).still = (s.node n).still := by
    have e := congrArg (fun x : State => x.nodes[n]) h
    simp only [State.still, Fin.getElem_fin, Vector.getElem_map] at e
    exact e
  exact ⟨congrArg (·.link.online) h, congrArg (·.link.shifting) h, congrArg (·.link.autonomousMs) h, congrArg (·.arbiter) h,
    congrArg (·.texts) h, congrArg (·.plans) h, fun n => congrArg (·.rx) (hnode n), fun n => congrArg (·.tx) (hnode n),
    fun n => congrArg (·.lines) (hnode n), fun n => congrArg (·.exec) (hnode n)⟩

/-- Of the state that goes AUTONOMOUS only the cursors and the event table change before its work is lost. -/
theorem rewound_away (s : State) : Rewinds (away s) (setBackCursors s.link.queue (away s)) := rewinds_setBackCursors rfl _

theorem loses_silenceExpires (s : State) : Loses (emptyLists (setBackCursors s.link.queue (away s))) (silenceExpires s) := by
  rw [silenceExpires_eq]
  exact loses_loseHostWork (online_setBackCursors_away s)

/-- A summary that was owed or stood in the queue is owed (R194). -/
theorem silenceExpires_owed {s : State} (h : s.events.owed = true ∨ ∃ f ∈ s.link.queue, f.kind = 0xE5) :
    (silenceExpires s).events.owed = true := by
  refine (loses_silenceExpires s).events.owed ((rewound_away s).events.owed ?_)
  rcases h with h | ⟨f, hf, hk⟩
  · simp [away, h]
  · simp only [away, Bool.or_eq_true, List.any_eq_true, beq_iff_eq]
    exact .inr ⟨f, hf, hk⟩

theorem silenceExpires_hist (s : State) (n : Node) :
    ((silenceExpires s).node n).hist = (s.node n).hist.setBack s.link.queue n :=
  ((loses_silenceExpires s).hist n).trans (setBackCursors_hist (s := away s) rfl _ n)

/-- STREAM_GAP keeps its detail while work is lost: no loss of work latches it. -/
theorem silenceExpires_detail {s : State} {n : Node} {d : Nat} (hd : (s.node n).hist.gone s.link.queue n = some d)
    (hl : s.events.recs[(Source.node n .streamGap).id].level ≠ 0) :
    (silenceExpires s).events.recs[(Source.node n .streamGap).id].lastDetail = d := by
  have hother : ¬IsMediaError (Source.node n .streamGap).id := by
    rintro ⟨m, e⟩
    have hid : 12 * (n : Nat) + 3 = 12 * m + 11 := congrArg Fin.val e
    omega
  rw [(loses_silenceExpires s).events.others _ hother]
  exact setBackCursors_detail (s := away s) rfl _ hd hl

/-- What the entry into AUTONOMOUS makes of a cursor (R56). -/
theorem silenceExpires_cursor (s : State) (n : Node) :
    let h := (s.node n).hist
    let sent := s.link.queue.find? fun f => f.kind == 0xE1 && u8 f.payload 0 == n
    (sent = none → ((silenceExpires s).node n).hist = h) ∧
    ∀ f, sent = some f →
      let first := w32 f.payload 1
      let behind := first ≠ h.cursor ∧ (h.cursor - first).toNat < 2 ^ 31
      let inside := (first - h.oldest).toNat < (h.next - h.oldest).toNat
      (¬behind → ((silenceExpires s).node n).hist = h) ∧
      (behind → inside → ((silenceExpires s).node n).hist = { h with cursor := first }) ∧
      (behind → ¬inside → 2 ^ 31 ≤ (first - h.next).toNat → ((silenceExpires s).node n).hist = { h with cursor := h.oldest } ∧
        (h.streaming = true → s.events.recs[(Source.node n .streamGap).id].level ≠ 0 →
          (silenceExpires s).events.recs[(Source.node n .streamGap).id].lastDetail = min 65535 (h.oldest - first).toNat)) := by
  intro h sent
  rw [silenceExpires_hist]
  refine ⟨fun hnone => ?_, fun f hsome => ?_⟩
  · have hf : firstRemoved s.link.queue n = none := congrArg (Option.map fun f : Frame => w32 f.payload 1) hnone
    simp only [History.setBack, hf]
    rfl
  · have hf : firstRemoved s.link.queue n = some (w32 f.payload 1) := congrArg (Option.map fun f : Frame => w32 f.payload 1) hsome
    refine ⟨setBack_of_not_behind hf, setBack_of_inside hf, fun hb hout hbefore => ?_⟩
    obtain ⟨hback, hgone⟩ := setBack_of_gone hf hb hout hbefore
    exact ⟨hback, fun hs hl => silenceExpires_detail (hgone hs) hl⟩

/-! ## A node's command at the entry into AUTONOMOUS -/

/-- The cursors are no part of what a read is. -/
theorem reading_rewound {s : State} {n : Node} {k : Command} (h : Reading s n k) :
    Reading (setBackCursors s.link.queue (away s)) n k := by
  obtain ⟨x, hx⟩ := (rewound_away s).node n
  rw [Reading, hx]
  exact h

theorem ctx_rewound (s : State) (n : Node) : ((setBackCursors s.link.queue (away s)).node n).ctx = (s.node n).ctx := by
  obtain ⟨x, hx⟩ := (rewound_away s).node n
  rw [hx]
  rfl

theorem cache_rewound (s : State) : (setBackCursors s.link.queue (away s)).cache = s.cache := (rewound_away s).cache

theorem slotLine_rewound (s : State) (i : Fin 16) : (setBackCursors s.link.queue (away s)).slotLine i = s.slotLine i := by
  rw [State.slotLine, cache_rewound]
  rfl

theorem occupied_rewound (s : State) (i : Fin 16) : (setBackCursors s.link.queue (away s)).occupied i = s.occupied i := by
  simp only [State.occupied, cache_rewound]

/-- VALID lines stay (R186). -/
theorem silenceExpires_valid (s : State) : (silenceExpires s).cache.validLines = s.cache.validLines := by
  have hempty : (emptyLists (setBackCursors s.link.queue (away s))).cache.validLines = s.cache.validLines := by
    rw [emptyLists_cache, cache_rewound]
    rfl
  exact (loses_silenceExpires s).valid.trans hempty

theorem silenceExpires_slots (s : State) (i : Fin 16) : (silenceExpires s).cache.slots[i].use = .free := by
  rw [silenceExpires_eq]
  exact loseHostWork_slots (online_setBackCursors_away s) i

theorem silenceExpires_writes (s : State) (i : Fin 32) : (silenceExpires s).cache.writes[i].use = none := by
  rw [silenceExpires_eq]
  exact loseHostWork_writes (online_setBackCursors_away s) i

theorem silenceExpires_fwdState (s : State) (n : Node) : ((silenceExpires s).node n).ctx.fwdState = .none := by
  rw [silenceExpires_eq, loseHostWork_eq]
  exact loseForwards_fwdState n

/-- A read that waits, or waits for a line being fetched, is lost (R186). -/
theorem silenceExpires_reading {s : State} {n : Node} {k : Command} (h : Reading s n k) (hf : (s.node n).ctx.fwdState = .none)
    (hw : (∃ w ∈ s.cache.slotWait ++ s.pool.waiting, w.node = n) ∨
      ∃ i : Fin 16, ∃ l ∈ s.slotLine i, s.occupied i = true ∧ l.state = .fetching i ∧ l.node = n ∧ 0 < l.pins) :
    ((silenceExpires s).node n).ctx.ReadLost k := by
  have hr := reading_rewound h
  have hfwd : ((setBackCursors s.link.queue (away s)).node n).ctx.fwdState = .none := by rw [ctx_rewound]; exact hf
  rcases hw with hw | ⟨i, l, hl, ho, hs, hn, hp⟩
  · refine loseHostWork_waiting (online_setBackCursors_away s) ?_ hr hfwd
    rw [State.waitingReads, cache_rewound, (rewound_away s).pool]
    exact List.mem_map.2 hw
  · refine loseHostWork_reading (online_setBackCursors_away s) ⟨hr, hfwd, l, ?_, hs, hn, hp⟩ ?_
    · rw [slotLine_rewound]
      exact hl
    · rw [occupied_rewound]
      exact ho

/-- A WRITE(10) that waits for the host is lost with its entries (R161, R186). -/
theorem silenceExpires_awaits {s : State} {n : Node} (h : (s.node n).ctx.AwaitsWrites)
    (hw : ∃ i : Fin 32, ∃ w ∈ s.cache.writes[i].use, w.node = n ∧ w.cancelled = false) :
    ((silenceExpires s).node n).ctx.WriteLost := by
  obtain ⟨i, w, hw, hn, hc⟩ := hw
  refine loseHostWork_awaits (online_setBackCursors_away s) (by rw [ctx_rewound]; exact h) ?_
  have hmem : i ∈ s.ownedEntries n fun _ => true :=
    List.mem_filter.2 ⟨mem_allEntries i, by rw [Option.mem_def.1 hw]; simp [hn, hc]⟩
  rw [State.ownsEntries, State.ownedEntries, cache_rewound]
  exact decide_eq_true (List.ne_nil_of_mem hmem)

/-- A forward in progress is lost (R167). -/
theorem silenceExpires_forwards {s : State} {n : Node} {k : Command} (h : (s.node n).ctx.Forwards k) :
    ((silenceExpires s).node n).ctx.ForwardLost k :=
  loseHostWork_forwards (online_setBackCursors_away s) (by rw [ctx_rewound]; exact h)

/-- A lost fetch or entry leaves MEDIA_ERROR latched (R186). -/
theorem silenceExpires_latches {s : State} {n : Node}
    (h : (∃ i : Fin 32, ∃ w ∈ s.cache.writes[i].use, w.node = n) ∨
      ∃ i : Fin 16, ∃ l ∈ s.slotLine i, s.occupied i = true ∧ l.state = .fetching i ∧ l.node = n)
    (hl : s.events.recs[(Source.node n .mediaError).id].level ≠ 0) :
    0 < (silenceExpires s).events.recs[(Source.node n .mediaError).id].count := by
  rw [silenceExpires_eq]
  refine loseHostWork_latches (online_setBackCursors_away s) (by rw [(rewound_away s).events.level]; exact hl) ?_
  simpa only [cache_rewound, slotLine_rewound, occupied_rewound] using h

/-- Settles O24: the cursors are set back, then the host's work is lost in five stages, none of which touches what an earlier
one has brought about. -/
theorem silenceEntersAutonomous : Obligations.SilenceEntersAutonomous := by
  intro s hporst hdue
  refine ⟨_, exec_silenceTimerExpiry hporst hdue, ?_⟩
  obtain ⟨b, hb⟩ : ∃ b : State, b = { s with due := s.due.erase .silence } := ⟨_, rfl⟩
  rw [← hb]
  have hsame := undisturbed_of_still (silenceExpires_still b)
  have hloses := loses_silenceExpires b
  have hvalid := silenceExpires_valid b
  have hslotWait := hloses.slotWait
  have hwaiting := hloses.waiting
  have hqueue := silenceExpires_queue b
  have howed := silenceExpires_owed (s := b)
  have hcursor := silenceExpires_cursor b
  have hslots := silenceExpires_slots b
  have hwrites := silenceExpires_writes b
  have hfwdState := silenceExpires_fwdState b
  have hreading {n k} := silenceExpires_reading (s := b) (n := n) (k := k)
  have hawaits {n} := silenceExpires_awaits (s := b) (n := n)
  have hforwards {n k} := silenceExpires_forwards (s := b) (n := n) (k := k)
  have hlatches {n} := silenceExpires_latches (s := b) (n := n)
  clear hloses
  generalize silenceExpires b = t at *
  subst hb
  refine ⟨hsame.online, hqueue, hsame.shifting, hsame.autonomousMs, howed, hsame.arbiter, hsame.texts, hsame.plans,
    fun n => ⟨hsame.rx n, hsame.tx n, hsame.lines n, hsame.exec n, hcursor n⟩, hslotWait, hwaiting, hslots, hwrites, hvalid,
    fun n => ⟨hfwdState n, fun k hr hf hw => ?_, fun k hk hf hrun hphase hresult hw => ?_, fun k hk hf hrun => ?_, hlatches⟩⟩
  · have hlost := hreading hr hf hw
    exact ⟨hlost.result, hlost.ask, hlost.command⟩
  · have hlost := hawaits ⟨fun e => Option.some_ne_none k (hk.symm.trans e), hf, hrun, hphase, hresult⟩ hw
    exact ⟨hlost.result, hlost.phase⟩
  · have hlost := hforwards ⟨hk, hf, hrun⟩
    exact ⟨hlost.result, hlost.phase⟩

/-- Settles O17: both resets leave PART_STARTED in the queue, and the entry into AUTONOMOUS empties it. -/
theorem attnFollowsTheQueue : Obligations.AttnFollowsTheQueue := by
  refine ⟨fun s h => attn_iff h, fun s => ⟨_, rfl, partReset_attn ..⟩, fun s tag tail hporst htxn hin hreset hactive => ?_,
    fun s hporst hdue => ?_⟩
  · refine ⟨_, rfl, ?_⟩
    have hfeed : feed tail s = s := by rw [feed, if_pos htxn, foldl_ignore tail s hin]
    have hend : endTransaction tail s = partReset 1 .idle (s.updLink fun l => { l with txn := .idle, inbound := .ignore, shifting := false }) := by
      simp only [endTransaction, htxn, hfeed, csnRises, hin, Bool.false_eq_true, if_false, updLink_link, hreset, finishReset]
      exact if_neg (Bool.not_eq_true _ ▸ hactive)
    rw [hend]
    exact partReset_attn ..
  · refine ⟨_, exec_silenceTimerExpiry hporst hdue, ?_⟩
    have hqueue := silenceExpires_queue { s with due := s.due.erase .silence }
    simp [State.attn, hqueue]

end Sys2Proof.Machine

/-! # CACHE_CONFIG, CACHE_DROP, EVENT_CONFIG and EVENT_TAKE -/

namespace Sys2Proof.Machine

open Sys2Proof

/-! ## The settings of the cache -/

theorem clamp_zero (hi v : Nat) : clamp 0 hi v = min hi v := by
  unfold clamp
  split
  · omega
  · split <;> omega

/-- The number of the field with which a payload ends. -/
theorem fieldAt_append_le_last (a : List Byte) (k v : Nat) (hv : v < 256 ^ k) : fieldAt (a ++ le k v) a.length k = v := by
  simpa only [List.append_nil] using fieldAt_append_le a [] k v hv

theorem anyPresent_iff (s : State) : s.anyPresent = true ↔ ∃ n u, (s.drive n u).image ≠ none := by
  simp only [State.anyPresent, List.any_eq_true, Bool.or_eq_true, Option.isSome_iff_ne_none]
  constructor
  · rintro ⟨n, -, h | h⟩
    · exact ⟨n, 0, h⟩
    · exact ⟨n, 1, h⟩
  · rintro ⟨n, u, h⟩
    refine ⟨n, mem_allNodes n, ?_⟩
    fin_cases u
    · exact .inl h
    · exact .inr h

@[simp] theorem heard_anyPresent (s : State) : (heard s).anyPresent = s.anyPresent := rfl

theorem nodeOf_byte (n : Node) : nodeOf (BitVec.ofNat 8 n).toNat = some n := by
  have hn : (BitVec.ofNat 8 n).toNat = n := by simp; omega
  rw [hn, nodeOf, dif_pos n.isLt]

theorem lunOf_byte (u : Lun) : lunOf (BitVec.ofNat 8 u).toNat = some u := by
  have hu : (BitVec.ofNat 8 u).toNat = u := by simp; omega
  rw [hu, lunOf, dif_pos u.isLt]

/-- CACHE_DROP refuses an EMPTY drive (R181). -/
theorem cacheDropRequest_empty {s : State} {n : Node} {u : Lun} (h : (s.drive n u).image = none) :
    cacheDropRequest [BitVec.ofNat 8 n, BitVec.ofNat 8 u] s = refused .badState s := by
  have hn : nodeOf (u8 [BitVec.ofNat 8 n, BitVec.ofNat 8 u] 0) = some n := nodeOf_byte n
  have hu : lunOf (u8 [BitVec.ofNat 8 n, BitVec.ofNat 8 u] 1) = some u := lunOf_byte u
  simp only [cacheDropRequest, hn, hu, if_pos h]

/-- CACHE_DROP of a PRESENT drive (R181). -/
theorem cacheDropRequest_present {s : State} {n : Node} {u : Lun} (h : (s.drive n u).image ≠ none) :
    cacheDropRequest [BitVec.ofNat 8 n, BitVec.ofNat 8 u] s =
      accepted false [((cacheDropOp n u s).drive n u).generation] (cacheDropOp n u s) := by
  have hn : nodeOf (u8 [BitVec.ofNat 8 n, BitVec.ofNat 8 u] 0) = some n := nodeOf_byte n
  have hu : lunOf (u8 [BitVec.ofNat 8 n, BitVec.ofNat 8 u] 1) = some u := lunOf_byte u
  simp only [cacheDropRequest, hn, hu, if_neg h]

/-- Where no allocation waits, the lines a test picks are freed or become DOOMED, and the pages of those freed join the free
list (R180). -/
theorem doomLines_of_nil {s : State} (p : Line → Bool) (h : s.pool.waiting = []) : doomLines p s =
    (s.updCache fun c =>
      { c with lines := (c.lines.filter fun l => !(p l && decide (l.state = .valid))).map fun l => if p l then l.doom else l }).updPool
      fun q => { q with free := q.free + 8 * (s.cache.lines.filter fun l => p l && decide (l.state = .valid)).length } := by
  unfold doomLines
  dsimp only
  split
  · rename_i hgone
    rw [List.isEmpty_iff.1 hgone]
    rfl
  · rw [pagesJoin_of_nil (by exact h)]
    rfl

theorem updDrive_drive_self (s : State) (n : Node) (u : Lun) (f : Drive → Drive) : (s.updDrive n u f).drive n u = f (s.drive n u) := by
  simp [State.drive, State.updDrive]

theorem updCache_drive (s : State) (f : Cache → Cache) (n : Node) (u : Lun) : (s.updCache f).drive n u = s.drive n u := rfl

theorem updPool_drive (s : State) (f : Pool → Pool) (n : Node) (u : Lun) : (s.updPool f).drive n u = s.drive n u := rfl

/-- Without a line that the drive's command is told of, CACHE_DROP raises the generation and drops the lines (R180). -/
theorem cacheDropOp_of_ask {s : State} {n : Node} (u : Lun) (h : (s.node n).ctx.ask = none) : cacheDropOp n u s =
    doomLines (fun l => l.ofDrive n u) (s.updDrive n u fun d => { d with generation := d.generation + 1, lastRead := none }) := by
  have hattached : ¬((s.node n).ctx.command.isSome = true ∧ s.cmdLun n = u ∧ (s.node n).ctx.ask.map Ask.state = some .attached) := by
    simp [h]
  unfold cacheDropOp
  dsimp only
  rw [if_neg hattached, if_neg fun e => hattached e.1]

/-- CACHE_CONFIG, whatever its payload (R187). -/
theorem exec_cacheConfig {s : State} (h : Ready s) (tag limit depth : Byte) {v : Nat} (hv : v < 65536) :
    exec (.cacheConfig tag ([limit, depth] ++ le 2 v)) s =
      if s.anyPresent then .next ((heard s).enqueueReply 0x3B tag (Reply.refuse .badState))
      else .next (((heard s).updCache fun c =>
          { c with limit := min 96 limit.toNat, depth := min 4 depth.toNat, timeout := clamp 100 10000 v }).enqueueReply 0x3B tag
        (Reply.okay (decide (min 96 limit.toNat ≠ limit.toNat ∨ min 4 depth.toNat ≠ depth.toNat ∨ clamp 100 10000 v ≠ v))
          ([BitVec.ofNat 8 (min 96 limit.toNat), BitVec.ofNat 8 (min 4 depth.toNat)] ++ le 2 (clamp 100 10000 v)))) := by
  have htimeout : u16 ([limit, depth] ++ le 2 v) 2 = v := fieldAt_append_le_last [limit, depth] 2 v hv
  have hrun := live_request (k := 0x3B) tag h (by decide) (p := [limit, depth] ++ le 2 v) (by simp) (by simp [requestLength])
  refine hrun.trans ?_
  rw [show runRequest (0x3B : Byte).toNat tag ([limit, depth] ++ le 2 v) (heard s) = cacheConfigRequest ([limit, depth] ++ le 2 v) (heard s)
    from rfl, cacheConfigRequest, heard_anyPresent]
  split
  · rfl
  · have hlimit : u8 ([limit, depth] ++ le 2 v) 0 = limit.toNat := rfl
    have hdepth : u8 ([limit, depth] ++ le 2 v) 1 = depth.toNat := rfl
    dsimp only
    rw [htimeout, hlimit, hdepth, replyTo_accepted, clamp_zero, clamp_zero, moved_eq, moved_eq, moved_eq, clamp_zero, clamp_zero,
      Bool.or_assoc, ← Bool.decide_or, ← Bool.decide_or]
    rfl

/-- A request of two bytes that drops a drive's lines (R181). -/
theorem exec_cacheDrop {s : State} (h : Ready s) (tag : Byte) (n : Node) (u : Lun) :
    exec (.cacheDrop tag [BitVec.ofNat 8 n, BitVec.ofNat 8 u]) s =
      .next (replyTo 0x3C tag (cacheDropRequest [BitVec.ofNat 8 n, BitVec.ofNat 8 u] (heard s))) :=
  live_request (k := 0x3C) tag h (by decide) (p := [BitVec.ofNat 8 n, BitVec.ofNat 8 u]) (by simp) rfl

/-! ## The levels of the sources -/

/-- A record of the table after every record is changed by its place. -/
theorem recs_mapFinIdx (v : Vector EventRec 52) (f : Nat → EventRec → EventRec) (i : Fin 52) :
    (v.mapFinIdx fun i r _ => f i r)[i] = f i v[i] := by
  simp

/-- EVENT_CONFIG, whatever its payload (R192). -/
theorem exec_eventConfig {s : State} (h : Ready s) (tag level : Byte) {mask : Nat} (hm : mask < 2 ^ 64) :
    exec (.eventConfig tag (le 8 mask ++ [level])) s =
      if 2 ^ 52 ≤ mask then .next ((heard s).enqueueReply 0x40 tag (Reply.refuse .badArg))
      else .next (({ heard s with events := s.events.setLevels mask (min 3 level.toNat) } : State).enqueueReply 0x40 tag
        (Reply.okay (decide (3 < level.toNat))
          ((s.events.setLevels mask (min 3 level.toNat)).recs.toList.map fun r => BitVec.ofNat 8 r.level))) := by
  have hmask : fieldAt (le 8 mask ++ [level]) 0 8 = mask := fieldAt_append_le [] [level] 8 mask (by simpa using hm)
  have hlevel : u8 (le 8 mask ++ [level]) 8 = level.toNat := rfl
  have hrun := live_request (k := 0x40) tag h (by decide) (p := le 8 mask ++ [level]) (by simp) (by simp [requestLength])
  refine hrun.trans ?_
  rw [show runRequest (0x40 : Byte).toNat tag (le 8 mask ++ [level]) (heard s) = eventConfigRequest (le 8 mask ++ [level]) (heard s) from rfl,
    eventConfigRequest, hmask, hlevel, maskTooWide]
  simp only [decide_eq_true_eq]
  split
  · rfl
  · have hmoved : moved 0 3 level.toNat = decide (3 < level.toNat) := by
      rw [moved_eq, clamp_zero]
      exact decide_eq_decide.2 (by omega)
    rw [replyTo_accepted, hmoved, clamp_zero]
    rfl

/-! ## The order of a take -/

/-- The sources of a mask that are pending at a level, in ascending id (R195). -/
def EventTable.idsAt (e : EventTable) (mask level : Nat) : List (Fin 52) :=
  (List.finRange 52).filter fun i : Fin 52 => mask.testBit i && decide (0 < e.recs[i].count) && e.recs[i].level == level

/-- The sources of a mask that are pending, higher levels first (R195). -/
def EventTable.ids (e : EventTable) (mask : Nat) : List (Fin 52) := ([3, 2, 1, 0].map (e.idsAt mask)).flatten

theorem mem_idsAt {e : EventTable} {mask level : Nat} {i : Fin 52} :
    i ∈ e.idsAt mask level ↔ (mask.testBit i = true ∧ 0 < e.recs[i].count) ∧ e.recs[i].level = level := by
  simp [EventTable.idsAt]

theorem numbered_eq (e : EventTable) : e.numbered = (List.finRange 52).map fun i : Fin 52 => (e.recs[i], (i : Nat)) := by
  refine List.ext_getElem (by simp [EventTable.numbered]) fun i h₁ h₂ => ?_
  simp [EventTable.numbered]

/-- The entries of a take are the records of its sources in their order. -/
theorem entries_eq (e : EventTable) (mask : Nat) : e.entries mask = (e.ids mask).map fun i : Fin 52 => (e.recs[i], (i : Nat)) := by
  have hselected (level : Nat) : e.selected mask level = (e.idsAt mask level).map fun i : Fin 52 => (e.recs[i], (i : Nat)) := by
    rw [EventTable.selected, numbered_eq, List.filter_map]
    rfl
  simp only [EventTable.entries, EventTable.ids, List.map_flatten, List.map_map, Function.comp_def, hselected]

theorem mem_ids {e : EventTable} {mask : Nat} (hlevels : ∀ r ∈ e.recs.toList, r.level ≤ 3) (i : Fin 52) :
    i ∈ e.ids mask ↔ mask.testBit i = true ∧ 0 < e.recs[i].count := by
  have hlevel : e.recs[i].level ≤ 3 := hlevels _ (by simp)
  have hfour : e.recs[i].level = 3 ∨ e.recs[i].level = 2 ∨ e.recs[i].level = 1 ∨ e.recs[i].level = 0 := by omega
  simp only [EventTable.ids, List.map_cons, List.map_nil, List.flatten_cons, List.flatten_nil, List.append_nil, List.mem_append, mem_idsAt]
  tauto

/-- The sources of a take stand in the order of R195. -/
theorem pairwise_ids (e : EventTable) (mask : Nat) : (e.ids mask).Pairwise fun i j : Fin 52 =>
    e.recs[j].level < e.recs[i].level ∨ (e.recs[i].level = e.recs[j].level ∧ i < j) := by
  refine List.pairwise_flatten.2 ⟨?_, ?_⟩
  · simp only [List.forall_mem_map]
    intro level _
    have hsorted : (e.idsAt mask level).Pairwise (· < ·) := (List.pairwise_lt_finRange 52).filter _
    refine hsorted.imp_of_mem fun hi hj hij => .inr ⟨?_, hij⟩
    rw [(mem_idsAt.1 hi).2, (mem_idsAt.1 hj).2]
  · refine List.pairwise_map.2 (List.Pairwise.imp (R := fun a b => b < a) (fun hab i hi j hj => .inl ?_) (by decide))
    rw [(mem_idsAt.1 hi).2, (mem_idsAt.1 hj).2]
    exact hab

/-! ## The summary after a take -/

/-- The room an EVENT_SUMMARY needs (R193). -/
abbrev Link.summaryRoom (l : Link) : Prop := l.queue.length ≤ 30 ∧ ∀ f ∈ l.queue, f.kind ≠ 0xE5

/-- An EVENT_SUMMARY that is owed is queued where there is room for it, and stays owed otherwise (R193). -/
theorem offerSummary_cases {s : State} (hon : s.link.online = .online) (hheld : s.link.held = false) :
    (s.events.owed = true ∧ s.link.summaryRoom ∧
      offerSummary s = { s.enqueueNotice 0xE5 (le 8 s.pendingMask) with events := { s.events with owed := false } }) ∨
    (¬(s.events.owed = true ∧ s.link.summaryRoom) ∧ offerSummary s = s) := by
  have hroom : (s.events.owed && !(s.link.queue.any fun f => f.kind == 0xE5) && s.admits Config.summaryRoom) = true ↔
      s.events.owed = true ∧ s.link.summaryRoom := by
    have hfree : Config.summaryRoom ≤ s.freeEntries ↔ s.link.queue.length ≤ 30 := by
      simp only [State.freeEntries, Config.queueEntries, Config.summaryRoom]
      omega
    simp only [State.admits, hon, hheld, hfree, Link.summaryRoom, Bool.and_eq_true, Bool.not_eq_true', List.any_eq_false, beq_iff_eq,
      decide_true, Bool.not_false, true_and, decide_eq_true_eq]
    tauto
  unfold offerSummary
  split
  · rename_i h
    exact .inl ⟨(hroom.1 h).1, (hroom.1 h).2, rfl⟩
  · rename_i h
    exact .inr ⟨fun e => h (hroom.2 e), rfl⟩

/-- The state of a part whose pending sources of a mask are taken. -/
def State.takes (s : State) (mask : Nat) : State := { s with events := s.events.take mask }

theorem recs_take (e : EventTable) (mask : Nat) (i : Fin 52) :
    (e.take mask).recs[i] = if mask.testBit i = true ∧ 0 < e.recs[i].count then e.recs[i].taken else e.recs[i] := by
  refine (recs_mapFinIdx e.recs (fun i r => if mask.testBit i && decide (0 < r.count) then r.taken else r) i).trans ?_
  simp only [Bool.and_eq_true, decide_eq_true_eq]

/-- Whether a source is pending at or above the threshold. -/
theorem any_pending (s : State) :
    (s.events.recs.toList.any fun r => decide (0 < r.count) && decide (s.link.threshold ≤ r.level)) = true ↔
      ∃ i : Fin 52, 0 < s.events.recs[i].count ∧ s.link.threshold ≤ s.events.recs[i].level := by
  simp only [List.any_eq_true, Bool.and_eq_true, decide_eq_true_eq, Vector.mem_toList_iff, Vector.mem_iff_getElem]
  constructor
  · rintro ⟨_, ⟨i, hi, rfl⟩, h⟩
    exact ⟨⟨i, hi⟩, h⟩
  · rintro ⟨i, h⟩
    exact ⟨_, ⟨i, i.isLt, rfl⟩, h⟩

/-- What a take's offer leaves of the state it is made in: the link gains at most a summary, the event table loses at most the
flag. -/
structure Offers (s t : State) : Prop where
  frame : t = { s with link := t.link, events := t.events }
  recs : t.events.recs = s.events.recs
  queue : s.link.queue <+: t.link.queue

theorem offers_afterTake {s : State} (hon : s.link.online = .online) (hheld : s.link.held = false) : Offers s (afterTake s) := by
  unfold afterTake
  split
  · rcases offerSummary_cases hon hheld with ⟨-, -, e⟩ | ⟨-, e⟩ <;> rw [e]
    · exact ⟨rfl, rfl, List.prefix_append ..⟩
    · exact ⟨rfl, rfl, List.prefix_rfl⟩
  · exact ⟨rfl, rfl, List.prefix_rfl⟩

/-- Without a source pending at or above the threshold no summary is owed (R195). -/
theorem afterTake_below {s : State} (h : ∀ i : Fin 52, 0 < s.events.recs[i].count → s.events.recs[i].level < s.link.threshold) :
    (afterTake s).events.owed = false := by
  have hnone : ¬(s.events.recs.toList.any fun r => decide (0 < r.count) && decide (s.link.threshold ≤ r.level)) = true := by
    rw [any_pending]
    rintro ⟨i, hi, hl⟩
    exact absurd (h i hi) (not_lt.2 hl)
  rw [afterTake, if_neg hnone]

/-- With a source pending at or above the threshold a summary that is owed is queued where there is room (R193, R195). -/
theorem afterTake_above {s : State} (hon : s.link.online = .online) (hheld : s.link.held = false)
    (h : ∃ i : Fin 52, 0 < s.events.recs[i].count ∧ s.link.threshold ≤ s.events.recs[i].level) :
    ((afterTake s).events.owed = true ↔ s.events.owed = true ∧ ¬s.link.summaryRoom) ∧
      (afterTake s).link.queue.length = s.link.queue.length + if s.events.owed = true ∧ s.link.summaryRoom then 1 else 0 := by
  rw [afterTake, if_pos ((any_pending s).2 h)]
  rcases offerSummary_cases hon hheld with ⟨ho, hr, e⟩ | ⟨hno, e⟩ <;> rw [e]
  · rw [if_pos ⟨ho, hr⟩]
    exact ⟨⟨fun e => absurd e Bool.false_ne_true, fun e => absurd hr e.2⟩, List.length_append⟩
  · rw [if_neg hno]
    exact ⟨⟨fun ho => ⟨ho, fun hr => hno ⟨ho, hr⟩⟩, And.left⟩, rfl⟩

theorem enqueueReply_length (s : State) (k t : Byte) (r : Reply) :
    (s.enqueueReply k t r).link.queue.length = s.link.queue.length + 1 :=
  List.length_append

/-- EVENT_TAKE, whatever its payload (R195). -/
theorem exec_eventTake {s : State} (h : Ready s) (tag : Byte) {mask : Nat} (hm : mask < 2 ^ 64) :
    exec (.eventTake tag (le 8 mask)) s =
      if 2 ^ 52 ≤ mask then .next ((heard s).enqueueReply 0x41 tag (Reply.refuse .badArg))
      else .next ((afterTake ((heard s).takes mask)).enqueueReply 0x41 tag
        (Reply.okay false ([BitVec.ofNat 8 (s.events.ids mask).length] ++ le 8 (afterTake ((heard s).takes mask)).pendingMask ++
          ((s.events.ids mask).map fun i : Fin 52 => takeEntry s.events.recs[i] i).flatten))) := by
  have hmask : fieldAt (le 8 mask) 0 8 = mask := fieldAt_append_le_last [] 8 mask (by simpa using hm)
  have hrun := live_request (k := 0x41) tag h (by decide) (p := le 8 mask) (by simp) (by simp [requestLength])
  refine hrun.trans ?_
  rw [show runRequest (0x41 : Byte).toNat tag (le 8 mask) (heard s) = eventTakeRequest (le 8 mask) (heard s) from rfl,
    eventTakeRequest, hmask, maskTooWide]
  simp only [decide_eq_true_eq]
  split
  · rfl
  · rw [replyTo_accepted, heard_events, entries_eq, List.map_map, List.length_map]
    rfl

/-- Settles O59: each request is carried out in the state `heard` gives, and what it does there is written out by cases. -/
theorem cacheAndEventsAreSet : Obligations.CacheAndEventsAreSet := by
  refine ⟨⟨rfl, rfl, rfl⟩, fun s tag limit depth v h hv => ?_, fun s tag n u h => ?_, fun s tag level mask h hm => ?_,
    fun s tag mask h hm => ?_⟩
  · have hrun := exec_cacheConfig h tag limit depth hv
    refine ⟨fun hp => hrun.trans (if_pos ((anyPresent_iff s).2 hp)), fun hp => hrun.trans (if_neg ?_)⟩
    rw [anyPresent_iff]
    rintro ⟨n, u, hne⟩
    exact hne (hp n u)
  · have hrun := exec_cacheDrop h tag n u
    refine ⟨fun he => ?_, fun hp ha hw => ?_⟩
    · rw [hrun, cacheDropRequest_empty (s := heard s) he]
      rfl
    · rw [hrun, cacheDropRequest_present (s := heard s) hp, cacheDropOp_of_ask (s := heard s) u ha, replyTo_accepted,
        doomLines_of_nil _ (by exact hw), updPool_drive, updCache_drive, updDrive_drive_self]
      rfl
  · have hrun := exec_eventConfig h tag level hm
    refine ⟨fun hw => hrun.trans (if_pos hw), fun hn => ⟨_, hrun.trans (if_neg (not_le.2 hn)), rfl, rfl, fun i => ?_, ?_⟩⟩
    · refine (recs_mapFinIdx s.events.recs (fun i r => if mask.testBit i then { r with level := min 3 level.toNat } else r) i).trans ?_
      split <;> rfl
    · simp [State.enqueueReply, State.enqueue, Reply.okay, byteOfBool, byteOf, Status.num]
  · have hrun := exec_eventTake h tag hm
    refine ⟨fun hw => hrun.trans (if_pos hw), fun hn hlevels => ⟨_, hrun.trans (if_neg (not_le.2 hn)), ?_⟩⟩
    obtain ⟨-, hon, hheld, -⟩ := h
    have hoffers := offers_afterTake (s := (heard s).takes mask) hon hheld
    have hbelow := afterTake_below (s := (heard s).takes mask)
    have habove := afterTake_above (s := (heard s).takes mask) hon hheld
    have hrecs (i : Fin 52) : (afterTake ((heard s).takes mask)).events.recs[i] =
        if mask.testBit i = true ∧ 0 < s.events.recs[i].count then s.events.recs[i].taken else s.events.recs[i] := by
      rw [hoffers.recs]
      exact recs_take s.events mask i
    have hX : ((heard s).takes mask).events.recs = (afterTake ((heard s).takes mask)).events.recs := hoffers.recs.symm
    refine ⟨(congrArg (fun x : State => x.enqueueReply _ _ _) hoffers.frame).trans rfl, hrecs, fun hb => hbelow ?_, fun ha => ?_,
      hoffers.queue.trans (List.prefix_append ..), s.events.ids mask, pairwise_ids .., mem_ids hlevels, ?_⟩
    · rw [hX]
      exact hb
    · rw [hX] at habove
      obtain ⟨howed, hlength⟩ := habove ha
      refine ⟨howed, ?_⟩
      rw [enqueueReply_length, hlength]
      rw [Nat.add_assoc]
      refine congrArg (s.link.queue.length + ·) ?_
      by_cases hroom : s.events.owed = true ∧ s.link.summaryRoom
      · exact (congrArg (· + 1) (if_pos hroom)).trans (if_pos hroom).symm
      · exact (congrArg (· + 1) (if_neg hroom)).trans (if_neg hroom).symm
    · exact List.getLast?_concat

end Sys2Proof.Machine

/-! # CON_CONFIG -/

namespace Sys2Proof.Machine

open Sys2Proof

/-! ## What an appended record leaves in its ring -/

@[simp] theorem offerSummary_nodes (s : State) : (offerSummary s).nodes = s.nodes := by
  unfold offerSummary
  split <;> rfl

@[simp] theorem latch_nodes (src : Source) (d : Nat) (s : State) : (latch src d s).nodes = s.nodes := by
  unfold latch
  dsimp only
  split
  · rfl
  · split
    · rw [offerSummary_nodes]
    · rfl

@[simp] theorem latch_node (src : Source) (d : Nat) (s : State) (n : Node) : (latch src d s).node n = s.node n := by
  rw [State.node, latch_nodes]
  rfl

/-- An offer of the arbiter moves at most a cursor (R54). -/
theorem streamOffer_nodes (s : State) : (streamOffer s).nodes = s.nodes ∨
    ∃ m c, (streamOffer s).nodes = (s.updHist m fun h => { h with cursor := c }).nodes := by
  unfold streamOffer
  split
  · exact .inl rfl
  · split
    · exact .inr ⟨_, _, rfl⟩
    · exact .inl rfl

theorem streamOffer_hist (s : State) (n : Node) : ∃ c, ((streamOffer s).node n).hist = { (s.node n).hist with cursor := c } := by
  rcases streamOffer_nodes s with e | ⟨m, c, e⟩
  · exact ⟨(s.node n).hist.cursor, congrArg (fun v : Vector NodeState 4 => v[n].hist) e⟩
  · have hhist := congrArg (fun v : Vector NodeState 4 => v[n].hist) e
    rcases eq_or_ne m n with rfl | hne
    · exact ⟨c, hhist.trans (congrArg NodeState.hist (updHist_node_self s m _))⟩
    · exact ⟨(s.node n).hist.cursor, hhist.trans (congrArg NodeState.hist ((updHist_node s m n _).trans (if_neg hne)))⟩

/-- An eviction moves oldest_seq and at most the cursor (R50). -/
theorem evictRecords_hist (n : Node) (page : List Rec) (s : State) :
    ∃ o c, ((evictRecords n page s).node n).hist = { (s.node n).hist with oldest := o, cursor := c } := by
  unfold evictRecords
  split
  · exact ⟨(s.node n).hist.oldest, (s.node n).hist.cursor, rfl⟩
  · dsimp only
    split
    · split
      · exact ⟨_, _, by rw [latch_node, updHist_node_self]⟩
      · exact ⟨_, _, by rw [updHist_node_self]⟩
    · exact ⟨_, (s.node n).hist.cursor, by rw [updHist_node_self]⟩

/-- A new current page takes no sequence number (R24). -/
theorem obtainPage_next (n : Node) (s : State) : ((obtainPage n s).node n).hist.next = (s.node n).hist.next := by
  unfold obtainPage
  dsimp only
  split
  · rw [updHist_node_self]
  · split
    · rw [updPool_node, updHist_node_self]
    · split
      · rfl
      · rename_i p ps _
        obtain ⟨o, c, e⟩ := evictRecords_hist n p (s.updHist n fun h => { h with filled := ps, current := [] })
        rw [e, updHist_node_self]

section

variable (n : Node) (ts : Word32) (b : RecBody) (s : State)

/-- A record that is appended takes next_seq and stands last in the current page (R45). -/
theorem appendRec_hist : ((appendRec n ts b s).node n).hist.next = (s.node n).hist.next + 1 ∧
    ((appendRec n ts b s).node n).hist.current.getLast? = some { seq := (s.node n).hist.next, timestamp := ts, body := b } := by
  have hpage (t : State) (ht : (t.node n).hist.next = (s.node n).hist.next + 1) (r : Rec) :
      ((streamOffer (t.updHist n fun h => { h with current := h.current ++ [r] })).node n).hist.next = (s.node n).hist.next + 1 ∧
        ((streamOffer (t.updHist n fun h => { h with current := h.current ++ [r] })).node n).hist.current.getLast? = some r := by
    obtain ⟨c, e⟩ := streamOffer_hist (t.updHist n fun h => { h with current := h.current ++ [r] }) n
    rw [e, updHist_node_self]
    exact ⟨ht, List.getLast?_concat⟩
  have hnext : ((s.updHist n fun h => { h with next := h.next + 1 }).node n).hist.next = (s.node n).hist.next + 1 := by
    rw [updHist_node_self]
  unfold appendRec
  dsimp only
  split
  · exact hpage _ hnext _
  · exact hpage _ ((obtainPage_next ..).trans hnext) _

theorem appendRec_rx (m : Node) : ((appendRec n ts b s).node m).rx = (s.node m).rx :=
  (undisturbed_of_still (still_appendRec n ts b s)).rx m

@[simp] theorem appendRec_timebase : (appendRec n ts b s).timebase = s.timebase :=
  congrArg (·.timebase) (still_appendRec n ts b s)

end

/-- Where a record is open it is closed with its flags (R44, R45). -/
theorem closeOpen_some {s : State} {n : Node} {o : OpenRec} (h : (s.node n).rx.opened = some o) (flags : RecFlags) :
    closeOpen n flags s =
      appendRec n o.timestamp (.text (o.flags.or flags) o.payload) (s.updRx n fun r => { r with opened := none }) := by
  simp only [closeOpen, h]

theorem closeOpen_none {s : State} {n : Node} (h : (s.node n).rx.opened = none) (flags : RecFlags) : closeOpen n flags s = s := by
  simp only [closeOpen, h]

@[simp] theorem closeOpen_timebase (n : Node) (flags : RecFlags) (s : State) : (closeOpen n flags s).timebase = s.timebase := by
  unfold closeOpen
  split
  · rfl
  · exact appendRec_timebase ..

/-- No record is open once the open one has closed (R44). -/
theorem closeOpen_rx (n : Node) (flags : RecFlags) (s : State) :
    ((closeOpen n flags s).node n).rx = { (s.node n).rx with opened := none } := by
  cases h : (s.node n).rx.opened with
  | none => rw [closeOpen_none h, ← h]
  | some o => rw [closeOpen_some h, appendRec_rx, updRx_node_self]

/-- A record that closes takes a sequence number (R45). -/
theorem closeOpen_next (n : Node) (flags : RecFlags) (s : State) :
    ((closeOpen n flags s).node n).hist.next = (s.node n).hist.next + if (s.node n).rx.opened.isSome then 1 else 0 := by
  cases h : (s.node n).rx.opened with
  | none => rw [closeOpen_none h]; simp
  | some o => rw [closeOpen_some h, (appendRec_hist ..).1, updRx_node_self]; rfl

/-- A marker closes the open record and stands behind it (R46). -/
theorem appendMarker_eq (n : Node) (code detail : Nat) (s : State) :
    appendMarker n code detail s = appendRec n s.timebase (.marker code detail) (closeOpen n .none s) :=
  congrArg (fun t => appendRec n t (.marker code detail) (closeOpen n .none s)) (closeOpen_timebase n .none s)

theorem appendMarker_rx (n : Node) (code detail : Nat) (s : State) :
    ((appendMarker n code detail s).node n).rx = { (s.node n).rx with opened := none } := by
  rw [appendMarker_eq, appendRec_rx, closeOpen_rx]

theorem appendMarker_next (n : Node) (code detail : Nat) (s : State) : ((appendMarker n code detail s).node n).hist.next =
    (s.node n).hist.next + if (s.node n).rx.opened.isSome then 2 else 1 := by
  rw [appendMarker_eq, (appendRec_hist ..).1, closeOpen_next]
  split
  · rw [BitVec.add_assoc]; rfl
  · rw [BitVec.add_assoc]; rfl

theorem appendMarker_last (n : Node) (code detail : Nat) (s : State) : ((appendMarker n code detail s).node n).hist.current.getLast? =
    some { seq := ((appendMarker n code detail s).node n).hist.next - 1, timestamp := s.timebase, body := .marker code detail } := by
  have hrec := appendRec_hist n s.timebase (.marker code detail) (closeOpen n .none s)
  rw [appendMarker_eq, hrec.1, hrec.2, BitVec.add_sub_cancel]

/-! ## The fields of CON_CONFIG -/

theorem nodeOf_val (n : Node) : nodeOf n = some n := dif_pos n.isLt

theorem le_of_nodeOf {v : Nat} {n : Node} (h : nodeOf v = some n) : v ≤ 3 := by
  unfold nodeOf at h
  split at h
  · omega
  · cases h

theorem parityOf_num (x : Parity) : parityOf x.num = some x := by cases x <;> rfl

theorem le_of_parityOf {v : Nat} {x : Parity} (h : parityOf v = some x) : v ≤ 2 := by
  by_contra hv
  rw [parityOf, if_neg (by omega), if_neg (by omega), if_neg (by omega)] at h
  cases h

theorem onOff_of_le {v : Nat} (h : v ≤ 1) : onOff v = some (decide (v = 1)) := by
  interval_cases v <;> rfl

theorem le_of_onOff {v : Nat} {b : Bool} (h : onOff v = some b) : v ≤ 1 := by
  by_contra hv
  rw [onOff, if_neg (by omega), if_neg (by omega)] at h
  cases h

theorem flag1_decide {v : Nat} (h : v ≤ 1) : flag1 (decide (v = 1)) = [BitVec.ofNat 8 v] := by
  interval_cases v <;> rfl

/-- CON_CONFIG refuses a bad node, rate, parity or flag (R38). -/
theorem conConfigRequest_refused {p : List Byte} (s : State)
    (h : 3 < u8 p 0 ∨ 7 < u8 p 1 ∨ 2 < u8 p 2 ∨ 1 < u8 p 6 ∨ 1 < u8 p 7) : conConfigRequest p s = refused .badArg s := by
  unfold conConfigRequest
  split
  · rfl
  · rename_i n hn
    split
    · rename_i parity lineMode echo hparity hline hecho
      have := le_of_nodeOf hn
      have := le_of_parityOf hparity
      have := le_of_onOff hline
      have := le_of_onOff hecho
      exact if_pos (by omega)
    · rfl

/-- The settings a CON_CONFIG of a parity gives (R38). -/
def settingsOf (p : List Byte) (parity : Parity) : Settings :=
  { rate := u8 p 1, parity := parity, recMax := clamp 16 240 (u8 p 3), idleGap := clamp 1 1000 (u16 p 4),
    lineMode := decide (u8 p 6 = 1), echo := decide (u8 p 7 = 1), pacing := clamp 0 50 (u8 p 8) }

/-- A CON_CONFIG with good fields is carried out with its values moved into range (R38, R39). -/
theorem conConfigRequest_accepted {p : List Byte} (s : State) {n : Node} {parity : Parity} (hn : (n : Nat) = u8 p 0) (hr : u8 p 1 ≤ 7)
    (hp : u8 p 2 = parity.num) (hl : u8 p 6 ≤ 1) (he : u8 p 7 ≤ 1) : conConfigRequest p s =
      accepted (decide (clamp 16 240 (u8 p 3) ≠ u8 p 3 ∨ clamp 1 1000 (u16 p 4) ≠ u16 p 4 ∨ clamp 0 50 (u8 p 8) ≠ u8 p 8))
        (settingsOf p parity).fields (setConsole n (settingsOf p parity) s) := by
  have hnode : nodeOf (u8 p 0) = some n := hn ▸ nodeOf_val n
  have hparity : parityOf (u8 p 2) = some parity := hp ▸ parityOf_num parity
  simp only [conConfigRequest, hnode, hparity, onOff_of_le hl, onOff_of_le he, if_neg (not_lt.2 hr), moved_eq]
  rw [Bool.or_assoc, ← Bool.decide_or, ← Bool.decide_or]
  rfl

/-- The settings as the reply carries them. -/
theorem settingsOf_fields {p : List Byte} (parity : Parity) (hl : u8 p 6 ≤ 1) (he : u8 p 7 ≤ 1) : (settingsOf p parity).fields =
    [BitVec.ofNat 8 (u8 p 1), BitVec.ofNat 8 parity.num, BitVec.ofNat 8 (clamp 16 240 (u8 p 3))] ++ le 2 (clamp 1 1000 (u16 p 4)) ++
      [BitVec.ofNat 8 (u8 p 6), BitVec.ofNat 8 (u8 p 7), BitVec.ofNat 8 (clamp 0 50 (u8 p 8))] := by
  rw [Settings.fields, settingsOf]
  dsimp only
  rw [flag1_decide hl, flag1_decide he]
  simp only [byte1, byteOf, List.cons_append, List.nil_append, List.append_assoc]

/-! ## The settings that come into force -/

theorem clearDue_of_notMem {s : State} {t : Timer} (h : t ∉ s.due) : s.clearDue t = s := by
  have hdue : s.due.filter (· ≠ t) = s.due := List.filter_eq_self.2 fun x hx => decide_eq_true fun e => h (e ▸ hx)
  rw [State.clearDue, hdue]

section

variable {s : State} {n : Node} {c : Settings} (hdue : .idleGap n ∉ s.due)
include hdue

/-- Where no idle gap is due the settings alone are set, before the marker and the closing of a full record (R39). -/
theorem setConsole_eq (t : State) (ht : t = if c.rate ≠ (s.node n).rx.settings.rate ∨ c.parity ≠ (s.node n).rx.settings.parity then
      appendMarker n 7 (c.rate + 256 * c.parity.num) (s.updRx n fun r => { r with settings := c })
    else s.updRx n fun r => { r with settings := c }) :
    ((t.node n).rx.opened = none → setConsole n c s = t) ∧
    ∀ o, (t.node n).rx.opened = some o →
      setConsole n c s = if c.recMax ≤ o.payload.length then closeOpen n { RecFlags.none with full := true } t else t := by
  have hclear : (if c.idleGap ≠ (s.node n).rx.settings.idleGap then (s.updRx n fun r => { r with settings := c }).clearDue (.idleGap n)
      else s.updRx n fun r => { r with settings := c }) = s.updRx n fun r => { r with settings := c } := by
    rw [clearDue_of_notMem (by exact hdue), ite_self]
  unfold setConsole
  dsimp only
  rw [hclear, ← ht]
  exact ⟨fun h => by rw [h], fun o h => by rw [h]⟩

/-- Settings of the same rate and parity that close nothing (R39). -/
theorem setConsole_same (hr : c.rate = (s.node n).rx.settings.rate) (hp : c.parity = (s.node n).rx.settings.parity)
    (ho : ∀ o, (s.node n).rx.opened = some o → o.payload.length < c.recMax) :
    setConsole n c s = s.updRx n fun r => { r with settings := c } := by
  have hc := setConsole_eq (c := c) hdue _ (if_neg (not_or.2 ⟨not_not.2 hr, not_not.2 hp⟩)).symm
  rw [updRx_node_self] at hc
  cases h : (s.node n).rx.opened with
  | none => exact hc.1 h
  | some o => exact (hc.2 o h).trans (if_neg (not_le.2 (ho o h)))

/-- A changed rate or parity appends a marker (R39). -/
theorem setConsole_changed (h : c.rate ≠ (s.node n).rx.settings.rate ∨ c.parity ≠ (s.node n).rx.settings.parity) :
    setConsole n c s = appendMarker n 7 (c.rate + 256 * c.parity.num) (s.updRx n fun r => { r with settings := c }) := by
  refine (setConsole_eq (c := c) hdue _ (if_pos h).symm).1 ?_
  rw [appendMarker_rx]

/-- A changed rate or parity leaves the marker last, and no record open (R39, R46). -/
theorem setConsole_marker (h : c.rate ≠ (s.node n).rx.settings.rate ∨ c.parity ≠ (s.node n).rx.settings.parity) :
    ((setConsole n c s).node n).rx = { (s.node n).rx with settings := c, opened := none } ∧
    ((setConsole n c s).node n).hist.next = (s.node n).hist.next + (if (s.node n).rx.opened.isSome then 2 else 1) ∧
    ((setConsole n c s).node n).hist.current.getLast? =
      some { seq := ((setConsole n c s).node n).hist.next - 1, timestamp := s.timebase, body := .marker 7 (c.rate + 256 * c.parity.num) } := by
  rw [setConsole_changed hdue h, appendMarker_last, appendMarker_rx, appendMarker_next, updRx_node_self]
  exact ⟨rfl, rfl, rfl⟩

/-- A record that is full under the new maximum closes, and stands last (R39, R44). -/
theorem setConsole_full (hr : c.rate = (s.node n).rx.settings.rate) (hp : c.parity = (s.node n).rx.settings.parity) {o : OpenRec}
    (ho : (s.node n).rx.opened = some o) (hfull : c.recMax ≤ o.payload.length) :
    ((setConsole n c s).node n).rx = { (s.node n).rx with settings := c, opened := none } ∧
    ((setConsole n c s).node n).hist.current.getLast? =
      some { seq := (s.node n).hist.next, timestamp := o.timestamp, body := .text { o.flags with full := true } o.payload } := by
  have hopen : (((s.updRx n fun r => { r with settings := c }).node n).rx).opened = some o := by rw [updRx_node_self]; exact ho
  have hcloses := ((setConsole_eq (c := c) hdue _ (if_neg (not_or.2 ⟨not_not.2 hr, not_not.2 hp⟩)).symm).2 o hopen).trans (if_pos hfull)
  have hflags : o.flags.or { RecFlags.none with full := true } = { o.flags with full := true } := by
    simp [RecFlags.or, RecFlags.none]
  have hrx := closeOpen_rx n { RecFlags.none with full := true } (s.updRx n fun r => { r with settings := c })
  rw [← hcloses, updRx_node_self] at hrx
  refine ⟨hrx, ?_⟩
  rw [hcloses, closeOpen_some hopen, hflags, (appendRec_hist ..).2, updRx_node_self, updRx_node_self]

end

/-- Settles O38: CON_CONFIG is carried out in the state `heard` gives, where the settings, the marker and the closed record follow
from what an appended record leaves. -/
theorem consoleIsConfigured : Obligations.ConsoleIsConfigured := by
  intro s tag p h hlen
  have hrun : exec (.conConfig tag p) s = .next (replyTo 0x10 tag (conConfigRequest p (heard s))) :=
    live_request (k := 0x10) tag h (by decide) (by omega) (by simp [requestLength, hlen])
  refine ⟨fun hbad => ?_, fun n parity hn hr hp hl he hdue => ?_⟩
  · rw [hrun, conConfigRequest_refused _ hbad, replyTo_refused]
  · rw [conConfigRequest_accepted (heard s) hn hr hp hl he, settingsOf_fields parity hl he, replyTo_accepted] at hrun
    refine ⟨fun hrate hparity hopen => ?_, fun hchanged => ⟨_, hrun, ?_⟩, fun o hrate hparity ho hfull => ⟨_, hrun, ?_⟩⟩
    · rw [hrun, setConsole_same (s := heard s) (c := settingsOf p parity) hdue hrate hparity hopen]
      rfl
    · obtain ⟨hrx, hnext, hlast⟩ := setConsole_marker (s := heard s) (c := settingsOf p parity) hdue hchanged
      generalize setConsole n (settingsOf p parity) (heard s) = t at *
      exact ⟨hrx, hnext, hlast, List.getLast?_concat⟩
    · have hfullRec := setConsole_full (s := heard s) (c := settingsOf p parity) hdue hrate hparity ho hfull
      generalize setConsole n (settingsOf p parity) (heard s) = t at *
      exact hfullRec

end Sys2Proof.Machine

/-! # The levels of the sources -/

namespace Sys2Proof.Machine

open Sys2Proof

/-- The levels of the sources (R192). -/
def EventTable.levels (e : EventTable) : Vector Nat 52 := e.recs.map EventRec.level

theorem level_of_levels {e e' : EventTable} (h : e'.levels = e.levels) (i : Fin 52) : e'.recs[i].level = e.recs[i].level := by
  have hi := congrArg (fun v : Vector Nat 52 => v[i]) h
  simp only [EventTable.levels, Fin.getElem_fin, Vector.getElem_map] at hi
  exact hi

/-! ## Notices, events and records -/

@[simp] theorem offerSummary_recs (s : State) : (offerSummary s).events.recs = s.events.recs := by
  unfold offerSummary
  split <;> rfl

/-- A latch sets at most the record of its source (R191). -/
theorem latch_recs (src : Source) (d : Nat) (s : State) :
    (latch src d s).events.recs = (s.events.latched s.link.threshold s.timebase src d).recs := by
  unfold latch EventTable.latched
  dsimp only
  split
  · rfl
  · split
    · rw [offerSummary_recs]
    · rfl

@[simp] theorem levels_latch (src : Source) (d : Nat) (s : State) : (latch src d s).events.levels = s.events.levels := by
  rw [EventTable.levels, latch_recs]
  refine Vector.ext fun i hi => ?_
  simp only [EventTable.levels, Vector.getElem_map]
  exact (grows_latched s.events s.link.threshold s.timebase src d).level ⟨i, hi⟩

@[simp] theorem levels_mediaError (n : Node) (c : MediaCause) (u : Lun) (s : State) :
    (mediaError n c u s).events.levels = s.events.levels := levels_latch ..

@[simp] theorem levels_portChange (n : Node) (c : PortCause) (s : State) : (portChange n c s).events.levels = s.events.levels :=
  levels_latch ..

@[simp] theorem levels_pressureTrim (s : State) : (pressureTrim s).events.levels = s.events.levels := levels_latch ..

@[simp] theorem levels_pressureWait (n : Node) (s : State) : (pressureWait n s).events.levels = s.events.levels := levels_latch ..

@[simp] theorem levels_streamOffer (s : State) : (streamOffer s).events.levels = s.events.levels := by
  unfold streamOffer
  split
  · rfl
  · split <;> rfl

@[simp] theorem levels_evictRecords (n : Node) (p : List Rec) (s : State) : (evictRecords n p s).events.levels = s.events.levels := by
  unfold evictRecords
  split
  · rfl
  · dsimp only
    split
    · split <;> simp
    · rfl

@[simp] theorem levels_giveUpPage (n : Node) (s : State) : (giveUpPage n s).events.levels = s.events.levels := by
  unfold giveUpPage
  dsimp only
  split
  · rfl
  · split <;> simp

@[simp] theorem levels_obtainPage (n : Node) (s : State) : (obtainPage n s).events.levels = s.events.levels := by
  unfold obtainPage
  dsimp only
  split
  · rfl
  · split
    · rfl
    · split <;> simp

@[simp] theorem levels_appendRec (n : Node) (ts : Word32) (b : RecBody) (s : State) :
    (appendRec n ts b s).events.levels = s.events.levels := by
  unfold appendRec
  dsimp only
  rw [levels_streamOffer, updHist_events]
  split <;> simp

@[simp] theorem levels_closeOpen (n : Node) (f : RecFlags) (s : State) : (closeOpen n f s).events.levels = s.events.levels := by
  unfold closeOpen
  split <;> simp

@[simp] theorem levels_appendMarker (n : Node) (code detail : Nat) (s : State) :
    (appendMarker n code detail s).events.levels = s.events.levels := by
  simp [appendMarker]

/-! ## Pages and the cache -/

@[simp] theorem levels_withdraw (o : MediaOwner) (s : State) : (withdraw o s).events.levels = s.events.levels := rfl

theorem levels_evictLine {s t : State} (h : evictLine s = some t) : t.events.levels = s.events.levels := by
  unfold evictLine at h
  split at h
  · cases h; rfl
  · cases h

@[simp] theorem levels_trimPages (k : Nat) (s : State) : (trimPages k s).events.levels = s.events.levels := by
  induction k generalizing s with
  | zero => rfl
  | succ k ih => simp [trimPages, ih]

theorem levels_demandAlloc {s t : State} (h : demandAlloc s = .got t) : t.events.levels = s.events.levels := by
  unfold demandAlloc at h
  split at h
  · cases h; rfl
  · split at h
    · cases h; exact levels_evictLine ‹_›
    · split at h
      · cases h; simp
      · split at h <;> cases h

@[simp] theorem sendMedia_events (o : MediaOwner) (s : State) : (sendMedia o s).events = s.events := by
  unfold sendMedia
  split <;> split <;> rfl

@[simp] theorem offerMedia_events (o : MediaOwner) (s : State) : (offerMedia o s).events = s.events := by
  unfold offerMedia
  split
  · exact sendMedia_events o s
  · rfl

@[simp] theorem levels_attachNew (n : Node) (i : Fin 16) (s : State) : (attachNew n i s).events.levels = s.events.levels := by
  simp [attachNew, createLine]

@[simp] theorem levels_grantPages (n : Node) (s : State) : (grantPages n s).events.levels = s.events.levels := by
  unfold grantPages
  split <;> simp

@[simp] theorem levels_retryList (ws : List Waiter) (s : State) : (retryList ws s).events.levels = s.events.levels := by
  induction ws generalizing s with
  | nil => rfl
  | cons w ws ih =>
    unfold retryList
    split
    · simp [ih, levels_demandAlloc ‹_›]
    · rfl

@[simp] theorem levels_retryWaiting (s : State) : (retryWaiting s).events.levels = s.events.levels := levels_retryList ..

@[simp] theorem levels_pagesJoin (k : Nat) (s : State) : (pagesJoin k s).events.levels = s.events.levels := by simp [pagesJoin]

@[simp] theorem levels_detach (n : Node) (s : State) : (detach n s).events.levels = s.events.levels := by
  unfold detach
  split
  · rfl
  · split
    · dsimp only
      split
      · rfl
      · split <;> simp
    · rfl

@[simp] theorem enterStatus_events (n : Node) (s : State) : (enterStatus n s).events = s.events := by
  unfold enterStatus
  dsimp only
  split <;> rfl

@[simp] theorem closeFailed_events (n : Node) (s : State) : (closeFailed n s).events = s.events := by
  unfold closeFailed
  dsimp only
  split <;> simp

@[simp] theorem readFails_events (n : Node) (x : Sense) (s : State) : (readFails n x s).events = s.events := by
  unfold readFails
  dsimp only
  split
  · split <;> simp
  · rfl

@[simp] theorem levels_failRead (n : Node) (x : Sense) (s : State) : (failRead n x s).events.levels = s.events.levels := by
  simp [failRead]

@[simp] theorem levels_allocateFor (n : Node) (i : Fin 16) (s : State) : (allocateFor n i s).events.levels = s.events.levels := by
  unfold allocateFor
  split
  · simp [levels_demandAlloc ‹_›]
  · simp
  · simp

@[simp] theorem levels_grantList (ws : List Waiter) (s : State) : (grantList ws s).events.levels = s.events.levels := by
  induction ws generalizing s with
  | nil => rfl
  | cons w ws ih =>
    unfold grantList
    split <;> simp [ih]

@[simp] theorem dropWaits_events (n : Node) (s : State) : (dropWaits n s).events = s.events := by
  unfold dropWaits
  dsimp only
  split <;> rfl

@[simp] theorem levels_leaveLists (n : Node) (s : State) : (leaveLists n s).events.levels = s.events.levels := by
  unfold leaveLists
  split <;> simp [grantSlots]

@[simp] theorem levels_discardUnit (n : Node) (s : State) : (discardUnit n s).events.levels = s.events.levels := by
  unfold discardUnit
  split <;> simp

@[simp] theorem levels_clearContext (n : Node) (s : State) : (clearContext n s).events.levels = s.events.levels := by
  simp [clearContext, cancelEntries, letGo]

end Sys2Proof.Machine

/-! # What the lines and the executor leave alone -/

namespace Sys2Proof.Machine

open Sys2Proof

/-! ## Operations that change no output and no execution -/

/-- What a change of view, a marker and an event leave alone: the timebase, the plans, the levels of the sources, and of every
node the execution and the outputs. -/
structure Steady (s t : State) : Prop where
  timebase : t.timebase = s.timebase
  plans : t.plans = s.plans
  levels : t.events.levels = s.events.levels
  exec : ∀ n, (t.node n).exec = (s.node n).exec
  outputs : ∀ n, (t.node n).lines.outputs = (s.node n).lines.outputs

theorem Steady.refl (s : State) : Steady s s := ⟨rfl, rfl, rfl, fun _ => rfl, fun _ => rfl⟩

theorem Steady.trans {s t u : State} (h : Steady s t) (k : Steady t u) : Steady s u :=
  ⟨k.timebase.trans h.timebase, k.plans.trans h.plans, k.levels.trans h.levels, fun n => (k.exec n).trans (h.exec n),
    fun n => (k.outputs n).trans (h.outputs n)⟩

theorem Steady.output {s t : State} (h : Steady s t) (n : Node) (o : Output) : t.output n o = s.output n o :=
  congrArg (fun v : Vector OutLine 4 => v[outIdx o]) (h.outputs n)

theorem Steady.planSteps {s t : State} (h : Steady s t) (k : Fin 16) : t.planSteps k = s.planSteps k := by
  rw [State.planSteps, h.plans]
  rfl

/-- The operations of the blocks below the lines leave it alone. -/
theorem steady_of_still {s t : State} (h : t.still = s.still) (hl : t.events.levels = s.events.levels) : Steady s t :=
  have hsame := undisturbed_of_still h
  ⟨congrArg (·.timebase) h, hsame.plans, hl, hsame.exec, fun n => congrArg LineUnit.outputs (hsame.lines n)⟩

variable {s0 s : State}

theorem steady_updRx (h : Steady s0 s) (n : Node) (f : Receiver → Receiver) : Steady s0 (s.updRx n f) :=
  h.trans ⟨rfl, rfl, rfl, fun _ => by simp, fun _ => by simp⟩

theorem steady_updPort (h : Steady s0 s) (n : Node) (f : Port → Port) : Steady s0 (s.updPort n f) :=
  h.trans ⟨rfl, rfl, rfl, fun _ => by simp, fun _ => by simp⟩

theorem steady_updLines (h : Steady s0 s) (n : Node) (f : LineUnit → LineUnit) (hf : ∀ u, (f u).outputs = u.outputs) :
    Steady s0 (s.updLines n f) :=
  h.trans ⟨rfl, rfl, rfl, fun _ => by simp, fun m => by
    rw [updLines_node]
    split
    · subst_vars; exact hf _
    · rfl⟩

theorem steady_latch (h : Steady s0 s) (src : Source) (d : Nat) : Steady s0 (latch src d s) :=
  h.trans (steady_of_still (still_latch ..) (levels_latch ..))

theorem steady_appendRec (h : Steady s0 s) (n : Node) (ts : Word32) (b : RecBody) : Steady s0 (appendRec n ts b s) :=
  h.trans (steady_of_still (still_appendRec ..) (levels_appendRec ..))

theorem steady_closeOpen (h : Steady s0 s) (n : Node) (f : RecFlags) : Steady s0 (closeOpen n f s) := by
  unfold closeOpen
  split
  · exact h
  · exact steady_appendRec (steady_updRx h _ _) ..

theorem steady_appendMarker (h : Steady s0 s) (n : Node) (code detail : Nat) : Steady s0 (appendMarker n code detail s) :=
  steady_appendRec (steady_closeOpen h n _) ..

theorem steady_clearContext (h : Steady s0 s) (n : Node) : Steady s0 (clearContext n s) :=
  h.trans (steady_of_still (still_clearContext ..) (levels_clearContext ..))

theorem steady_portChange (h : Steady s0 s) (n : Node) (c : PortCause) : Steady s0 (portChange n c s) := steady_latch h ..

theorem steady_disconnect (h : Steady s0 s) (n : Node) : Steady s0 (disconnect n s) :=
  steady_portChange (steady_updPort (steady_clearContext (steady_updPort h _ _) n) _ _) ..

theorem steady_startConnect (h : Steady s0 s) (n : Node) : Steady s0 (startConnect n s) := by
  unfold startConnect
  split
  · exact steady_portChange (steady_updPort h _ _) ..
  · exact steady_updPort h _ _

theorem steady_connectTest (h : Steady s0 s) (n : Node) : Steady s0 (connectTest n s) := by
  unfold connectTest
  dsimp only
  split
  · split
    · exact h
    · exact steady_disconnect h n
  · split
    · split
      · exact h
      · exact steady_updPort h _ _
    · split
      · exact steady_startConnect h n
      · exact steady_updPort h _ _

theorem steady_viewMarker (h : Steady s0 s) (n : Node) (old new : View) : Steady s0 (viewMarker n old new s) := by
  unfold viewMarker
  split
  · exact steady_appendMarker h ..
  · split
    · exact steady_appendMarker h ..
    · exact h

theorem steady_goDark (h : Steady s0 s) (n : Node) : Steady s0 (goDark n s) :=
  h.trans ⟨rfl, rfl, rfl,
    fun m => by rw [goDark, updNode_node]; split <;> simp_all, fun m => by rw [goDark, updNode_node]; split <;> simp_all⟩

theorem steady_deliverView (h : Steady s0 s) (n : Node) (old new : View) : Steady s0 (deliverView n old new s) := by
  have hmarker := steady_viewMarker h n old new
  unfold deliverView
  dsimp only
  refine steady_latch (steady_connectTest ?_ n) ..
  split
  · exact steady_goDark hmarker n
  · exact hmarker

theorem steady_recomputeView (h : Steady s0 s) (n : Node) : Steady s0 (recomputeView n s) := by
  unfold recomputeView
  dsimp only
  split
  · exact h
  · refine steady_deliverView (steady_updLines h n _ ?_) ..
    intro u
    rfl

theorem steady_cutChanged (h : Steady s0 s) (n : Node) (active : Bool) : Steady s0 (cutChanged n active s) := by
  unfold cutChanged
  refine steady_updLines (steady_recomputeView h n) n _ ?_
  intro u
  split <;> rfl

end Sys2Proof.Machine

/-! # Starts and ends of executions -/

namespace Sys2Proof.Machine

open Sys2Proof

/-! ## The outputs -/

/-- What an action on a node's outputs leaves alone: the timebase, the plans, the levels of the sources and the executions. -/
structure Sustains (s t : State) : Prop where
  timebase : t.timebase = s.timebase
  plans : t.plans = s.plans
  levels : t.events.levels = s.events.levels
  exec : ∀ n, (t.node n).exec = (s.node n).exec

theorem Sustains.refl (s : State) : Sustains s s := ⟨rfl, rfl, rfl, fun _ => rfl⟩

theorem Sustains.trans {s t u : State} (h : Sustains s t) (k : Sustains t u) : Sustains s u :=
  ⟨k.timebase.trans h.timebase, k.plans.trans h.plans, k.levels.trans h.levels, fun n => (k.exec n).trans (h.exec n)⟩

theorem Steady.sustains {s t : State} (h : Steady s t) : Sustains s t := ⟨h.timebase, h.plans, h.levels, h.exec⟩

theorem allOutputs_outIdx (o : Output) : allOutputs[(outIdx o : Nat)]? = some o := by cases o <;> rfl

theorem outIdx_injective {o o' : Output} (h : outIdx o = outIdx o') : o = o' := by
  have hsome : some o = some o' := by rw [← allOutputs_outIdx o, ← allOutputs_outIdx o', h]
  exact Option.some.inj hsome

theorem updOutput_output (s : State) (n : Node) (o o' : Output) (f : OutLine → OutLine) :
    (s.updOutput n o f).output n o' = if o = o' then f (s.output n o) else s.output n o' := by
  have hlines : ((s.updOutput n o f).node n).lines.outputs = (s.node n).lines.outputs.set (outIdx o) (f (s.output n o)) := by
    rw [State.updOutput, updLines_node_self]
    rfl
  rw [State.output, hlines]
  split
  · subst_vars
    simp
  · rename_i h
    have hne : (outIdx o : Nat) ≠ outIdx o' := fun e => h (outIdx_injective (Fin.ext e))
    simp [State.output, hne]

section

variable (n : Node) (o : Output) (active : Bool) (pulse : Option Pulse) (s : State)

/-- What follows from a line's new level is steady (R83, R87). -/
theorem steady_driveLine :
    Steady (s.updOutput n o fun l => { l with active := active, pulse := pulse }) (driveLine n o active pulse s) := by
  unfold driveLine
  dsimp only
  split
  · exact steady_cutChanged (.refl _) n active
  · exact .refl _

theorem sustains_updOutput (f : OutLine → OutLine) : Sustains s (s.updOutput n o f) := ⟨rfl, rfl, rfl, fun _ => by simp⟩

theorem sustains_driveLine : Sustains s (driveLine n o active pulse s) :=
  (sustains_updOutput n o s _).trans (steady_driveLine n o active pulse s).sustains

/-- A line that is driven takes its level and its pulse, and no other output changes (R83). -/
theorem driveLine_output (o' : Output) : (driveLine n o active pulse s).output n o' =
    if o = o' then { s.output n o with active := active, pulse := pulse } else s.output n o' := by
  rw [(steady_driveLine n o active pulse s).output, updOutput_output]

end

/-- An output that has been released (R83). -/
def OutLine.released (l : OutLine) : OutLine := { l with active := false, pulse := none }

/-- One output of a release of touched lines (R113). -/
def releaseOne (n : Node) (touched : Vector Bool 4) (t : State) (o : Output) : State :=
  if touched[outIdx o] ∧ ((t.output n o).active ∨ (t.output n o).pulse.isSome) then releaseLine n o t else t

theorem sustains_releaseOne (n : Node) (touched : Vector Bool 4) (t : State) (o : Output) : Sustains t (releaseOne n touched t o) := by
  unfold releaseOne
  split
  · exact sustains_driveLine ..
  · exact .refl t

/-- A touched line is released, also where there is nothing to release. -/
theorem releaseOne_output (n : Node) (touched : Vector Bool 4) (t : State) (o o' : Output) : (releaseOne n touched t o).output n o' =
    if o = o' ∧ touched[outIdx o'] = true then (t.output n o').released else t.output n o' := by
  unfold releaseOne
  split
  · rename_i h
    rw [releaseLine, driveLine_output]
    split
    · subst_vars
      rw [if_pos ⟨rfl, h.1⟩]
      rfl
    · rename_i hne
      rw [if_neg fun e => hne e.1]
  · rename_i h
    split
    · rename_i e
      obtain ⟨rfl, ht⟩ := e
      have hidle : ¬((t.output n o).active = true ∨ (t.output n o).pulse.isSome = true) := fun e => h ⟨ht, e⟩
      obtain ⟨ha, hp⟩ := not_or.1 hidle
      rw [Bool.not_eq_true] at ha
      rw [Bool.not_eq_true, Option.isSome_eq_false_iff, Option.isNone_iff_eq_none] at hp
      rw [OutLine.released, ← ha, ← hp]
    · rfl

theorem sustains_releaseTouched (n : Node) (touched : Vector Bool 4) (s : State) : Sustains s (releaseTouched n touched s) :=
  foldl_keeps (f := releaseOne n touched) (P := Sustains s) (fun t o ht => ht.trans (sustains_releaseOne n touched t o)) allOutputs (.refl s)

/-- The touched lines are released, and no other output changes (R113). -/
theorem releaseTouched_output (n : Node) (touched : Vector Bool 4) (s : State) (o : Output) : (releaseTouched n touched s).output n o =
    if touched[outIdx o] = true then (s.output n o).released else s.output n o := by
  change (allOutputs.foldl (releaseOne n touched) s).output n o = _
  simp only [allOutputs, List.foldl_cons, List.foldl_nil, releaseOne_output]
  cases o <;> simp

/-! ## The end of an execution -/

section

variable {s : State} {n : Node} {r : Run} (hr : (s.node n).exec.run = some r) (result : PlanResult) (step : Nat)

/-- The state of an ending before its marker (R113): the node leaves the inrush waiting list, and its touched lines are released. -/
def endingState (n : Node) (result : PlanResult) (r : Run) (s : State) : State :=
  let t := s.updArbiter fun a => { a with waiting := a.waiting.filter fun w => decide (w.node ≠ n) }
  if result = .ok then t else releaseTouched n r.touched t

theorem sustains_updArbiter (s : State) (f : Arbiter → Arbiter) : Sustains s (s.updArbiter f) := ⟨rfl, rfl, rfl, fun _ => rfl⟩

theorem sustains_endingState : Sustains s (endingState n result r s) := by
  unfold endingState
  dsimp only
  split
  · exact sustains_updArbiter s _
  · exact (sustains_updArbiter s _).trans (sustains_releaseTouched ..)

theorem endingState_output (o : Output) : (endingState n result r s).output n o =
    if result ≠ .ok ∧ r.touched[outIdx o] = true then (s.output n o).released else s.output n o := by
  unfold endingState
  dsimp only
  split
  · rename_i h
    rw [if_neg fun e => e.1 h]
    rfl
  · rename_i h
    rw [releaseTouched_output]
    simp only [ne_eq, h, not_false_eq_true, true_and]
    rfl

/-- The marker and the event of an ending are steady. -/
theorem steady_endExec_before (s : State) (n : Node) (r : Run) (result : PlanResult) (step : Nat) : Steady (endingState n result r s)
    (latch (.node n .planEnd) (result.num + 256 * r.plan + 4096 * step) (appendMarker n 4 result.num (endingState n result r s))) :=
  steady_latch (steady_appendMarker (.refl _) ..) ..

include hr

theorem endExec_eq : endExec n result step s =
    (latch (.node n .planEnd) (result.num + 256 * r.plan + 4096 * step)
      (appendMarker n 4 result.num (endingState n result r s))).updExec n fun _ =>
        { run := none, last := some { result := result, plan := r.plan, step := step, time := s.timebase } } := by
  simp only [endExec, hr]
  rfl

theorem endExec_exec : ((endExec n result step s).node n).exec =
    { run := none, last := some { result := result, plan := r.plan, step := step, time := s.timebase } } := by
  rw [endExec_eq hr, updExec_node_self]

theorem endExec_planSteps (k : Fin 16) : (endExec n result step s).planSteps k = s.planSteps k := by
  rw [State.planSteps, endExec_eq hr, updExec_plans, (steady_endExec_before s n r result step).plans, (sustains_endingState result).plans]
  rfl

/-- An execution that ends otherwise than OK releases the lines it touched (R113). -/
theorem endExec_output (o : Output) : (endExec n result step s).output n o =
    if result ≠ .ok ∧ r.touched[outIdx o] = true then (s.output n o).released else s.output n o := by
  rw [← endingState_output, ← (steady_endExec_before s n r result step).output, endExec_eq hr, State.output, updExec_lines]
  rfl

/-- The end of an execution is latched with its result, plan and step (R113). -/
theorem endExec_detail (hl : s.events.recs[(Source.node n .planEnd).id].level ≠ 0) :
    (endExec n result step s).events.recs[(Source.node n .planEnd).id].lastDetail = result.num + 256 * r.plan + 4096 * step := by
  have hlevel : (appendMarker n 4 result.num (endingState n result r s)).events.recs[(Source.node n .planEnd).id].level ≠ 0 := by
    rw [level_of_levels ((levels_appendMarker ..).trans (sustains_endingState result).levels)]
    exact hl
  rw [endExec_eq hr, updExec_events, latch_recs, latched_self _ _ _ hlevel]
  rfl

end

end Sys2Proof.Machine

/-! # PLAN_START and PLAN_ABORT -/

namespace Sys2Proof.Machine

open Sys2Proof

/-! ## A run of steps -/

section

variable {s : State} {n : Node} {r : Run} (hr : (s.node n).exec.run = some r) (hb : r.started < 64) {idx : Nat} {st : PlanStep}
  (hst : (s.planSteps r.plan)[idx]? = some st)

/-- The execution as a step begins (R98). -/
def Run.begins (r : Run) (idx : Nat) (now : Word32) : Run :=
  { r with state := .runningStep, step := idx, stepStart := now, started := r.started + 1 }

include hr hb hst

/-- A step that begins is carried out, and the run goes on or waits (R98 to R100). -/
theorem runFrom_waits (k : Nat) {t : State}
    (hdo : doStep n st.kind (s.updRun n fun r => r.begins idx s.timebase) = (.waits, t)) : runFrom (k + 1) n idx s = t := by
  have hbudget : ¬Config.stepBudget ≤ r.started := not_le.2 hb
  simp only [Run.begins] at hdo
  simp only [runFrom, hr, if_neg hbudget, hst, hdo]

/-- A run ends with its last step (R99). -/
theorem runFrom_last (k : Nat) {t : State} (hlast : (s.planSteps r.plan).length = idx + 1)
    (hdo : doStep n st.kind (s.updRun n fun r => r.begins idx s.timebase) = (.completes, t)) :
    runFrom (k + 1) n idx s = endExec n .ok idx t := by
  have hbudget : ¬Config.stepBudget ≤ r.started := not_le.2 hb
  simp only [Run.begins] at hdo
  simp only [runFrom, hr, if_neg hbudget, hst, hdo, hlast, lt_irrefl, if_false]

/-- A DELAY waits from the moment it begins (R101, R107). -/
theorem runFrom_delay (k : Nat) {ms : Nat} (hk : st.kind = .delay ms) (hms : 0 < ms) : runFrom (k + 1) n idx s =
    s.updExec n fun e =>
      { e with run := some { r with state := .delaying, step := idx, stepStart := s.timebase, started := r.started + 1 } } := by
  have hdo : doStep n st.kind (s.updRun n fun r => r.begins idx s.timebase) =
      (.waits, enterState n .delaying (s.updRun n fun r => r.begins idx s.timebase)) := by
    rw [hk, doStep, if_neg (by omega)]
  rw [runFrom_waits hr hb hst k hdo]
  have hrun : s.nodes[n].exec.run = some r := hr
  simp only [enterState, State.updRun, State.updExec, State.updNode, Fin.getElem_fin, Vector.getElem_set_self, Vector.set_set]
  rw [Fin.getElem_fin] at hrun
  simp [hrun, Run.begins]

/-- A SET_LINE that is the last step drives its line and ends the execution (R99, R102). -/
theorem runFrom_setLine (k : Nat) {o : Output} {a : Bool} (hk : st.kind = .setLine o a)
    (hlast : (s.planSteps r.plan).length = idx + 1) :
    ((runFrom (k + 1) n idx s).node n).exec = { run := none, last := some { result := .ok, plan := r.plan, step := idx, time := s.timebase } } ∧
      (runFrom (k + 1) n idx s).output n o = { s.output n o with active := a, pulse := none } := by
  let t := s.updRun n fun r => r.begins idx s.timebase
  have hdo : doStep n st.kind t = (.completes, touch n o (setLine n o a t)) := by rw [hk, doStep]
  have hsets := sustains_driveLine n o a none t
  have hrun : ((touch n o (setLine n o a t)).node n).exec.run =
      some { r.begins idx s.timebase with touched := r.touched.set (outIdx o) true } := by
    have hbegun : (t.node n).exec.run = some (r.begins idx s.timebase) := by simp [t, State.updRun, hr]
    rw [touch, State.updRun, updExec_node_self, setLine, hsets.exec n, hbegun]
    rfl
  rw [runFrom_last hr hb hst k hlast hdo]
  refine ⟨?_, ?_⟩
  · rw [endExec_exec hrun]
    have htime : (touch n o (setLine n o a t)).timebase = s.timebase := hsets.timebase
    rw [htime]
    rfl
  · rw [endExec_output hrun, if_neg fun e => e.1 rfl, State.output, touch, State.updRun, updExec_lines]
    refine (driveLine_output n o a none t o).trans ?_
    have hout : t.output n o = s.output n o := congrArg (fun u : LineUnit => u.outputs[outIdx o]) (updExec_lines s n n _)
    rw [if_pos rfl, hout]

end

/-! ## The start of an execution -/

/-- The execution as it starts (R112). -/
def Run.fresh (plan : Fin 16) (priority : Nat) (now : Word32) : Run :=
  { state := .runningStep, plan := plan, priority := priority, origin := .host, step := 0, stepStart := now, started := 0,
    touched := Vector.replicate 4 false }

theorem fresh_started (plan : Fin 16) (priority : Nat) (now : Word32) : (Run.fresh plan priority now).started < 64 := Nat.succ_pos 63

/-- The state of a start before its first step (R112): the marker is appended. -/
def startingState (n : Node) (plan : Fin 16) (priority : Nat) (s : State) : State :=
  appendMarker n 3 plan (s.updExec n fun e => { e with run := some (Run.fresh plan priority s.timebase) })

theorem startExec_eq (n : Node) (plan : Fin 16) (priority : Nat) (s : State) :
    startExec n plan priority .host s = runFrom (64 + 1) n 0 (startingState n plan priority s) := rfl

theorem steady_startingState (n : Node) (plan : Fin 16) (priority : Nat) (s : State) :
    Steady (s.updExec n fun e => { e with run := some (Run.fresh plan priority s.timebase) }) (startingState n plan priority s) :=
  steady_appendMarker (.refl _) ..

section

variable (n : Node) (plan : Fin 16) (priority : Nat) (s : State)

theorem startingState_exec : ((startingState n plan priority s).node n).exec =
    { (s.node n).exec with run := some (Run.fresh plan priority s.timebase) } := by
  rw [(steady_startingState n plan priority s).exec, updExec_node_self]

theorem startingState_timebase : (startingState n plan priority s).timebase = s.timebase :=
  (steady_startingState n plan priority s).timebase

theorem startingState_last : ((startingState n plan priority s).node n).hist.current.getLast? =
    some { seq := ((startingState n plan priority s).node n).hist.next - 1, timestamp := s.timebase, body := .marker 3 plan } := by
  rw [startingState, appendMarker_last, updExec_timebase]

theorem startingState_planSteps (k : Fin 16) : (startingState n plan priority s).planSteps k = s.planSteps k :=
  (steady_startingState n plan priority s).planSteps k

theorem startingState_output (o : Output) : (startingState n plan priority s).output n o = s.output n o := by
  rw [(steady_startingState n plan priority s).output, State.output, updExec_lines]
  rfl

end

variable {s : State} {n : Node} {plan : Fin 16} {priority : Nat} {st : PlanStep}

/-- A plan that begins with a DELAY waits in it (R107, R112). -/
theorem startExec_delay {ms : Nat} (hst : (s.planSteps plan)[0]? = some st) (hk : st.kind = .delay ms) (hms : 0 < ms) :
    startExec n plan priority .host s = (startingState n plan priority s).updExec n fun e =>
      { e with run := some { Run.fresh plan priority s.timebase with state := .delaying, started := 1 } } := by
  have hrun : ((startingState n plan priority s).node n).exec.run = some (Run.fresh plan priority s.timebase) := by
    rw [startingState_exec]
  have hstep : ((startingState n plan priority s).planSteps plan)[0]? = some st := by rw [startingState_planSteps]; exact hst
  rw [startExec_eq, runFrom_delay hrun (fresh_started ..) hstep 64 hk hms, startingState_timebase]
  rfl

/-- What a start leaves that waits in a DELAY: the execution, the ending before it, the marker, and the outputs as they were. -/
theorem startExec_delay_leaves {ms : Nat} (hst : (s.planSteps plan)[0]? = some st) (hk : st.kind = .delay ms) (hms : 0 < ms) :
    ((startExec n plan priority .host s).node n).exec =
        { (s.node n).exec with run := some { Run.fresh plan priority s.timebase with state := .delaying, started := 1 } } ∧
      ((startExec n plan priority .host s).node n).hist.current.getLast? =
        some { seq := ((startExec n plan priority .host s).node n).hist.next - 1, timestamp := s.timebase, body := .marker 3 plan } ∧
      ∀ o, (startExec n plan priority .host s).output n o = s.output n o := by
  rw [startExec_delay hst hk hms]
  refine ⟨?_, ?_, fun o => ?_⟩
  · rw [updExec_node_self, startingState_exec]
  · rw [updExec_hist, startingState_last]
  · rw [← startingState_output n plan priority s o, State.output, updExec_lines]
    rfl

/-- A plan of one SET_LINE drives the line and ends (R99, R102). -/
theorem startExec_setLine {o : Output} {a : Bool} (hst : s.planSteps plan = [st]) (hk : st.kind = .setLine o a) :
    ((startExec n plan priority .host s).node n).exec =
        { run := none, last := some { result := .ok, plan := plan, step := 0, time := s.timebase } } ∧
      (startExec n plan priority .host s).output n o = { s.output n o with active := a, pulse := none } := by
  have hrun : ((startingState n plan priority s).node n).exec.run = some (Run.fresh plan priority s.timebase) := by
    rw [startingState_exec]
  have hsteps : (startingState n plan priority s).planSteps plan = [st] := (startingState_planSteps ..).trans hst
  have hfirst : ((startingState n plan priority s).planSteps plan)[0]? = some st := congrArg (·[0]?) hsteps
  have hleaves := runFrom_setLine hrun (fresh_started ..) hfirst 64 hk (congrArg List.length hsteps)
  rw [startingState_timebase, startingState_output] at hleaves
  rw [startExec_eq]
  exact hleaves

/-! ## The requests -/

theorem indexOf_byte (k : Fin 16) : indexOf 16 (BitVec.ofNat 8 k).toNat = some k := by
  have hk : (BitVec.ofNat 8 k).toNat = k := by simp; omega
  rw [hk, indexOf, dif_pos k.isLt]

section

variable {s : State} (n : Node) (k : Fin 16)

/-- PLAN_START answers as the offer of the start comes out (R110). -/
theorem planStartRequest_refused {st : Status} (h : offerStart n k .host s = .refused st) :
    planStartRequest [BitVec.ofNat 8 n, BitVec.ofNat 8 k] s = refused st s := by
  have hn : nodeOf (u8 [BitVec.ofNat 8 n, BitVec.ofNat 8 k] 0) = some n := nodeOf_byte n
  have hk : indexOf 16 (u8 [BitVec.ofNat 8 n, BitVec.ofNat 8 k] 1) = some k := indexOf_byte k
  simp only [planStartRequest, hn, hk, h]

theorem planStartRequest_started {t : State} {pre : Option (Fin 16)} (h : offerStart n k .host s = .started t pre) :
    planStartRequest [BitVec.ofNat 8 n, BitVec.ofNat 8 k] s = accepted false (planStartFields t n k pre) t := by
  have hn : nodeOf (u8 [BitVec.ofNat 8 n, BitVec.ofNat 8 k] 0) = some n := nodeOf_byte n
  have hk : indexOf 16 (u8 [BitVec.ofNat 8 n, BitVec.ofNat 8 k] 1) = some k := indexOf_byte k
  simp only [planStartRequest, hn, hk, h]

theorem exec_planStart_refused (h : Ready s) (tag : Byte) {st : Status} (ho : offerStart n k .host (heard s) = .refused st) :
    exec (.planStart tag [BitVec.ofNat 8 n, BitVec.ofNat 8 k]) s = .next ((heard s).enqueueReply 0x29 tag (Reply.refuse st)) := by
  have hrun := live_request (k := 0x29) tag h (by decide) (p := [BitVec.ofNat 8 n, BitVec.ofNat 8 k]) (by simp) rfl
  refine hrun.trans ?_
  rw [show runRequest (0x29 : Byte).toNat tag [BitVec.ofNat 8 n, BitVec.ofNat 8 k] (heard s) =
      planStartRequest [BitVec.ofNat 8 n, BitVec.ofNat 8 k] (heard s) from rfl, planStartRequest_refused n k ho, replyTo_refused]

theorem exec_planStart_started (h : Ready s) (tag : Byte) {t : State} {pre : Option (Fin 16)}
    (ho : offerStart n k .host (heard s) = .started t pre) : exec (.planStart tag [BitVec.ofNat 8 n, BitVec.ofNat 8 k]) s =
      .next (t.enqueueReply 0x29 tag (Reply.okay false (planStartFields t n k pre))) := by
  have hrun := live_request (k := 0x29) tag h (by decide) (p := [BitVec.ofNat 8 n, BitVec.ofNat 8 k]) (by simp) rfl
  refine hrun.trans ?_
  rw [show runRequest (0x29 : Byte).toNat tag [BitVec.ofNat 8 n, BitVec.ofNat 8 k] (heard s) =
      planStartRequest [BitVec.ofNat 8 n, BitVec.ofNat 8 k] (heard s) from rfl, planStartRequest_started n k ho, replyTo_accepted]

/-- An empty plan does not start (R110). -/
theorem offerStart_empty (h : s.plans[k] = none) : offerStart n k .host s = .refused .badArg := by
  simp only [offerStart, h]

variable {n k} {pl : Plan} (hpl : s.plans[k] = some pl)
include hpl

theorem planSteps_of_some : s.planSteps k = pl.steps := by simp only [State.planSteps, hpl]

/-- No plan starts during a host pulse (R110). -/
theorem offerStart_pulse (h : s.hostPulse n = true) : offerStart n k .host s = .refused .busy := by
  simp only [offerStart, hpl, if_pos h]

/-- A plan starts on an IDLE executor (R110). -/
theorem offerStart_idle (h : s.hostPulse n = false) (hr : (s.node n).exec.run = none) :
    offerStart n k .host s = .started (startExec n k pl.priority .host s) none := by
  simp only [offerStart, hpl, h, Bool.false_eq_true, if_false, hr]

/-- An execution of no lower priority goes on (R111). -/
theorem offerStart_busy {r : Run} (hr : (s.node n).exec.run = some r) (hp : pl.priority ≤ r.priority) :
    offerStart n k .host s = .refused .busy := by
  simp only [offerStart, hpl, hr, if_neg (not_lt.2 hp), ite_self]

/-- A plan preempts an execution of lower priority (R111). -/
theorem offerStart_preempts {r : Run} (h : s.hostPulse n = false) (hr : (s.node n).exec.run = some r) (hp : r.priority < pl.priority) :
    offerStart n k .host s = .started (startExec n k pl.priority .host (endExec n .preempted r.step s)) (some r.plan) := by
  simp only [offerStart, hpl, h, Bool.false_eq_true, if_false, hr, if_pos hp]

end

/-- PLAN_ABORT reports the last ending (R114). -/
theorem exec_planAbort {s : State} (h : Ready s) (tag : Byte) (n : Node) : exec (.planAbort tag [BitVec.ofNat 8 n]) s =
    .next ((abortOp n (heard s)).enqueueReply 0x2A tag
      (Reply.okay false (endingFields ((abortOp n (heard s)).node n).exec.last))) := by
  have hn : nodeOf (u8 [BitVec.ofNat 8 n] 0) = some n := nodeOf_byte n
  have hrun := live_request (k := 0x2A) tag h (by decide) (p := [BitVec.ofNat 8 n]) (by simp) rfl
  refine hrun.trans ?_
  rw [show runRequest (0x2A : Byte).toNat tag [BitVec.ofNat 8 n] (heard s) = planAbortRequest [BitVec.ofNat 8 n] (heard s) from rfl]
  simp only [planAbortRequest, hn, replyTo_accepted]

theorem length_endingFields (e : Option Ending) : (endingFields e).length = 8 := by
  cases e with
  | none => rfl
  | some e => simp [endingFields, byte1]

/-- Settles O46: PLAN_START comes out as the offer of the start does, and what a start or an end leaves follows from the run of its
steps. -/
theorem plansStartAndAbort : Obligations.PlansStartAndAbort := by
  refine ⟨fun s tag n k h => ⟨fun hempty => ?_, fun pl hpl => ⟨fun hpulse => ?_, fun r hr hp => ?_, fun st ms hpulse hr hst hk hms => ?_,
    fun o a limit f hpulse hr ho hsteps => ?_, fun r st ms hpulse hr hp hst hk hms => ?_⟩⟩, fun s tag n h => ⟨fun hr => ?_, fun r hr => ?_⟩⟩
  · exact exec_planStart_refused n k h tag (offerStart_empty (s := heard s) n k hempty)
  · exact exec_planStart_refused n k h tag (offerStart_pulse (s := heard s) hpl hpulse)
  · exact exec_planStart_refused n k h tag (offerStart_busy (s := heard s) hpl hr hp)
  · have hrun := exec_planStart_started n k h tag (offerStart_idle (s := heard s) hpl hpulse hr)
    have hsteps : ((heard s).planSteps k)[0]? = some st := by rw [planSteps_of_some (s := heard s) hpl]; exact hst
    obtain ⟨hexec, hlast, -⟩ := startExec_delay_leaves (n := n) (priority := pl.priority) hsteps hk hms
    generalize startExec n k pl.priority .host (heard s) = t at *
    exact ⟨_, hrun, hexec, hlast⟩
  · have hrun := exec_planStart_started n k h tag (offerStart_idle (s := heard s) hpl hpulse hr)
    obtain ⟨hexec, hout⟩ := startExec_setLine (n := n) (priority := pl.priority) ((planSteps_of_some (s := heard s) hpl).trans hsteps) rfl
    generalize startExec n k pl.priority .host (heard s) = t at *
    exact ⟨_, hrun, hout, hexec⟩
  · have hrun := exec_planStart_started n k h tag (offerStart_preempts (s := heard s) hpl hpulse hr hp)
    have hsteps : ((endExec n .preempted r.step (heard s)).planSteps k)[0]? = some st := by
      rw [endExec_planSteps (s := heard s) hr, planSteps_of_some (s := heard s) hpl]
      exact hst
    have hended := endExec_exec (s := heard s) hr .preempted r.step
    have houts := endExec_output (s := heard s) hr .preempted r.step
    obtain ⟨hexec, -, hsame⟩ := startExec_delay_leaves (n := n) (priority := pl.priority) hsteps hk hms
    generalize endExec n .preempted r.step (heard s) = u at *
    generalize startExec n k pl.priority .host u = t at *
    refine ⟨_, hrun, ⟨_, congrArg Executor.run hexec, rfl, rfl⟩, ?_, fun o ho => ?_⟩
    · exact (congrArg Executor.last hexec).trans (congrArg Executor.last hended)
    · have hout : t.output n o = (s.output n o).released := (hsame o).trans ((houts o).trans (if_pos ⟨by decide, ho⟩))
      exact ⟨congrArg OutLine.active hout, congrArg OutLine.pulse hout⟩
  · have hsame : abortOp n (heard s) = heard s := by simp only [abortOp, heard_node, hr]
    have hrun := exec_planAbort h tag n
    rw [hsame] at hrun
    exact ⟨_, length_endingFields _, hrun⟩
  · have hends : abortOp n (heard s) = endExec n .aborted r.step (heard s) := by simp only [abortOp, heard_node, hr]
    have hrun := exec_planAbort h tag n
    have hexec := endExec_exec (s := heard s) hr .aborted r.step
    have houts := endExec_output (s := heard s) hr .aborted r.step
    have hdetail := endExec_detail (s := heard s) hr .aborted r.step
    rw [hends, hexec] at hrun
    generalize endExec n .aborted r.step (heard s) = t at *
    refine ⟨_, hrun, hexec, fun o ho => ?_, fun o ho => ?_, hdetail, List.getLast?_concat⟩
    · have hout : t.output n o = (s.output n o).released := (houts o).trans (if_pos ⟨by decide, ho⟩)
      exact ⟨congrArg OutLine.active hout, congrArg OutLine.pulse hout⟩
    · exact (houts o).trans (if_neg fun e => by simp [ho] at e)

end Sys2Proof.Machine

/-! # The account of the pages -/

namespace Sys2Proof.Machine

open Sys2Proof

/-! ## Owners and totals -/

/-- The node whose unit a write-table entry stages (R33, R184). -/
def WriteEntry.holder (e : WriteEntry) : Option Node := e.use.map WriteUse.node

/-- What decides how many pages each owner holds (R22): the free pages, the cache lines, each ring's holding with its reserve, the
nodes with a staging unit being filled or a descriptor set, and the node that each write-table entry stages a unit for. -/
structure Account where
  free : Nat
  lines : Nat
  holding : Node → Nat
  reserve : Node → Nat
  filling : Node → Bool
  desc : Node → Bool
  entries : List (Option Node)

/-- The account of a state's pages. -/
def State.account (s : State) : Account :=
  { free := s.pool.free, lines := s.cache.lines.length,
    holding := fun n => (s.node n).hist.holding, reserve := fun n => (s.node n).hist.reserve,
    filling := fun n => (s.node n).ctx.filling.isSome, desc := fun n => (s.node n).port.desc.isSome,
    entries := s.cache.writes.toList.map WriteEntry.holder }

/-- The staging pages of a node (R33). -/
def Account.staging (a : Account) (n : Node) : Nat := a.entries.count (some n) + (a.filling n).toNat

/-- The pages of every owner together (R22). -/
def Account.total (a : Account) : Nat :=
  a.free + (allNodes.map fun n => a.holding n + a.staging n + (a.desc n).toNat).sum + 8 * a.lines

/-- What a retry of the waiting allocations does not touch: the reserves and the owners of single pages. -/
def Account.owners (a : Account) : (Node → Nat) × (Node → Bool) × (Node → Bool) × List (Option Node) :=
  (a.reserve, a.filling, a.desc, a.entries)

/-- No ring's reserve is zero (R26), so that a ring with a surplus has a page to give up. -/
def Account.Reserved (a : Account) : Prop := ∀ n, 1 ≤ a.reserve n

theorem ofNode_iff_holder (e : WriteEntry) (n : Node) : e.ofNode n = (e.holder == some n) := by
  unfold WriteEntry.ofNode WriteEntry.holder
  cases e.use <;> simp

theorem staging_eq (s : State) (n : Node) : s.stagingPages n = s.account.staging n := by
  simp only [State.stagingPages, Account.staging, State.account, ofNode_iff_holder, List.count, List.countP_map]
  rw [List.countP_eq_length_filter]
  cases (s.node n).ctx.filling <;> rfl

theorem pageSum_eq (s : State) : pageSum s = s.account.total := by
  unfold pageSum Account.total
  simp only [staging_eq]
  simp [State.account, Config.linePages, Bool.toNat, Bool.cond_eq_ite]

/-! ## One owner at a time -/

/-- Sums over the nodes that differ at one node alone. -/
theorem sum_nodes_of_ne {f g : Node → Nat} (n : Node) (h : ∀ m, m ≠ n → f m = g m) :
    (allNodes.map f).sum + g n = (allNodes.map g).sum + f n := by
  have h0 := h 0
  have h1 := h 1
  have h2 := h 2
  have h3 := h 3
  simp only [allNodes, List.map_cons, List.map_nil, List.sum_cons, List.sum_nil]
  fin_cases n <;> simp_all <;> omega

section

variable (a : Account) (n : Node)

theorem total_free (k : Nat) : { a with free := k }.total + a.free = a.total + k := by
  simp only [Account.total, Account.staging]
  omega

theorem total_lines (k : Nat) : { a with lines := k }.total + 8 * a.lines = a.total + 8 * k := by
  simp only [Account.total, Account.staging]
  omega

theorem total_holding (k : Nat) : { a with holding := Function.update a.holding n k }.total + a.holding n = a.total + k := by
  have h := sum_nodes_of_ne (f := fun m => Function.update a.holding n k m + a.staging m + (a.desc m).toNat)
    (g := fun m => a.holding m + a.staging m + (a.desc m).toNat) n (fun m hm => by simp only [Function.update_of_ne hm])
  simp only [Function.update_self] at h
  simp only [Account.total, Account.staging] at h ⊢
  omega

theorem total_filling (b : Bool) : { a with filling := Function.update a.filling n b }.total + (a.filling n).toNat =
    a.total + b.toNat := by
  have h := sum_nodes_of_ne
    (f := fun m => a.holding m + (a.entries.count (some m) + (Function.update a.filling n b m).toNat) + (a.desc m).toNat)
    (g := fun m => a.holding m + (a.entries.count (some m) + (a.filling m).toNat) + (a.desc m).toNat) n
    (fun m hm => by simp only [Function.update_of_ne hm])
  simp only [Function.update_self] at h
  simp only [Account.total, Account.staging]
  omega

theorem total_desc (b : Bool) : { a with desc := Function.update a.desc n b }.total + (a.desc n).toNat = a.total + b.toNat := by
  have h := sum_nodes_of_ne (f := fun m => a.holding m + a.staging m + (Function.update a.desc n b m).toNat)
    (g := fun m => a.holding m + a.staging m + (a.desc m).toNat) n (fun m hm => by simp only [Function.update_of_ne hm])
  simp only [Function.update_self] at h
  simp only [Account.total, Account.staging] at h ⊢
  omega

/-- An entry that stages for a node counts once among the nodes. -/
theorem sum_nodes_entry (x : Option Node) : (allNodes.map fun n => if x = some n then 1 else 0).sum = x.isSome.toNat := by
  rcases x with - | m
  · rfl
  · fin_cases m <;> decide

theorem sum_nodes_add (f g : Node → Nat) : (allNodes.map fun n => f n + g n).sum = (allNodes.map f).sum + (allNodes.map g).sum :=
  List.sum_map_add

theorem total_entries (i : Nat) (hi : i < a.entries.length) (x : Option Node) :
    { a with entries := a.entries.set i x }.total + a.entries[i].isSome.toNat = a.total + x.isSome.toNat := by
  have hcount (m : Node) : (a.entries.set i x).count (some m) + (if a.entries[i] = some m then 1 else 0) =
      a.entries.count (some m) + if x = some m then 1 else 0 := by
    have hpos : a.entries[i] = some m → 0 < a.entries.count (some m) := fun e =>
      List.count_pos_iff.2 (e ▸ List.getElem_mem hi)
    rw [List.count_set hi]
    simp only [beq_iff_eq]
    split <;> split <;> simp_all
  have hsum := congrArg List.sum (List.map_congr_left fun m (_ : m ∈ allNodes) => hcount m)
  rw [sum_nodes_add, sum_nodes_add, sum_nodes_entry, sum_nodes_entry] at hsum
  have hsplit (l : List (Option Node)) : (allNodes.map fun m => a.holding m + (l.count (some m) + (a.filling m).toNat) +
      (a.desc m).toNat).sum = (allNodes.map fun m => l.count (some m)).sum + (allNodes.map fun m => a.holding m + (a.filling m).toNat +
        (a.desc m).toNat).sum := by
    rw [← sum_nodes_add]
    exact congrArg List.sum (List.map_congr_left fun m _ => by omega)
  simp only [Account.total, Account.staging, hsplit]
  omega

end

end Sys2Proof.Machine

/-! # What leaves the account as it is -/

namespace Sys2Proof.Machine

open Sys2Proof

/-! ## The updates -/

/-- The account reads the pool, the lines, the write table and the columns. -/
theorem account_of_eq {s t : State} (hp : t.pool.free = s.pool.free) (hl : t.cache.lines = s.cache.lines)
    (hw : t.cache.writes = s.cache.writes) (hn : t.nodes = s.nodes) : t.account = s.account := by
  have hnode (n : Node) : t.node n = s.node n := congrArg (fun v : Vector NodeState 4 => v[n]) hn
  simp only [State.account, hp, hl, hw, hnode]

theorem account_updNode (s : State) (n : Node) (f : NodeState → NodeState) (hh : (f (s.node n)).hist = (s.node n).hist)
    (hp : (f (s.node n)).port.desc = (s.node n).port.desc) (hc : (f (s.node n)).ctx.filling = (s.node n).ctx.filling) :
    (s.updNode n f).account = s.account := by
  have hnode (m : Node) : ((s.updNode n f).node m).hist = (s.node m).hist ∧
      ((s.updNode n f).node m).port.desc = (s.node m).port.desc ∧ ((s.updNode n f).node m).ctx.filling = (s.node m).ctx.filling := by
    rcases eq_or_ne n m with rfl | hne
    · rw [updNode_node_self]; exact ⟨hh, hp, hc⟩
    · rw [updNode_node_ne s f hne]; exact ⟨rfl, rfl, rfl⟩
  simp only [State.account, hnode]
  rfl

section

variable (s : State) (n : Node)

@[simp] theorem account_updRx (f : Receiver → Receiver) : (s.updRx n f).account = s.account := account_updNode _ _ _ rfl rfl rfl
@[simp] theorem account_updTx (f : Transmitter → Transmitter) : (s.updTx n f).account = s.account := account_updNode _ _ _ rfl rfl rfl
@[simp] theorem account_updLines (f : LineUnit → LineUnit) : (s.updLines n f).account = s.account := account_updNode _ _ _ rfl rfl rfl
@[simp] theorem account_updExec (f : Executor → Executor) : (s.updExec n f).account = s.account := account_updNode _ _ _ rfl rfl rfl
@[simp] theorem account_updDrive (u : Lun) (f : Drive → Drive) : (s.updDrive n u f).account = s.account :=
  account_updNode _ _ _ rfl rfl rfl
@[simp] theorem account_updOutput (o : Output) (f : OutLine → OutLine) : (s.updOutput n o f).account = s.account := account_updLines ..
@[simp] theorem account_updInput (i : Input) (f : InLine → InLine) : (s.updInput n i f).account = s.account := account_updLines ..
@[simp] theorem account_updRun (f : Run → Run) : (s.updRun n f).account = s.account := account_updExec ..
@[simp] theorem account_updPattern (i : Fin 8) (f : Pattern → Pattern) : (s.updPattern n i f).account = s.account :=
  account_updNode _ _ _ rfl rfl rfl
@[simp] theorem account_updCtx (f : Context → Context) (h : ∀ x, (f x).filling = x.filling) : (s.updCtx n f).account = s.account :=
  account_updNode _ _ _ rfl rfl (h _)
@[simp] theorem account_updPort (f : Port → Port) (h : ∀ p, (f p).desc = p.desc) : (s.updPort n f).account = s.account :=
  account_updNode _ _ _ rfl (h _) rfl

@[simp] theorem account_updLink (f : Link → Link) : (s.updLink f).account = s.account :=
  account_of_eq rfl rfl rfl rfl
@[simp] theorem account_updArbiter (f : Arbiter → Arbiter) : (s.updArbiter f).account = s.account :=
  account_of_eq rfl rfl rfl rfl
@[simp] theorem account_updSlot (i : Fin 16) (f : FetchSlot → FetchSlot) : (s.updSlot i f).account = s.account :=
  account_of_eq rfl rfl rfl rfl
@[simp] theorem account_setSlotUse (i : Fin 16) (v : SlotUse) : (s.setSlotUse i v).account = s.account :=
  account_of_eq rfl rfl rfl rfl
@[simp] theorem account_enqueueNotice (k : Byte) (p : List Byte) : (s.enqueueNotice k p).account = s.account :=
  account_of_eq rfl rfl rfl rfl
@[simp] theorem account_enqueueReply (k t : Byte) (r : Reply) : (s.enqueueReply k t r).account = s.account :=
  account_of_eq rfl rfl rfl rfl
@[simp] theorem account_clearDue (t : Timer) : (s.clearDue t).account = s.account :=
  account_of_eq rfl rfl rfl rfl
@[simp] theorem account_withdraw (o : MediaOwner) : (withdraw o s).account = s.account :=
  account_of_eq rfl rfl rfl rfl
@[simp] theorem account_setAnswer (x : UsbAnswer) : (setAnswer n x s).account = s.account := account_updPort _ _ _ fun _ => rfl
@[simp] theorem account_setControl (x : Control) : (setControl n x s).account = s.account := account_updPort _ _ _ fun _ => rfl

theorem account_updPool (f : Pool → Pool) : (s.updPool f).account = { s.account with free := (f s.pool).free } := rfl

@[simp] theorem account_poolWaiting (f : Pool → List Waiter) : (s.updPool fun p => { p with waiting := f p }).account = s.account :=
  account_of_eq rfl rfl rfl rfl

theorem account_updCache (f : Cache → Cache) (h : (f s.cache).writes = s.cache.writes) :
    (s.updCache f).account = { s.account with lines := (f s.cache).lines.length } := by
  simp only [State.account, updCache_cache, h]
  rfl

@[simp] theorem account_updCache_same (f : Cache → Cache) (h : ∀ c, (f c).writes = c.writes)
    (hl : ∀ c, (f c).lines.length = c.lines.length) : (s.updCache f).account = s.account := by
  rw [account_updCache s f (h _), hl]
  rfl

theorem account_updHist (f : History → History) :
    (s.updHist n f).account = { s.account with
      holding := Function.update s.account.holding n (f (s.node n).hist).holding,
      reserve := Function.update s.account.reserve n (f (s.node n).hist).reserve } := by
  have hnode (m : Node) : ((s.updHist n f).node m).hist = if m = n then f (s.node n).hist else (s.node m).hist := by
    rw [updHist_node]
    simp only [eq_comm (a := n)]
    split <;> rfl
  simp only [State.account, hnode, updHist_port, updHist_ctx, updHist_cache, updHist_pool, Account.mk.injEq, true_and, and_true]
  constructor <;> funext m <;> by_cases h : m = n <;> simp [h]

/-- An update that leaves a ring's reserve alone. -/
theorem account_updHist_holding (f : History → History) (h : ∀ x, (f x).reserve = x.reserve) :
    (s.updHist n f).account = { s.account with holding := Function.update s.account.holding n (f (s.node n).hist).holding } := by
  have hr : Function.update s.account.reserve n (f (s.node n).hist).reserve = s.account.reserve := by
    rw [h]; exact Function.update_eq_self ..
  rw [account_updHist, hr]

@[simp] theorem account_updHist_same (f : History → History) (h : ∀ x, (f x).reserve = x.reserve)
    (hh : ∀ x, (f x).filled.length + (f x).spare = x.filled.length + x.spare) : (s.updHist n f).account = s.account := by
  have hholding : (f (s.node n).hist).holding = (s.node n).hist.holding := by
    have := hh (s.node n).hist
    simp only [History.holding]
    omega
  have he : Function.update s.account.holding n (f (s.node n).hist).holding = s.account.holding := by
    rw [hholding]; exact Function.update_eq_self ..
  rw [account_updHist_holding s n f h, he]

theorem account_updCtx_filling (f : Context → Context) : (s.updCtx n f).account =
    { s.account with filling := Function.update s.account.filling n (f (s.node n).ctx).filling.isSome } := by
  have hnode (m : Node) : ((s.updCtx n f).node m).ctx = if m = n then f (s.node n).ctx else (s.node m).ctx := by
    rw [updCtx_node]
    simp only [eq_comm (a := n)]
    split <;> rfl
  simp only [State.account, hnode, updCtx_port, updCtx_hist, updCtx_cache, updCtx_pool, Account.mk.injEq, true_and, and_true]
  funext m
  by_cases h : m = n <;> simp [h]

theorem account_updPort_desc (f : Port → Port) : (s.updPort n f).account =
    { s.account with desc := Function.update s.account.desc n (f (s.node n).port).desc.isSome } := by
  have hnode (m : Node) : ((s.updPort n f).node m).port = if m = n then f (s.node n).port else (s.node m).port := by
    rw [updPort_node]
    simp only [eq_comm (a := n)]
    split <;> rfl
  simp only [State.account, hnode, updPort_ctx, updPort_hist, updPort_cache, updPort_pool, Account.mk.injEq, true_and, and_true]
  funext m
  by_cases h : m = n <;> simp [h]

theorem account_updEntry (i : Fin 32) (f : WriteEntry → WriteEntry) : (s.updEntry i f).account =
    { s.account with entries := s.account.entries.set i (f s.cache.writes[i]).holder } := by
  simp only [State.account, State.updEntry, updCache_cache, Vector.toList_set, List.map_set]
  rfl

theorem entries_getElem (i : Fin 32) (h : (i : Nat) < s.account.entries.length) :
    s.account.entries[(i : Nat)] = s.cache.writes[i].holder := by
  simp [State.account]

theorem entries_length : s.account.entries.length = 32 := by simp [State.account]

@[simp] theorem account_updEntry_same (i : Fin 32) (f : WriteEntry → WriteEntry)
    (h : (f s.cache.writes[i]).holder = s.cache.writes[i].holder) : (s.updEntry i f).account = s.account := by
  have he : s.account.entries.set i (f s.cache.writes[i]).holder = s.account.entries := by
    rw [h, ← entries_getElem s i (by rw [entries_length]; exact i.isLt)]
    exact List.set_getElem_self ..
  rw [account_updEntry, he]

end

@[simp] theorem idle_filling (x : Context) : x.idle.filling = x.filling := by simp [Context.idle]
@[simp] theorem fresh_desc (p : Port) (st : PortState) : (p.fresh st).desc = p.desc := by simp [Port.fresh]
@[simp] theorem cleared_desc (p : Port) : p.cleared.desc = p.desc := by simp [Port.cleared]

@[simp] theorem takeAddress_desc (p : Port) : p.takeAddress.desc = p.desc := by
  unfold Port.takeAddress
  split <;> rfl

/-! ## Notices and events -/

@[simp] theorem account_offerSummary (s : State) : (offerSummary s).account = s.account := by
  unfold offerSummary
  split <;> rfl

@[simp] theorem account_latch (src : Source) (d : Nat) (s : State) : (latch src d s).account = s.account := by
  unfold latch
  dsimp only
  split
  · rfl
  · split
    · rw [account_offerSummary]; rfl
    · rfl

@[simp] theorem account_discardFrame (c : LinkCause) (s : State) : (discardFrame c s).account = s.account := account_latch ..
@[simp] theorem account_mediaError (n : Node) (c : MediaCause) (u : Lun) (s : State) : (mediaError n c u s).account = s.account :=
  account_latch ..
@[simp] theorem account_portChange (n : Node) (c : PortCause) (s : State) : (portChange n c s).account = s.account := account_latch ..
@[simp] theorem account_pressureTrim (s : State) : (pressureTrim s).account = s.account := account_latch ..
@[simp] theorem account_pressureWait (n : Node) (s : State) : (pressureWait n s).account = s.account := account_latch ..
@[simp] theorem account_pressureStage (n : Node) (s : State) : (pressureStage n s).account = s.account := account_latch ..
@[simp] theorem account_staleAnswer (k : Byte) (s : State) : (staleAnswer k s).account = s.account := account_latch ..

@[simp] theorem account_sendMedia (o : MediaOwner) (s : State) : (sendMedia o s).account = s.account := by
  unfold sendMedia
  split
  · split <;> rfl
  · split
    · rename_i w hw
      rw [account_updEntry_same _ _ _ (by rw [enqueueNotice_cache]; simp only [WriteEntry.holder, hw]; rfl), account_enqueueNotice]
    · rfl
  · split <;> simp

@[simp] theorem account_offerMedia (o : MediaOwner) (s : State) : (offerMedia o s).account = s.account := by
  unfold offerMedia
  split <;> simp

@[simp] theorem account_offerWaiting (os : List MediaOwner) (s : State) : (offerWaiting os s).account = s.account := by
  induction os generalizing s with
  | nil => rfl
  | cons o os ih => unfold offerWaiting; split <;> simp [ih]

theorem account_lastServed (s : State) (n : Node) : ({ s with lastServed := n } : State).account = s.account :=
  account_of_eq rfl rfl rfl rfl

@[simp] theorem account_streamOffer (s : State) : (streamOffer s).account = s.account := by
  unfold streamOffer
  split
  · rfl
  · split
    · dsimp only; rw [account_lastServed]; simp
    · rfl

@[simp] theorem account_offersInOrder (s : State) : (offersInOrder s).account = s.account := by simp [offersInOrder]

@[simp] theorem account_evictRecords (n : Node) (page : List Rec) (s : State) : (evictRecords n page s).account = s.account := by
  unfold evictRecords
  split
  · rfl
  · dsimp only
    split
    · split <;> simp
    · simp

/-! ## Commands -/

@[simp] theorem account_enterStatus (n : Node) (s : State) : (enterStatus n s).account = s.account := by
  unfold enterStatus
  dsimp only
  split <;> simp

@[simp] theorem account_closeFailed (n : Node) (s : State) : (closeFailed n s).account = s.account := by
  unfold closeFailed
  dsimp only
  split <;> simp

@[simp] theorem account_closeAtStart (n : Node) (c : Command) (s : State) : (closeAtStart n c s).account = s.account := by
  unfold closeAtStart
  split
  · simp
  · split <;> simp

@[simp] theorem account_refuseAtStart (n : Node) (c : Command) (x : Sense) (s : State) :
    (refuseAtStart n c x s).account = s.account := by simp [refuseAtStart]

@[simp] theorem account_readFails (n : Node) (x : Sense) (s : State) : (readFails n x s).account = s.account := by
  unfold readFails
  dsimp only
  split
  · split <;> simp
  · rfl

@[simp] theorem account_checkAwait (n : Node) (s : State) : (checkAwait n s).account = s.account := by
  unfold checkAwait
  split <;> simp

@[simp] theorem account_dropWaits (n : Node) (s : State) : (dropWaits n s).account = s.account := by
  unfold dropWaits
  dsimp only
  split <;> simp

@[simp] theorem account_failForward (n : Node) (x : Sense) (s : State) : (failForward n x s).account = s.account := by
  unfold failForward
  dsimp only
  split
  · simp
  · split <;> simp

@[simp] theorem account_beginForward (n : Node) (s : State) : (beginForward n s).account = s.account := by
  unfold beginForward
  dsimp only
  split <;> simp

@[simp] theorem account_startForward (n : Node) (c : Command) (s : State) : (startForward n c s).account = s.account := by
  unfold startForward
  split <;> simp

@[simp] theorem account_setHalt (n : Node) (e : Endpoint) (v : Bool) (s : State) : (setHalt n e v s).account = s.account := by
  cases e <;> simp [setHalt]

@[simp] theorem account_handedBack (n : Node) (s : State) : (handedBack n s).account = s.account := by
  unfold handedBack
  dsimp only
  split <;> simp

@[simp] theorem account_haltCleared (n : Node) (e : Endpoint) (s : State) : (haltCleared n e s).account = s.account := by
  unfold haltCleared
  dsimp only
  split <;> simp

@[simp] theorem account_endWriteData (n : Node) (s : State) : (endWriteData n s).account = s.account := by simp [endWriteData]

@[simp] theorem account_cancelEntries (n : Node) (s : State) : (cancelEntries n s).account = s.account := by
  have hholder (e : WriteEntry) : WriteEntry.holder
      { e with use := e.use.map fun w => if w.node = n then { w with cancelled := true } else w } = e.holder := by
    simp only [WriteEntry.holder, Option.map_map]
    refine congrArg (fun f => e.use.map f) (funext fun w => ?_)
    simp only [Function.comp]
    split <;> rfl
  simp only [State.account, cancelEntries, updCache_cache, Vector.toList_map, List.map_map]
  simp only [Function.comp_def, hholder]
  rfl

end Sys2Proof.Machine

/-! # How pages pass from one owner to another -/

namespace Sys2Proof.Machine

open Sys2Proof

/-! ## A ring gives up a page -/

/-- A ring's surplus by the account (R23). -/
def Account.surplus (a : Account) (n : Node) : Nat := a.holding n - a.reserve n

/-- A ring that has more than its current page gives one up (R25). -/
theorem account_giveUpPage {n : Node} {s : State} (h : 1 < (s.node n).hist.holding) : (giveUpPage n s).account =
    { s.account with holding := Function.update s.account.holding n ((s.node n).hist.holding - 1) } := by
  unfold giveUpPage
  dsimp only
  split
  · rw [account_updHist_holding]
    · simp only [History.holding]
      rw [Nat.add_sub_assoc ‹_›]
    · exact fun _ => rfl
  · split
    · rename_i hspare hfilled
      simp only [History.holding, hfilled] at h
      exact absurd h (by simp; omega)
    · rename_i p ps hfilled
      rw [account_evictRecords, account_updHist_holding]
      · simp only [History.holding, hfilled, List.length_cons]
        congr 2
        omega
      · exact fun _ => rfl

theorem richest_eq_of {s : State} {n : Node} (hlt : ∀ m, m < n → (s.node m).hist.surplus < (s.node n).hist.surplus)
    (hle : ∀ m, n < m → (s.node m).hist.surplus ≤ (s.node n).hist.surplus) : s.richest = n := by
  have h0 := hlt 0
  have h1 := hlt 1
  have h2 := hlt 2
  have k1 := hle 1
  have k2 := hle 2
  have k3 := hle 3
  have h3 := hlt 3
  unfold State.richest
  simp only [List.foldl_cons, List.foldl_nil]
  fin_cases n <;> simp_all <;> grind

theorem le_surplus_richest (s : State) (m : Node) : (s.node m).hist.surplus ≤ (s.node s.richest).hist.surplus := by
  have hstep (best n : Node) : (s.node best).hist.surplus ≤
      (s.node (if (s.node best).hist.surplus < (s.node n).hist.surplus then n else best)).hist.surplus ∧ (s.node n).hist.surplus ≤
      (s.node (if (s.node best).hist.surplus < (s.node n).hist.surplus then n else best)).hist.surplus := by
    split <;> omega
  unfold State.richest
  simp only [List.foldl_cons, List.foldl_nil]
  have h1 := hstep 0 1
  generalize (if (s.node 0).hist.surplus < (s.node 1).hist.surplus then (1 : Node) else 0) = b1 at *
  have h2 := hstep b1 2
  generalize (if (s.node b1).hist.surplus < (s.node 2).hist.surplus then (2 : Node) else b1) = b2 at *
  have h3 := hstep b2 3
  generalize (if (s.node b2).hist.surplus < (s.node 3).hist.surplus then (3 : Node) else b2) = b3 at *
  fin_cases m <;> simp <;> omega

/-- Where the rings have a surplus together, the richest has one. -/
theorem surplus_richest_pos {s : State} (h : 0 < s.totalSurplus) : 0 < (s.node s.richest).hist.surplus := by
  by_contra hzero
  have hall (m : Node) : (s.node m).hist.surplus = 0 := by
    have := le_surplus_richest s m
    omega
  simp [State.totalSurplus, hall, allNodes] at h

/-! ## Trimming -/

/-- What trimming `k` pages does (R30): the rings give up the pages, none falls below its reserve, and none that has given one up
is left poorer than another by more than that page. -/
structure Trims (k : Nat) (a b : Account) : Prop where
  same : b = { a with holding := b.holding }
  holdings : (allNodes.map b.holding).sum + k = (allNodes.map a.holding).sum
  reserve : ∀ n, a.reserve n ≤ a.holding n → b.reserve n ≤ b.holding n
  poorer : ∀ n, b.surplus n ≤ a.surplus n
  even : ∀ n m, b.surplus n < a.surplus n → b.surplus m ≤ b.surplus n + 1

theorem Trims.zero (a : Account) : Trims 0 a a := ⟨rfl, rfl, fun _ => id, fun _ => le_rfl, fun _ _ h => absurd h (lt_irrefl _)⟩

/-- One page from the ring whose surplus is greatest, and then the others. -/
theorem Trims.cons {k : Nat} {a b : Account} {r : Node} (hpos : 0 < a.surplus r) (hmax : ∀ m, a.surplus m ≤ a.surplus r)
    (h : Trims k { a with holding := Function.update a.holding r (a.holding r - 1) } b) : Trims (k + 1) a b := by
  have hafter (m : Node) : ({ a with holding := Function.update a.holding r (a.holding r - 1) } : Account).surplus m =
      if m = r then a.surplus r - 1 else a.surplus m := by
    simp only [Account.surplus, Function.update_apply]
    split
    · subst_vars; omega
    · rfl
  have hsum := sum_nodes_of_ne (f := Function.update a.holding r (a.holding r - 1)) (g := a.holding) r
    fun m hm => Function.update_of_ne hm ..
  rw [Function.update_self] at hsum
  have hholding : 0 < a.holding r := lt_of_lt_of_le hpos (Nat.sub_le ..)
  obtain ⟨same, holdings, reserve, poorer, even⟩ := h
  simp only [hafter] at poorer even
  refine ⟨same, ?_, fun n hn => reserve n ?_, fun n => ?_, fun n m hlt => ?_⟩
  · dsimp only at holdings; omega
  · simp only [Function.update_apply]
    split
    · subst_vars; simp only [Account.surplus] at hpos; omega
    · exact hn
  · have := poorer n
    split at this
    · subst_vars; omega
    · exact this
  · by_cases hn : n = r
    · subst hn
      have hm := poorer m
      have heven := even n m
      have hbound := hmax m
      simp only [if_true] at heven
      split at hm <;> omega
    · have heven := even n m
      rw [if_neg hn] at heven
      exact heven hlt

/-- Trimming takes as many pages as it is asked for, where the rings have the surplus (R30). -/
theorem trims_trimPages {k : Nat} {s : State} (hr : s.account.Reserved) (hk : k ≤ s.totalSurplus) :
    Trims k s.account (trimPages k s).account := by
  induction k generalizing s with
  | zero => exact .zero _
  | succ k ih =>
    have hpos : 0 < s.account.surplus s.richest := surplus_richest_pos (by omega)
    have hone : 1 < (s.node s.richest).hist.holding := by
      have := hr s.richest
      simp only [Account.surplus, State.account] at hpos this
      omega
    have hgive := account_giveUpPage hone
    have hsum : (giveUpPage s.richest s).totalSurplus + 1 = s.totalSurplus := by
      have h := sum_nodes_of_ne (f := (giveUpPage s.richest s).account.surplus) (g := s.account.surplus) s.richest
        fun m hm => by simp only [hgive, Account.surplus, Function.update_of_ne hm]
      have hself : (giveUpPage s.richest s).account.surplus s.richest + 1 = s.account.surplus s.richest := by
        simp only [Account.surplus] at hpos
        simp only [hgive, Account.surplus, Function.update_self]
        change _ - 1 - _ + 1 = (s.node s.richest).hist.holding - _
        change 0 < (s.node s.richest).hist.holding - _ at hpos
        omega
      have e (t : State) : t.totalSurplus = (allNodes.map t.account.surplus).sum := rfl
      rw [e, e]
      omega
    have hrest := ih (s := giveUpPage s.richest s) (by rw [hgive]; exact hr) (by omega)
    rw [hgive] at hrest
    exact .cons hpos (le_surplus_richest s) hrest

theorem Trims.total {k : Nat} {a b : Account} (h : Trims k a b) : b.total + k = a.total := by
  have hsplit (f : Node → Nat) : (allNodes.map fun m => f m + a.staging m + (a.desc m).toNat).sum = (allNodes.map f).sum +
      (allNodes.map fun m => a.staging m + (a.desc m).toNat).sum := by
    rw [← sum_nodes_add]
    exact congrArg List.sum (List.map_congr_left fun m _ => by omega)
  have hb : b.total = a.free + (allNodes.map fun m => b.holding m + a.staging m + (a.desc m).toNat).sum + 8 * a.lines := by
    rw [h.same]; rfl
  have hholdings := h.holdings
  rw [hb, Account.total, hsplit, hsplit]
  omega

theorem Trims.owners {k : Nat} {a b : Account} (h : Trims k a b) : b.owners = a.owners := by rw [h.same]; rfl

/-! ## Lines -/

theorem account_evictLine {s t : State} (h : evictLine s = some t) :
    t.account = { s.account with lines := s.account.lines - 1 } ∧ 0 < s.account.lines := by
  unfold evictLine at h
  split at h
  · rename_i hany
    cases h
    obtain ⟨l, hl, hle⟩ := List.any_eq_true.1 hany
    refine ⟨?_, List.length_pos_of_mem hl⟩
    rw [account_updCache]
    · dsimp only; rw [List.length_eraseP_of_mem hl hle]; rfl
    · rfl
  · cases h

/-- An evicted line's eight pages are the caller's. -/
theorem total_evictLine {s t : State} (h : evictLine s = some t) : t.account.total + 8 = s.account.total := by
  obtain ⟨e, hpos⟩ := account_evictLine h
  have := total_lines s.account (s.account.lines - 1)
  rw [← e] at this
  omega

theorem owners_evictLine {s t : State} (h : evictLine s = some t) : t.account.owners = s.account.owners := by
  rw [(account_evictLine h).1]; rfl

@[simp] theorem owners_updPool (s : State) (f : Pool → Pool) : (s.updPool f).account.owners = s.account.owners := rfl

/-- The account after pages leave or join the free list. -/
theorem total_updPool (s : State) (f : Pool → Pool) :
    (s.updPool f).account.total + s.pool.free = s.account.total + (f s.pool).free := total_free s.account _

/-- Eight pages of a demand allocation are the asker's (R29). -/
theorem demandAlloc_takes {s t : State} (h : demandAlloc s = .got t) (hr : s.account.Reserved) :
    t.account.total + 8 = s.account.total ∧ t.account.owners = s.account.owners := by
  unfold demandAlloc Config.linePages at h
  split at h
  · rename_i hroom
    cases h
    have := total_updPool s fun p => { p with free := p.free - 8 }
    dsimp only at this
    exact ⟨by omega, rfl⟩
  · split at h
    · cases h
      exact ⟨total_evictLine ‹_›, owners_evictLine ‹_›⟩
    · rename_i hroom _ _
      split at h
      · rename_i hsurplus
        cases h
        have htrim := trims_trimPages (k := 8 - s.pool.free) (s := s.updPool fun p => { p with free := 0 }) hr
          (by change _ ≤ s.totalSurplus; omega)
        have hsum := htrim.total
        have hpool := total_updPool s fun p => { p with free := 0 }
        dsimp only at hpool
        rw [account_pressureTrim]
        exact ⟨by omega, htrim.owners⟩
      · split at h <;> cases h

theorem prefetchAlloc_takes {s t : State} (h : prefetchAlloc s = some t) :
    t.account.total + 8 = s.account.total ∧ t.account.owners = s.account.owners := by
  unfold prefetchAlloc Config.linePages at h
  split at h
  · cases h
    have := total_updPool s fun p => { p with free := p.free - 8 }
    dsimp only at this
    exact ⟨by omega, rfl⟩
  · exact ⟨total_evictLine h, owners_evictLine h⟩

theorem account_createLine (n : Node) (u : Lun) (j p : Nat) (i : Fin 16) (s : State) :
    (createLine n u j p i s).account = { s.account with lines := s.account.lines + 1 } := by
  unfold createLine
  rw [account_offerMedia, account_updSlot, account_updCache]
  · dsimp only; rw [List.length_append]; rfl
  · rfl

theorem account_attachNew (n : Node) (i : Fin 16) (s : State) :
    (attachNew n i s).account = { s.account with lines := s.account.lines + 1 } := by
  unfold attachNew
  rw [account_createLine, account_updCtx]
  exact fun _ => rfl

theorem total_line_more (a : Account) : { a with lines := a.lines + 1 }.total = a.total + 8 := by
  have := total_lines a (a.lines + 1)
  omega

/-- The pages a waiting allocation has obtained become its line, or stay free (R31). -/
theorem grantPages_gives (n : Node) (s : State) :
    (grantPages n s).account.total = s.account.total + 8 ∧ (grantPages n s).account.owners = s.account.owners := by
  unfold grantPages Config.linePages
  split
  · have := total_updPool s fun p => { p with free := p.free + 8 }
    dsimp only at this
    exact ⟨by omega, rfl⟩
  · rw [account_attachNew]
    exact ⟨total_line_more _, rfl⟩

/-! ## Retries -/

/-- Pages have passed between the free list, the rings and the cache lines. -/
def Account.Trades (a b : Account) : Prop := a.Reserved → b.owners = a.owners ∧ b.total = a.total

theorem Account.Trades.refl (a : Account) : a.Trades a := fun _ => ⟨rfl, rfl⟩

theorem Account.reserved_of_owners {a b : Account} (h : b.owners = a.owners) (hr : a.Reserved) : b.Reserved := by
  have hreserve : b.reserve = a.reserve := congrArg Prod.fst h
  intro n
  rw [hreserve]
  exact hr n

theorem Account.Trades.trans {a b c : Account} (h : a.Trades b) (k : b.Trades c) : a.Trades c := fun hr =>
  have hb := h hr
  have hc := k (Account.reserved_of_owners hb.1 hr)
  ⟨hc.1.trans hb.1, hc.2.trans hb.2⟩

theorem trades_retryList (ws : List Waiter) (s : State) : s.account.Trades (retryList ws s).account := by
  induction ws generalizing s with
  | nil => exact .refl _
  | cons w ws ih =>
    unfold retryList
    split
    · rename_i t ht
      refine Account.Trades.trans (fun hr => ?_) (ih _)
      obtain ⟨htotal, howners⟩ := demandAlloc_takes ht hr
      obtain ⟨hgtotal, hgowners⟩ := grantPages_gives w.node (t.updPool fun p => { p with waiting := ws })
      exact ⟨hgowners.trans howners, hgtotal.trans htotal⟩
    · exact .refl _

theorem trades_retryWaiting (s : State) : s.account.Trades (retryWaiting s).account := trades_retryList _ s

/-- Pages that join the free list are all there are more (R31). -/
theorem pagesJoin_adds (k : Nat) {s : State} (hr : s.account.Reserved) :
    (pagesJoin k s).account.owners = s.account.owners ∧ (pagesJoin k s).account.total = s.account.total + k := by
  have hpool := total_updPool s fun p => { p with free := p.free + k }
  dsimp only at hpool
  obtain ⟨howners, htotal⟩ := trades_retryWaiting (s.updPool fun p => { p with free := p.free + k }) hr
  exact ⟨howners, by rw [pagesJoin, htotal]; omega⟩

end Sys2Proof.Machine

/-! # Operations that keep the pages -/

namespace Sys2Proof.Machine

open Sys2Proof

/-- No page has been lost or made, and every ring still has a reserve. -/
structure Account.Keeps (a b : Account) : Prop where
  reserved : a.Reserved → b.Reserved
  total : a.Reserved → b.total = a.total

@[simp] theorem Account.Keeps.refl (a : Account) : a.Keeps a := ⟨id, fun _ => rfl⟩

theorem Account.Keeps.trans {a b c : Account} (h : a.Keeps b) (k : b.Keeps c) : a.Keeps c :=
  ⟨fun hr => k.reserved (h.reserved hr), fun hr => (k.total (h.reserved hr)).trans (h.total hr)⟩

theorem Account.Trades.keeps {a b : Account} (h : a.Trades b) : a.Keeps b :=
  ⟨fun hr => Account.reserved_of_owners (h hr).1 hr, fun hr => (h hr).2⟩

variable {a : Account} {s : State}

/-- A fold whose steps all keep the pages keeps them. -/
theorem keeps_foldl {α : Type} {f : State → α → State} (hf : ∀ t x, a.Keeps t.account → a.Keeps (f t x).account) (l : List α)
    (h : a.Keeps s.account) : a.Keeps (l.foldl f s).account :=
  foldl_keeps (P := fun t => a.Keeps t.account) hf l h

/-! ## Records -/

/-- A ring's new current page is one it had, or a free one (R24). -/
theorem obtainPage_takes (n : Node) (s : State) : (obtainPage n s).account.total = s.account.total ∧
    (obtainPage n s).account.owners = s.account.owners := by
  unfold obtainPage
  dsimp only
  split
  · rename_i hspare
    have hsame : (s.updHist n fun h => { h with filled := h.filled ++ [h.current], current := [], spare := h.spare - 1 }).account =
        s.account := by
      rw [account_updHist_holding]
      · have he : (s.node n).hist.filled.length + 1 + 1 + ((s.node n).hist.spare - 1) = s.account.holding n := by
          change _ = (s.node n).hist.filled.length + 1 + (s.node n).hist.spare
          omega
        simp only [History.holding, List.length_append, List.length_singleton, he, Function.update_eq_self]
      · exact fun _ => rfl
    rw [hsame]
    exact ⟨rfl, rfl⟩
  · split
    · rename_i hfree
      rw [account_updPool, account_updHist_holding]
      · have hpool := total_free s.account (s.pool.free - 1)
        have hhold := total_holding { s.account with free := s.pool.free - 1 } n
          { (s.node n).hist with filled := (s.node n).hist.filled ++ [(s.node n).hist.current], current := [] }.holding
        have he : History.holding { (s.node n).hist with
            filled := (s.node n).hist.filled ++ [(s.node n).hist.current], current := [] } = s.account.holding n + 1 := by
          change _ = (s.node n).hist.filled.length + 1 + (s.node n).hist.spare + 1
          simp only [History.holding, List.length_append, List.length_singleton]
          omega
        rw [he] at hhold
        have : s.account.free = s.pool.free := rfl
        dsimp only at hhold ⊢
        rw [he]
        exact ⟨by dsimp only [updHist_pool]; omega, rfl⟩
      · exact fun _ => rfl
    · split
      · exact ⟨rfl, rfl⟩
      · rename_i p ps hpages
        have hlen := congrArg List.length hpages
        rw [List.length_append, List.length_singleton, List.length_cons] at hlen
        have hsame : (s.updHist n fun h => { h with filled := ps, current := [] }).account = s.account := by
          rw [account_updHist_holding]
          · have he : ps.length + 1 + (s.node n).hist.spare = s.account.holding n := by
              change _ = (s.node n).hist.filled.length + 1 + (s.node n).hist.spare
              omega
            simp only [History.holding, he, Function.update_eq_self]
          · exact fun _ => rfl
        rw [account_evictRecords, hsame]
        exact ⟨rfl, rfl⟩

/-- Writing a record moves at most one page, from the free list to the ring (R24). -/
theorem appendRec_takes (n : Node) (ts : Word32) (b : RecBody) (s : State) : (appendRec n ts b s).account.total = s.account.total ∧
    (appendRec n ts b s).account.owners = s.account.owners := by
  have hnext : (s.updHist n fun h => { h with next := h.next + 1 }).account = s.account := by simp
  unfold appendRec
  dsimp only
  rw [account_streamOffer, account_updHist_same]
  · split
    · rw [hnext]; exact ⟨rfl, rfl⟩
    · rw [← hnext]; exact obtainPage_takes ..
  · exact fun _ => rfl
  · exact fun _ => rfl

@[simp] theorem keeps_appendRec (h : a.Keeps s.account) (n : Node) (ts : Word32) (b : RecBody) :
    a.Keeps (appendRec n ts b s).account :=
  h.trans (Account.Trades.keeps fun _ => (appendRec_takes n ts b s).symm)

@[simp] theorem keeps_closeOpen (h : a.Keeps s.account) (n : Node) (f : RecFlags) : a.Keeps (closeOpen n f s).account := by
  unfold closeOpen
  split <;> simp [h]

@[simp] theorem keeps_appendMarker (h : a.Keeps s.account) (n : Node) (c d : Nat) : a.Keeps (appendMarker n c d s).account := by
  simp [appendMarker, h]

/-! ## Reads -/

@[simp] theorem keeps_retryWaiting (h : a.Keeps s.account) : a.Keeps (retryWaiting s).account :=
  h.trans (trades_retryWaiting s).keeps

@[simp] theorem keeps_detach (h : a.Keeps s.account) (n : Node) : a.Keeps (detach n s).account := by
  unfold detach
  split
  · exact h
  · split
    · dsimp only
      split
      · simp [h]
      · split <;> simp [h]
    · exact h

@[simp] theorem keeps_failRead (h : a.Keeps s.account) (n : Node) (x : Sense) : a.Keeps (failRead n x s).account := by
  simp [failRead, h]

/-- The pages a demand allocation has taken are the new line's (R176). -/
theorem keeps_attachNew (h : a.Keeps s.account) {t : State} (ht : demandAlloc s = .got t) (n : Node) (i : Fin 16) :
    a.Keeps (attachNew n i t).account := by
  refine h.trans (Account.Trades.keeps fun hr => ?_)
  obtain ⟨htotal, howners⟩ := demandAlloc_takes ht hr
  rw [account_attachNew]
  exact ⟨howners, (total_line_more _).trans htotal⟩

@[simp] theorem keeps_allocateFor (h : a.Keeps s.account) (n : Node) (i : Fin 16) : a.Keeps (allocateFor n i s).account := by
  unfold allocateFor
  split
  · exact keeps_attachNew h ‹_› ..
  · simp [h]
  · simp (maxDischargeDepth := 40) [h]

@[simp] theorem keeps_grantList (ws : List Waiter) (h : a.Keeps s.account) : a.Keeps (grantList ws s).account := by
  induction ws generalizing s with
  | nil => exact h
  | cons w ws ih =>
    unfold grantList
    split
    · exact h
    · apply ih; simp [h]

@[simp] theorem keeps_grantSlots (h : a.Keeps s.account) : a.Keeps (grantSlots s).account := keeps_grantList _ h

@[simp] theorem keeps_demandMiss (h : a.Keeps s.account) (n : Node) : a.Keeps (demandMiss n s).account := by
  unfold demandMiss
  split
  · simp [h]
  · split <;> simp [h]

@[simp] theorem keeps_leaveLists (h : a.Keeps s.account) (n : Node) : a.Keeps (leaveLists n s).account := by
  unfold leaveLists
  split <;> simp [h]

@[simp] theorem keeps_letGo (h : a.Keeps s.account) (n : Node) : a.Keeps (letGo n s).account := by simp [letGo, h]

/-- The pages of a prefetch allocation are the new line's (R182). -/
theorem keeps_createLine (h : a.Keeps s.account) {t : State} (ht : prefetchAlloc s = some t) (n : Node) (u : Lun) (j p : Nat)
    (i : Fin 16) : a.Keeps (createLine n u j p i t).account := by
  obtain ⟨htotal, howners⟩ := prefetchAlloc_takes ht
  refine h.trans (Account.Trades.keeps fun _ => ?_)
  rw [account_createLine]
  exact ⟨howners, (total_line_more _).trans htotal⟩

@[simp] theorem keeps_prefetchRun (n : Node) (u : Lun) (k j : Nat) (h : a.Keeps s.account) :
    a.Keeps (prefetchRun n u k j s).account := by
  induction k generalizing j s with
  | zero => exact h
  | succ k ih =>
    unfold prefetchRun
    dsimp only
    split
    · exact h
    · split
      · exact ih _ h
      · split
        · exact h
        · split
          · exact ih _ (keeps_createLine h ‹_› ..)
          · exact h

/-- A line that is used moves to the end of the order of use (R172). -/
theorem length_mostRecent {p : Line → Bool} {ls : List Line} {l : Line} (h : ls.find? p = some l) (l' : Line) :
    (ls.eraseP p ++ [l']).length = ls.length := by
  have hmem := List.mem_of_find?_eq_some h
  have hpos := List.length_pos_of_mem hmem
  rw [List.length_append, List.length_singleton, List.length_eraseP_of_mem hmem (List.find?_some h)]
  omega

@[simp] theorem keeps_askLine (h : a.Keeps s.account) (n : Node) (j : Nat) : a.Keeps (askLine n j s).account := by
  have hlookup (c : State) (hc : a.Keeps c.account) (p : Prop) [Decidable p] (u : Lun) (k i : Nat) :
      a.Keeps (if p then prefetchRun n u k i c else c).account := by
    split <;> simp [hc]
  unfold askLine
  dsimp only
  apply hlookup
  split
  · rename_i l hl
    rw [account_updCtx, account_updCache]
    · dsimp only
      rw [length_mostRecent (ls := (s.updDrive n _ _).cache.lines) hl, account_updDrive]
      exact h
    · rfl
    · exact fun _ => rfl
  · simp [h]

end Sys2Proof.Machine

/-! # The pages of cache lines and staging units -/

namespace Sys2Proof.Machine

open Sys2Proof

variable {a : Account} {s : State}

/-! ## Fetches -/

/-- A slot's line that is freed gives its eight pages to the free list (R175). -/
theorem keeps_freeSlotLine (h : a.Keeps s.account) {i : Fin 16} {l : Line} (hl : s.slotLine i = some l) :
    a.Keeps (freeSlotLine i s).account := by
  have hmem := List.mem_of_find?_eq_some hl
  have hlen := List.length_eraseP_of_mem (p := fun x => x.inSlot i) hmem (List.find?_some hl :)
  have hpos := List.length_pos_of_mem hmem
  have hlines := total_lines s.account (s.cache.lines.length - 1)
  have hfree := total_free { s.account with lines := s.cache.lines.length - 1 } (s.pool.free + 8)
  have he : (freeSlotLine i s).account = { s.account with lines := s.cache.lines.length - 1, free := s.pool.free + 8 } := by
    unfold freeSlotLine
    rw [account_updPool, account_updCache, hlen]
    · rfl
    · rfl
  have hl' : s.account.lines = s.cache.lines.length := rfl
  have hf' : s.account.free = s.pool.free := rfl
  refine h.trans (Account.Trades.keeps fun _ => ?_)
  rw [he]
  exact ⟨rfl, by dsimp only at hfree ⊢; omega⟩

@[simp] theorem keeps_fetchFails (h : a.Keeps s.account) (i : Fin 16) (c : MediaCause) (x : Sense) :
    a.Keeps (fetchFails i c x s).account := by
  unfold fetchFails
  split
  · simp [h]
  · rename_i l hl
    have hfreed : a.Keeps (freeSlotLine i (withdraw (.fetch i) s)).account := keeps_freeSlotLine (by simp [h]) (l := l) hl
    dsimp only
    split
    · split <;> simp (maxDischargeDepth := 40) [hfreed]
    · simp (maxDischargeDepth := 40) [hfreed]

theorem keeps_fetchCompletes (h : a.Keeps s.account) {i : Fin 16} {l : Line} (hl : s.slotLine i = some l) :
    a.Keeps (fetchCompletes i l s).account := by
  unfold fetchCompletes
  split
  · simp (maxDischargeDepth := 40) [keeps_freeSlotLine h hl]
  · dsimp only
    split <;> simp (maxDischargeDepth := 40) [h]

@[simp] theorem keeps_storeChunk (h : a.Keeps s.account) (i : Fin 16) (k : Fin 8) (d : List Byte) :
    a.Keeps (storeChunk i k d s).account := by
  unfold storeChunk
  dsimp only
  split
  · simp [h]
  · split
    · exact keeps_fetchCompletes (by simp [h]) ‹_›
    · simp [h]

/-! ## Generations -/

/-- Lines that are freed give eight pages each to the free list. -/
theorem total_freedLines (p : Line → Bool) (s : State) : Account.total { s.account with
    lines := (s.cache.lines.filter fun l => !p l).length, free := s.pool.free + 8 * (s.cache.lines.filter p).length } =
      s.account.total := by
  have hlen := List.length_eq_length_filter_add (l := s.cache.lines) p
  have hlines := total_lines s.account (s.cache.lines.filter fun l => !p l).length
  have hfree := total_free { s.account with lines := (s.cache.lines.filter fun l => !p l).length }
    (s.pool.free + 8 * (s.cache.lines.filter p).length)
  have hl' : s.account.lines = s.cache.lines.length := rfl
  have hf' : s.account.free = s.pool.free := rfl
  dsimp only at hfree ⊢
  omega

/-- The slots of an ejected drive's lines become FREE with their FETCH_REQs withdrawn (R180). -/
def freeSlots (is : List (Fin 16)) (s : State) : State := is.foldl (fun t i => (withdraw (.fetch i) t).setSlotUse i .free) s

theorem freeSlots_keeps (is : List (Fin 16)) (s : State) :
    (freeSlots is s).account = s.account ∧ (freeSlots is s).cache.lines = s.cache.lines :=
  foldl_keeps (f := fun t i => (withdraw (.fetch i) t).setSlotUse i .free)
    (P := fun t => t.account = s.account ∧ t.cache.lines = s.cache.lines)
    (fun t i ht => ⟨by rw [account_setSlotUse, account_withdraw]; exact ht.1, ht.2⟩) is ⟨rfl, rfl⟩

@[simp] theorem keeps_cacheEject (h : a.Keeps s.account) (n : Node) (u : Lun) : a.Keeps (cacheEject n u s).account := by
  obtain ⟨haccount, hlines⟩ := freeSlots_keeps (allSlots.filter (s.slotOfDrive n u)) s
  have hfreed : a.Keeps (((freeSlots (allSlots.filter (s.slotOfDrive n u)) s).updCache fun c =>
      { c with lines := c.lines.filter fun l => !l.ofDrive n u }).updPool fun p =>
        { p with free := p.free + Config.linePages * (s.cache.lines.filter fun l => l.ofDrive n u).length }).account := by
    refine h.trans (Account.Trades.keeps fun _ => ?_)
    rw [account_updPool, account_updCache, haccount]
    · dsimp only
      rw [updCache_pool, hlines, show (freeSlots _ s).pool.free = s.pool.free from congrArg Account.free haccount]
      exact ⟨rfl, total_freedLines (fun l => l.ofDrive n u) s⟩
    · rfl
  unfold cacheEject
  dsimp only
  rw [← freeSlots]
  split <;> simp (maxDischargeDepth := 40) [hfreed]

@[simp] theorem keeps_doomLines (h : a.Keeps s.account) (p : Line → Bool) : a.Keeps (doomLines p s).account := by
  have hdoomed (t : State) (ht : t = s.updCache fun c => { c with
      lines := (c.lines.filter fun l => !(p l && decide (l.state = .valid))).map fun l => if p l then l.doom else l }) :
      t.account = { s.account with lines := (s.cache.lines.filter fun l => !(p l && decide (l.state = .valid))).length } := by
    rw [ht, account_updCache]
    · dsimp only; rw [List.length_map]
    · rfl
  have hfreed := total_freedLines (fun l => p l && decide (l.state = .valid)) s
  unfold doomLines
  dsimp only
  refine h.trans (Account.Trades.keeps fun hr => ?_)
  generalize ht : (s.updCache fun c => { c with
    lines := (c.lines.filter fun l => !(p l && decide (l.state = .valid))).map fun l => if p l then l.doom else l }) = t
  have haccount := hdoomed t ht.symm
  split
  · rename_i hnone
    rw [haccount]
    refine ⟨rfl, ?_⟩
    rw [List.isEmpty_iff.1 hnone] at hfreed
    exact hfreed
  · obtain ⟨howners, htotal⟩ := pagesJoin_adds
      (Config.linePages * (s.cache.lines.filter fun l => p l && decide (l.state = .valid)).length) (s := t) (by rw [haccount]; exact hr)
    refine ⟨howners.trans (by rw [haccount]; rfl), ?_⟩
    have hfree := total_free { s.account with lines := (s.cache.lines.filter fun l => !(p l && decide (l.state = .valid))).length }
      (s.pool.free + 8 * (s.cache.lines.filter fun l => p l && decide (l.state = .valid)).length)
    have hf' : s.account.free = s.pool.free := rfl
    rw [htotal, haccount]
    simp only [Config.linePages]
    dsimp only at hfree hfreed ⊢
    omega

@[simp] theorem keeps_cacheDropOp (h : a.Keeps s.account) (n : Node) (u : Lun) : a.Keeps (cacheDropOp n u s).account := by
  unfold cacheDropOp
  dsimp only
  split <;> split <;> simp (maxDischargeDepth := 40) [h]

@[simp] theorem keeps_cacheOverlap (h : a.Keeps s.account) (n : Node) (u : Lun) (j k : Nat) :
    a.Keeps (cacheOverlap n u j k s).account := by simp [cacheOverlap, h]

/-! ## Staging units -/

/-- A staging page that is granted is the asker's (R33); where none is granted nothing moves. -/
theorem requestStaging_takes (n : Node) (hr : s.account.Reserved) :
    (requestStaging n s).2.account.owners = s.account.owners ∧
      (requestStaging n s).2.account.total + (requestStaging n s).1.toNat = s.account.total := by
  have hport (t : State) (v : Bool) : (t.updPort n fun p => { p with stagingBlocked := v }).account = t.account := by simp
  unfold requestStaging
  split
  · exact ⟨rfl, rfl⟩
  · split
    · have := total_updPool s fun p => { p with free := p.free - 1 }
      dsimp only at this ⊢
      rw [hport]
      exact ⟨rfl, by simp only [Bool.toNat_true]; omega⟩
    · split
      · rename_i t ht
        have htotal := total_evictLine ht
        have howners := owners_evictLine ht
        obtain ⟨hjowners, hjtotal⟩ := pagesJoin_adds (Config.linePages - 1)
          (s := t.updPort n fun p => { p with stagingBlocked := false })
          (by rw [hport]; exact Account.reserved_of_owners howners hr)
        rw [hport] at hjowners hjtotal
        dsimp only
        rw [hjtotal]
        exact ⟨hjowners.trans howners, by simp only [Config.linePages, Bool.toNat_true]; omega⟩
      · dsimp only
        split <;> simp

@[simp] theorem keeps_discardUnit (h : a.Keeps s.account) (n : Node) : a.Keeps (discardUnit n s).account := by
  unfold discardUnit
  split
  · rename_i hfilling
    refine h.trans ⟨fun hr => ?_, fun hr => ?_⟩
    · have hjoin := pagesJoin_adds 1 (s := s.updCtx n fun x => { x with filling := none }) (by rw [account_updCtx_filling]; exact hr)
      exact Account.reserved_of_owners hjoin.1 (by rw [account_updCtx_filling]; exact hr)
    · have hjoin := pagesJoin_adds 1 (s := s.updCtx n fun x => { x with filling := none }) (by rw [account_updCtx_filling]; exact hr)
      have htotal := total_filling s.account n false
      have hwas : s.account.filling n = true := hfilling
      rw [hjoin.2, account_updCtx_filling]
      rw [hwas] at htotal
      exact htotal
  · exact h

/-- The account once an entry's unit has no owner. -/
def Account.freeEntry (a : Account) (i : Fin 32) : Account := { a with entries := a.entries.set i none }

/-- A write-table entry that ends gives its staging page to the free list (R185). -/
theorem endEntry_frees {i : Fin 32} (hi : s.cache.writes[i].use.isSome) (hr : s.account.Reserved) :
    (endEntry i s).account.owners = (s.account.freeEntry i).owners ∧ (endEntry i s).account.total = s.account.total := by
  have hfree : ((withdraw (.write i) s).updEntry i fun e => { e with use := none }).account = s.account.freeEntry i := by
    rw [account_updEntry, account_withdraw]; rfl
  have hlen : (i : Nat) < s.account.entries.length := by rw [entries_length]; exact i.isLt
  have hentry : s.account.entries[(i : Nat)].isSome = true := by
    rw [entries_getElem, WriteEntry.holder, Option.isSome_map]; exact hi
  have htotal := total_entries s.account i hlen none
  obtain ⟨hjowners, hjtotal⟩ := pagesJoin_adds 1
    (s := (withdraw (.write i) s).updEntry i fun e => { e with use := none }) (by rw [hfree]; exact hr)
  rw [hfree] at hjowners hjtotal
  refine ⟨hjowners, hjtotal.trans ?_⟩
  rw [hentry] at htotal
  exact htotal

theorem keeps_endEntry (h : a.Keeps s.account) {i : Fin 32} (hi : s.cache.writes[i].use.isSome) : a.Keeps (endEntry i s).account :=
  h.trans ⟨fun hr => Account.reserved_of_owners (b := (endEntry i s).account) (endEntry_frees hi hr).1 hr,
    fun hr => (endEntry_frees hi hr).2⟩

/-- An entry that ends leaves the others in use. -/
theorem endEntry_others {i j : Fin 32} (hij : i ≠ j) (hi : s.cache.writes[i].use.isSome) (hr : s.account.Reserved) :
    (endEntry i s).cache.writes[j].use.isSome = s.cache.writes[j].use.isSome := by
  have hentries : (endEntry i s).account.entries = s.account.entries.set i none :=
    congrArg (fun o => o.2.2.2) (endEntry_frees hi hr).1
  have hget (t : State) : t.cache.writes[j].use.isSome = (t.account.entries[(j : Nat)]?.bind id).isSome := by
    rw [List.getElem?_eq_getElem (by rw [entries_length]; exact j.isLt), entries_getElem]
    simp [WriteEntry.holder]
  have hne : (i : Nat) ≠ j := fun e => hij (Fin.ext e)
  rw [hget, hget, hentries, List.getElem?_set_ne hne]

/-- Entries in use that end one after another, none of them twice. -/
theorem keeps_endEntries (is : List (Fin 32)) (hnd : is.Nodup) (h : a.Keeps s.account)
    (hu : ∀ i ∈ is, s.cache.writes[i].use.isSome) : a.Keeps (is.foldl (fun t i => endEntry i t) s).account := by
  by_cases hr : a.Reserved
  · induction is generalizing s with
    | nil => exact h
    | cons i is ih =>
      obtain ⟨hi, hnd⟩ := List.nodup_cons.1 hnd
      have hused := hu i List.mem_cons_self
      refine ih hnd (keeps_endEntry h hused) fun j hj => ?_
      rw [endEntry_others (fun e : i = j => hi (e ▸ hj)) hused (h.reserved hr)]
      exact hu j (List.mem_cons_of_mem _ hj)
  · exact ⟨fun k => absurd k hr, fun k => absurd k hr⟩

theorem nodup_ownedEntries (s : State) (n : Node) (p : WriteUse → Bool) : (s.ownedEntries n p).Nodup :=
  (List.nodup_finRange 32).filter _

theorem use_of_ownedEntries {n : Node} {p : WriteUse → Bool} {i : Fin 32} (hi : i ∈ s.ownedEntries n p) :
    s.cache.writes[i].use.isSome := by
  have hpick := (List.mem_filter.1 hi).2
  split at hpick
  · cases hpick
  · rename_i hu
    rw [hu]
    rfl

@[simp] theorem keeps_failWrite (h : a.Keeps s.account) (n : Node) (x : Sense) : a.Keeps (failWrite n x s).account := by
  unfold failWrite
  dsimp only
  split
  · rw [account_checkAwait]
    exact keeps_discardUnit (keeps_endEntries _ (nodup_ownedEntries ..) (by simp [h]) fun i hi => use_of_ownedEntries hi) n
  · exact h

/-- The unit that was being filled becomes the entry's (R184). -/
theorem keeps_handOver (h : a.Keeps s.account) {n : Node} (hf : (s.node n).ctx.filling.isSome) (k : Nat) (d : List Byte) :
    a.Keeps (handOver n k d s).account := by
  unfold handOver
  split
  · exact h
  · rename_i i hi
    have hfree : s.cache.writes[i].use = none := of_decide_eq_true (List.find?_some hi :)
    dsimp only
    generalize ht : (s.updCtx n fun x => { x with filling := none }).updEntry i (fun e => _) = t
    have hused : t.cache.writes[i].use.isSome := by
      rw [← ht]
      simp [State.updEntry]
    have hentry : a.Keeps t.account := by
      have hlen : (i : Nat) < s.account.entries.length := by rw [entries_length]; exact i.isLt
      have hwas : s.account.entries[(i : Nat)] = none := by rw [entries_getElem, WriteEntry.holder, hfree]; rfl
      have hfilling : s.account.filling n = true := hf
      have hunit := total_filling s.account n false
      have hnew := total_entries { s.account with filling := Function.update s.account.filling n false } i hlen (some n)
      dsimp only at hnew
      rw [hwas] at hnew
      rw [hfilling] at hunit
      simp only [Option.isSome_none, Option.isSome_some, Bool.toNat_true, Bool.toNat_false] at hnew hunit
      refine h.trans (⟨fun hr => ?_, fun _ => ?_⟩)
      · rw [← ht, account_updEntry, account_updCtx_filling]; exact hr
      · rw [← ht, account_updEntry, account_updCtx_filling]
        simp only [WriteEntry.holder, Option.map_some, Option.isSome_none]
        omega
    split
    · simp (maxDischargeDepth := 40) [keeps_endEntry hentry hused]
    · simp [hentry]

end Sys2Proof.Machine

/-! # The pages and the command contexts -/

namespace Sys2Proof.Machine

open Sys2Proof

variable {a : Account} {s : State}

/-! ## Commands -/

@[simp] theorem keeps_finishIn (h : a.Keeps s.account) (n : Node) : a.Keeps (finishIn n s).account := by
  unfold finishIn
  dsimp only
  split <;> simp [h]

@[simp] theorem keeps_endForward (h : a.Keeps s.account) (n : Node) (r : CmdResult) (d : List Byte) :
    a.Keeps (endForward n r d s).account := by
  unfold endForward
  split
  · exact h
  · split
    · dsimp only
      split <;> simp [h]
    · simp [h]

@[simp] theorem account_runEmpty (n : Node) (c : Command) (s : State) : (runEmpty n c s).account = s.account := by
  unfold runEmpty
  split <;> simp

@[simp] theorem account_runComposed (n : Node) (d : List Byte) (s : State) : (runComposed n d s).account = s.account := by
  simp [runComposed]

@[simp] theorem keeps_runRead (h : a.Keeps s.account) (n : Node) (c : Command) : a.Keeps (runRead n c s).account := by
  simp [runRead, h]

@[simp] theorem keeps_runWrite (h : a.Keeps s.account) (n : Node) (c : Command) : a.Keeps (runWrite n c s).account := by
  simp [runWrite, h]

@[simp] theorem keeps_runExecuted (h : a.Keeps s.account) (n : Node) (c : Command) : a.Keeps (runExecuted n c s).account := by
  unfold runExecuted runRequestSense runInquiry runReadCapacity decideRead decideWrite
  repeat' split
  all_goals simp [h]

@[simp] theorem keeps_decideTransfer (h : a.Keeps s.account) (n : Node) (c : Command) : a.Keeps (decideTransfer n c s).account := by
  unfold decideTransfer
  dsimp only
  repeat' split
  all_goals simp [h]

@[simp] theorem keeps_dispatch (h : a.Keeps s.account) (n : Node) (c : Command) : a.Keeps (dispatch n c s).account := by
  unfold dispatch
  dsimp only
  repeat' split
  all_goals simp [h]

@[simp] theorem keeps_takeWrapper (h : a.Keeps s.account) (n : Node) (d : List Byte) : a.Keeps (takeWrapper n d s).account := by
  unfold takeWrapper
  split <;> simp [h]

/-! ## Data phases -/

@[simp] theorem keeps_askForPacket (h : a.Keeps s.account) (n : Node) : a.Keeps (askForPacket n s).account := by
  unfold askForPacket
  dsimp only
  split
  · split <;> simp [h]
  · exact h

@[simp] theorem keeps_delivered (h : a.Keeps s.account) (n : Node) (k : Nat) : a.Keeps (delivered n k s).account := by
  unfold delivered
  dsimp only
  repeat' split
  all_goals simp (maxDischargeDepth := 40) [h]

/-- A WRITE(10) packet that starts a unit asks for its staging page (R160). -/
def fillUnit (n : Node) (useful : List Byte) (s : State) : Bool × State :=
  if useful ≠ [] ∧ (s.node n).ctx.filling = none then requestStaging n s else (true, s)

/-- The context that has taken the bytes of a WRITE(10) packet into the unit being filled (R160). -/
def Context.fill (useful : List Byte) (moved : Nat) (u : Nat × List Byte) (x : Context) : Context :=
  { x with moved := moved, filling := if useful = [] then x.filling else some u }

section

variable {n : Node} {useful : List Byte} (moved : Nat) (u : Nat × List Byte)

/-- The unit that a packet starts holds the page it asked for (R33, R160). -/
theorem keeps_fill (h : a.Keeps s.account) (hfill : (fillUnit n useful s).1 = true) :
    a.Keeps ((fillUnit n useful s).2.updCtx n (Context.fill useful moved u)).account := by
  unfold fillUnit at hfill ⊢
  split
  · rename_i hneeds
    rw [if_pos hneeds] at hfill
    rw [account_updCtx_filling]
    have hset : ((Context.fill useful moved u ((requestStaging n s).2.node n).ctx).filling).isSome = true := by
      rw [Context.fill, if_neg hneeds.1]; rfl
    rw [hset]
    refine h.trans ⟨fun hr => Account.reserved_of_owners (b := (requestStaging n s).2.account) (requestStaging_takes n hr).1 hr,
      fun hr => ?_⟩
    obtain ⟨howners, htotal⟩ := requestStaging_takes n hr
    have hnone : (requestStaging n s).2.account.filling n = false := by
      rw [show (requestStaging n s).2.account.filling = s.account.filling from congrArg (fun o => o.2.1) howners]
      exact (congrArg Option.isSome hneeds.2).trans rfl
    have hunit := total_filling (requestStaging n s).2.account n true
    rw [hnone] at hunit
    rw [hfill] at htotal
    exact hunit.trans htotal
  · rename_i hneeds
    rw [account_updCtx_filling]
    have hsame : ((Context.fill useful moved u (s.node n).ctx).filling).isSome = s.account.filling n := by
      rw [Context.fill]
      by_cases huse : useful = []
      · rw [if_pos huse]; rfl
      · rw [if_neg huse]
        exact (Option.isSome_iff_ne_none.2 fun e => hneeds ⟨huse, e⟩).symm
    rw [hsame, Function.update_eq_self]
    exact h

/-- Where no page is granted the packet is not taken and nothing moves (R160). -/
theorem keeps_unfilled (h : a.Keeps s.account) (hfill : ¬(fillUnit n useful s).1 = true) : a.Keeps (fillUnit n useful s).2.account := by
  unfold fillUnit at hfill ⊢
  split
  · rename_i hneeds
    rw [if_pos hneeds, Bool.not_eq_true] at hfill
    refine h.trans (Account.Trades.keeps fun hr => ?_)
    obtain ⟨howners, htotal⟩ := requestStaging_takes n hr
    rw [hfill] at htotal
    exact ⟨howners, htotal⟩
  · exact h

theorem fill_isSome (hu : useful ≠ []) (t : State) : ((t.updCtx n (Context.fill useful moved u)).node n).ctx.filling.isSome := by
  rw [updCtx_node_self]
  simp [Context.fill, hu]

end

/-- The state after a WRITE(10) packet that has its page (R160): its bytes join unit `k`, a full unit is handed over, and a short
packet or the last one ends the data phase. -/
def unitTaken (n : Node) (useful bytes : List Byte) (k moved : Nat) (short ends : Prop) [Decidable short] [Decidable ends]
    (s : State) : State :=
  let t := (fillUnit n useful s).2.updCtx n (Context.fill useful moved (k, bytes))
  let t := if useful ≠ [] ∧ bytes.length = Config.chunkBytes then handOver n k bytes t else t
  let t := if short then failWrite n sensePhase t else t
  if ends then endWriteData n t else t

theorem takeWriteData_eq (n : Node) (d : List Byte) (s : State) :
    ∃ (useful bytes : List Byte) (k moved : Nat) (short ends : Prop) (_ : Decidable short) (_ : Decidable ends),
      takeWriteData n d s = if (fillUnit n useful s).1 then (true, unitTaken n useful bytes k moved short ends s)
        else fillUnit n useful s :=
  ⟨if (s.node n).ctx.result = .passed then d.take ((s.node n).ctx.dn - (s.node n).ctx.moved) else [], _, _, _, _, _, _, _, rfl⟩

theorem keeps_unitTaken (h : a.Keeps s.account) {n : Node} {useful : List Byte} (hfill : (fillUnit n useful s).1 = true)
    (bytes : List Byte) (k moved : Nat) (short ends : Prop) [Decidable short] [Decidable ends] :
    a.Keeps (unitTaken n useful bytes k moved short ends s).account := by
  have hfilled := keeps_fill moved (k, bytes) h hfill
  have hunit (hu : useful ≠ []) := fill_isSome (n := n) moved (k, bytes) hu (fillUnit n useful s).2
  unfold unitTaken
  dsimp only
  generalize (fillUnit n useful s).2.updCtx n (Context.fill useful moved (k, bytes)) = t at *
  have hhanded : a.Keeps (if useful ≠ [] ∧ bytes.length = Config.chunkBytes then handOver n k bytes t else t).account := by
    split
    · rename_i hfull
      exact keeps_handOver hfilled (hunit hfull.1) ..
    · exact hfilled
  split <;> split <;> simp [hhanded]

@[simp] theorem keeps_takeWriteData (h : a.Keeps s.account) (n : Node) (d : List Byte) : a.Keeps (takeWriteData n d s).2.account := by
  obtain ⟨useful, bytes, k, moved, short, ends, _, _, e⟩ := takeWriteData_eq n d s
  rw [e]
  split
  · exact keeps_unitTaken h ‹_› ..
  · exact keeps_unfilled h ‹_›

@[simp] theorem keeps_takeOut (h : a.Keeps s.account) (n : Node) (d : List Byte) : a.Keeps (takeOut n d s).2.account := by
  unfold takeOut
  dsimp only
  repeat' split
  all_goals simp [h]

@[simp] theorem keeps_clearContext (h : a.Keeps s.account) (n : Node) : a.Keeps (clearContext n s).account := by
  simp (maxDischargeDepth := 40) [clearContext, h]

@[simp] theorem keeps_ejectCommand (h : a.Keeps s.account) (n : Node) (u : Lun) : a.Keeps (ejectCommand n u s).account := by
  unfold ejectCommand
  dsimp only
  repeat' split
  all_goals simp [h]

end Sys2Proof.Machine

/-! # The pages and the nodes -/

namespace Sys2Proof.Machine

open Sys2Proof

variable {a : Account} {s : State}

/-! ## The port -/

@[simp] theorem account_attach (n : Node) (s : State) : (attach n s).account = s.account := by simp [attach]

@[simp] theorem account_startConnect (n : Node) (s : State) : (startConnect n s).account = s.account := by
  unfold startConnect
  split <;> simp

@[simp] theorem keeps_disconnect (h : a.Keeps s.account) (n : Node) : a.Keeps (disconnect n s).account := by
  simp [disconnect, h]

@[simp] theorem keeps_connectTest (h : a.Keeps s.account) (n : Node) : a.Keeps (connectTest n s).account := by
  unfold connectTest
  dsimp only
  repeat' split
  all_goals simp [h]

@[simp] theorem keeps_busResetOp (h : a.Keeps s.account) (n : Node) (b : Bool) : a.Keeps (busResetOp n b s).account := by
  unfold busResetOp
  split <;> simp [h]

@[simp] theorem account_suspendExpires (n : Node) (s : State) : (suspendExpires n s).account = s.account := by
  simp [suspendExpires]

@[simp] theorem account_busActivityOp (n : Node) (s : State) : (busActivityOp n s).account = s.account := by
  unfold busActivityOp
  dsimp only
  split
  · split <;> simp
  · rfl

theorem keeps_onPacket (h : a.Keeps s.account) (n : Node) (addr : BitVec 7) (f : State → State)
    (hf : ∀ t, a.Keeps t.account → a.Keeps (f t).account) : a.Keeps (onPacket n addr f s).account := by
  unfold onPacket
  dsimp only
  split
  · split
    · exact hf _ (by simp [h])
    · simp [h]
  · exact h

theorem keeps_onSetup (h : a.Keeps s.account) (n : Node) (addr : BitVec 7) (f : State → State)
    (hf : ∀ t, a.Keeps t.account → a.Keeps (f t).account) : a.Keeps (onSetup n addr f s).account :=
  keeps_onPacket h n addr _ fun t ht => hf _ (by simp [ht])

@[simp] theorem keeps_answerBulkIn (h : a.Keeps s.account) (n : Node) : a.Keeps (answerBulkIn n s).account := by
  unfold answerBulkIn
  dsimp only
  repeat' split
  all_goals simp [h]

@[simp] theorem keeps_ackBulkIn (h : a.Keeps s.account) (n : Node) : a.Keeps (ackBulkIn n s).account := by
  unfold ackBulkIn
  split <;> simp [h]

@[simp] theorem keeps_answerBulkOut (h : a.Keeps s.account) (n : Node) (b : Bool) (d : List Byte) :
    a.Keeps (answerBulkOut n b d s).account := by
  unfold answerBulkOut
  dsimp only
  repeat' split
  all_goals simp [h]

@[simp] theorem keeps_bulkOutOp (h : a.Keeps s.account) (n : Node) (addr : BitVec 7) (b : Bool) (d : List Byte) :
    a.Keeps (bulkOutOp n addr b d s).account :=
  keeps_onPacket h n addr _ fun _ ht => keeps_answerBulkOut ht n b d

@[simp] theorem account_answerPing (n : Node) (s : State) : (answerPing n s).account = s.account := by
  unfold answerPing
  dsimp only
  repeat' split
  all_goals simp

@[simp] theorem account_answerControlIn (n : Node) (s : State) : (answerControlIn n s).account = s.account := by
  unfold answerControlIn
  split
  · simp
  · split <;> simp

@[simp] theorem account_ackControlIn (n : Node) (s : State) : (ackControlIn n s).account = s.account := by
  unfold ackControlIn
  split
  · rfl
  · split
    · rfl
    · dsimp only
      split <;> simp

@[simp] theorem account_answerControlOut (n : Node) (s : State) : (answerControlOut n s).account = s.account := by
  unfold answerControlOut
  split
  · simp
  · split <;> simp

/-! ## Control requests -/

@[simp] theorem account_stallRequest (n : Node) (u : Setup) (s : State) : (stallRequest n u s).account = s.account :=
  account_setControl ..

@[simp] theorem account_answerRequest (n : Node) (u : Setup) (b : List Byte) (s : State) : (answerRequest n u b s).account = s.account :=
  account_setControl ..

@[simp] theorem account_decideGetDescriptor (n : Node) (u : Setup) (s : State) : (decideGetDescriptor n u s).account = s.account := by
  unfold decideGetDescriptor
  split <;> simp

@[simp] theorem account_decideSetAddress (n : Node) (u : Setup) (s : State) : (decideSetAddress n u s).account = s.account := by
  unfold decideSetAddress
  split <;> simp

@[simp] theorem keeps_decideSetConfiguration (h : a.Keeps s.account) (n : Node) (u : Setup) :
    a.Keeps (decideSetConfiguration n u s).account := by
  unfold decideSetConfiguration configure unconfigure
  repeat' split
  all_goals simp [h]

@[simp] theorem account_decideGetConfiguration (n : Node) (u : Setup) (s : State) :
    (decideGetConfiguration n u s).account = s.account := by
  unfold decideGetConfiguration
  split <;> simp

@[simp] theorem account_decideGetStatus (n : Node) (u : Setup) (s : State) : (decideGetStatus n u s).account = s.account := by
  unfold decideGetStatus
  split <;> simp

@[simp] theorem account_decideSetFeature (n : Node) (u : Setup) (s : State) : (decideSetFeature n u s).account = s.account := by
  unfold decideSetFeature
  split <;> simp

@[simp] theorem account_clearHalt (n : Node) (e : Endpoint) (s : State) : (clearHalt n e s).account = s.account := by
  unfold clearHalt
  split
  · dsimp only
    split <;> simp
  · simp

@[simp] theorem account_decideClearFeature (n : Node) (u : Setup) (s : State) : (decideClearFeature n u s).account = s.account := by
  unfold decideClearFeature
  split
  · simp
  · split <;> simp

@[simp] theorem keeps_decideBulkReset (h : a.Keeps s.account) (n : Node) (u : Setup) : a.Keeps (decideBulkReset n u s).account := by
  unfold decideBulkReset
  split <;> simp [h]

@[simp] theorem account_decideGetMaxLun (n : Node) (u : Setup) (s : State) : (decideGetMaxLun n u s).account = s.account := by
  unfold decideGetMaxLun
  split <;> simp

/-! ## Drives, the transmitter and the lines -/

@[simp] theorem keeps_ejectSteps (h : a.Keeps s.account) (n : Node) (u : Lun) : a.Keeps (ejectSteps n u s).account := by
  simp (maxDischargeDepth := 40) [ejectSteps, h]

@[simp] theorem keeps_ejectOp (h : a.Keeps s.account) (n : Node) (u : Lun) : a.Keeps (ejectOp n u s).account := by
  unfold ejectOp
  split <;> simp [h]

@[simp] theorem keeps_insertOp (h : a.Keeps s.account) (n : Node) (u : Lun) (i : Image) : a.Keeps (insertOp n u i s).account := by
  unfold insertOp
  dsimp only
  split <;> simp [h]

@[simp] theorem account_appendItems (n : Node) (x : List TxItem) (s : State) : (appendItems n x s).account = s.account :=
  account_updTx ..

@[simp] theorem account_takeHead (n : Node) (s : State) : (takeHead n s).account = s.account := account_updTx ..

@[simp] theorem keeps_byteEnds (h : a.Keeps s.account) (n : Node) : a.Keeps (byteEnds n s).account := by
  unfold byteEnds
  dsimp only
  repeat' split
  all_goals simp [h]

@[simp] theorem keeps_breakEnds (h : a.Keeps s.account) (n : Node) (k : Nat) : a.Keeps (breakEnds n k s).account := by
  simp [breakEnds, h]

@[simp] theorem keeps_breakExpires (h : a.Keeps s.account) (n : Node) : a.Keeps (breakExpires n s).account := by
  unfold breakExpires
  split <;> simp [h]

@[simp] theorem keeps_flushItems (h : a.Keeps s.account) (n : Node) : a.Keeps (flushItems n s).account := by
  unfold flushItems
  dsimp only
  split <;> simp [h]

@[simp] theorem keeps_viewMarker (h : a.Keeps s.account) (n : Node) (old new : View) : a.Keeps (viewMarker n old new s).account := by
  unfold viewMarker
  split
  · simp [h]
  · split <;> simp [h]

@[simp] theorem account_goDark (n : Node) (s : State) : (goDark n s).account = s.account := account_updNode _ _ _ rfl rfl rfl

@[simp] theorem keeps_deliverView (h : a.Keeps s.account) (n : Node) (old new : View) : a.Keeps (deliverView n old new s).account := by
  unfold deliverView
  dsimp only
  split <;> simp (maxDischargeDepth := 40) [h]

@[simp] theorem keeps_recomputeView (h : a.Keeps s.account) (n : Node) : a.Keeps (recomputeView n s).account := by
  unfold recomputeView
  dsimp only
  split <;> simp [h]

@[simp] theorem keeps_driveLine (h : a.Keeps s.account) (n : Node) (o : Output) (b : Bool) (p : Option Pulse) :
    a.Keeps (driveLine n o b p s).account := by
  unfold driveLine cutChanged
  dsimp only
  split <;> simp [h]

@[simp] theorem keeps_setLine (h : a.Keeps s.account) (n : Node) (o : Output) (b : Bool) : a.Keeps (setLine n o b s).account :=
  keeps_driveLine h ..

@[simp] theorem keeps_pulseLine (h : a.Keeps s.account) (n : Node) (o : Output) (x : PulseSource) (k : Nat) :
    a.Keeps (pulseLine n o x k s).account := keeps_driveLine h ..

@[simp] theorem keeps_releaseLine (h : a.Keeps s.account) (n : Node) (o : Output) : a.Keeps (releaseLine n o s).account :=
  keeps_driveLine h ..

@[simp] theorem account_cutSettleExpires (n : Node) (s : State) : (cutSettleExpires n s).account = s.account := by
  unfold cutSettleExpires
  dsimp only
  split <;> simp

/-! ## The executor -/

@[simp] theorem account_enterState (n : Node) (x : ExecState) (s : State) : (enterState n x s).account = s.account := account_updRun ..

@[simp] theorem account_touch (n : Node) (o : Output) (s : State) : (touch n o s).account = s.account := account_updRun ..

@[simp] theorem keeps_releaseTouched (h : a.Keeps s.account) (n : Node) (v : Vector Bool 4) :
    a.Keeps (releaseTouched n v s).account :=
  keeps_foldl (fun t o ht => by split <;> simp [ht]) _ h

@[simp] theorem keeps_endExec (h : a.Keeps s.account) (n : Node) (r : PlanResult) (k : Nat) : a.Keeps (endExec n r k s).account := by
  unfold endExec
  split
  · exact h
  · dsimp only
    split <;> simp (maxDischargeDepth := 40) [h]

@[simp] theorem account_sendStep (n : Node) (x : List TxItem) (s : State) : (sendStep n x s).2.account = s.account := by
  unfold sendStep
  split
  · rfl
  · split <;> simp

@[simp] theorem account_takeSlotStep (n : Node) (k : Nat) (s : State) : (takeSlotStep n k s).2.account = s.account := by
  unfold takeSlotStep
  split <;> simp

@[simp] theorem keeps_mediaStep (h : a.Keeps s.account) (n : Node) (u : Lun) (b : Bool) : a.Keeps (mediaStep n u b s).2.account := by
  unfold mediaStep
  split
  · split <;> simp [h]
  · simp [h]

@[simp] theorem keeps_doStep (h : a.Keeps s.account) (n : Node) (k : StepKind) : a.Keeps (doStep n k s).2.account := by
  unfold doStep
  repeat' split
  all_goals simp [h]

@[simp] theorem keeps_runFrom (k : Nat) (n : Node) (j : Nat) (h : a.Keeps s.account) : a.Keeps (runFrom k n j s).account := by
  induction k generalizing j s with
  | zero => exact h
  | succ k ih =>
    unfold runFrom
    split
    · exact h
    · split
      · exact keeps_endExec h ..
      · split
        · exact keeps_endExec h ..
        · rename_i st _
          have hstep := keeps_doStep (a := a) (s := s.updRun n fun r =>
            { r with state := .runningStep, step := j, stepStart := s.timebase, started := r.started + 1 }) (by simp [h]) n st.kind
          dsimp only
          split
          · rename_i e; rw [e] at hstep; exact hstep
          · rename_i e
            rw [e] at hstep
            split
            · exact ih _ hstep
            · exact keeps_endExec hstep ..
          · rename_i e
            rw [e] at hstep
            split
            · exact keeps_endExec hstep ..
            · exact ih _ hstep

@[simp] theorem keeps_completeStep (h : a.Keeps s.account) (n : Node) : a.Keeps (completeStep n s).account := by
  unfold completeStep
  split
  · exact h
  · split <;> simp [h]

@[simp] theorem keeps_failStep (h : a.Keeps s.account) (n : Node) : a.Keeps (failStep n s).account := by
  unfold failStep
  split
  · dsimp only
    split <;> simp [h]
  · exact h

@[simp] theorem keeps_startExec (h : a.Keeps s.account) (n : Node) (p : Fin 16) (k : Nat) (o : Origin) :
    a.Keeps (startExec n p k o s).account := by simp [startExec, h]

theorem keeps_offerStart (h : a.Keeps s.account) {n : Node} {p : Fin 16} {o : Origin} {t : State} {q : Option (Fin 16)}
    (e : offerStart n p o s = .started t q) : a.Keeps t.account := by
  unfold offerStart at e
  split at e
  · cases e
  · split at e
    · cases e
    · split at e
      · injection e with e _; subst e; simp [h]
      · split at e
        · injection e with e _; subst e; simp [h]
        · cases e

@[simp] theorem keeps_execOnView (h : a.Keeps s.account) (n : Node) (v : View) : a.Keeps (execOnView n v s).account := by
  unfold execOnView
  dsimp only
  repeat' split
  all_goals simp [h]

theorem keeps_withView (n : Node) (f : State → State) (hf : a.Keeps (f s).account) : a.Keeps (withView n f s).account :=
  keeps_execOnView hf ..

@[simp] theorem keeps_execOnInput (h : a.Keeps s.account) (n : Node) (i : Input) : a.Keeps (execOnInput n i s).account := by
  unfold execOnInput
  split
  · split <;> simp [h]
  · exact h

@[simp] theorem keeps_acceptedChange (h : a.Keeps s.account) (n : Node) (i : Input) : a.Keeps (acceptedChange n i s).account := by
  have hview : a.Keeps (withView n (recomputeView n) s).account := keeps_withView _ _ (keeps_recomputeView h _)
  unfold acceptedChange
  dsimp only
  apply keeps_execOnInput
  split
  · split <;> simp [hview]
  · simp [h]

@[simp] theorem keeps_acceptLevel (h : a.Keeps s.account) (n : Node) (i : Input) (b : Bool) : a.Keeps (acceptLevel n i b s).account := by
  simp [acceptLevel, h]

@[simp] theorem keeps_pinChanges (h : a.Keeps s.account) (n : Node) (i : Input) (b : Bool) : a.Keeps (pinChanges n i b s).account := by
  unfold pinChanges
  dsimp only
  repeat' split
  all_goals simp [h]

@[simp] theorem keeps_debounceExpires (h : a.Keeps s.account) (n : Node) (i : Input) : a.Keeps (debounceExpires n i s).account :=
  keeps_acceptLevel h ..

@[simp] theorem keeps_pulseExpires (h : a.Keeps s.account) (n : Node) (o : Output) : a.Keeps (pulseExpires n o s).account := by
  have hview : a.Keeps (withView n (releaseLine n o) s).account := keeps_withView _ _ (keeps_releaseLine h ..)
  unfold pulseExpires
  dsimp only
  repeat' split
  all_goals simp [hview]

@[simp] theorem keeps_retryQueue (h : a.Keeps s.account) (n : Node) : a.Keeps (retryQueue n s).account := by
  unfold retryQueue
  split
  · exact h
  · dsimp only
    split <;> simp [h]

@[simp] theorem keeps_beginItem (h : a.Keeps s.account) (n : Node) : a.Keeps (beginItem n s).account := by
  unfold beginItem
  split <;> simp [h]

@[simp] theorem keeps_flushOp (h : a.Keeps s.account) (n : Node) : a.Keeps (flushOp n s).account := by simp [flushOp, h]

@[simp] theorem keeps_holdExpires (h : a.Keeps s.account) (n : Node) : a.Keeps (holdExpires n s).account := by
  unfold holdExpires
  dsimp only
  split <;> simp [h]

/-! ## Patterns and the receiver -/

@[simp] theorem keeps_offerPlan (h : a.Keeps s.account) (n : Node) (i : Fin 8) (p : Fin 16) : a.Keeps (offerPlan n i p s).2.account := by
  unfold offerPlan
  split
  · exact keeps_offerStart h ‹_›
  · simp [h]

@[simp] theorem keeps_hitAction (h : a.Keeps s.account) (n : Node) (i : Fin 8) (x : PatAction) :
    a.Keeps (hitAction n i x s).2.account := by
  unfold hitAction
  split <;> simp [h]

@[simp] theorem keeps_armedHit (h : a.Keeps s.account) (n : Node) (i : Fin 8) : a.Keeps (armedHit n i s).2.account := by
  unfold armedHit
  split
  · exact h
  · dsimp only
    split <;> simp [h]

theorem keeps_handleHit {x : Bool × State} (h : a.Keeps x.2.account) (n : Node) (y : Hit) : a.Keeps (handleHit n x y).2.account := by
  unfold handleHit
  dsimp only
  repeat' split
  all_goals simp [h]

@[simp] theorem keeps_testWindow (h : a.Keeps s.account) (n : Node) : a.Keeps (testWindow n s).account := by
  have hhits (l : List Hit) (x : Bool × State) (hx : a.Keeps x.2.account) : a.Keeps (l.foldl (handleHit n) x).2.account := by
    induction l generalizing x with
    | nil => exact hx
    | cons y l ih => exact ih _ (keeps_handleHit hx n y)
  exact hhits _ (true, s) h

@[simp] theorem keeps_windowByte (h : a.Keeps s.account) (n : Node) (b : Byte) : a.Keeps (windowByte n b s).account :=
  keeps_testWindow (by rw [account_updNode _ _ _ rfl rfl rfl]; exact h) n

@[simp] theorem keeps_deliverByte (h : a.Keeps s.account) (n : Node) (b : Byte) (f p : Bool) :
    a.Keeps (deliverByte n b f p s).account := by
  unfold deliverByte
  dsimp only
  repeat' split
  all_goals simp [h]

@[simp] theorem keeps_breakStarts (h : a.Keeps s.account) (n : Node) : a.Keeps (breakStarts n s).account := by
  unfold breakStarts
  dsimp only
  rw [account_updNode _ _ _ rfl rfl rfl]
  simp [h]

@[simp] theorem keeps_receiveChar (h : a.Keeps s.account) (n : Node) (b : Byte) (f p : Bool) :
    a.Keeps (receiveChar n b f p s).account := by
  unfold receiveChar
  dsimp only
  repeat' split
  all_goals simp [h]

@[simp] theorem keeps_idleGapExpires (h : a.Keeps s.account) (n : Node) : a.Keeps (idleGapExpires n s).account := keeps_closeOpen h ..

end Sys2Proof.Machine

/-! # The pages and the requests -/

namespace Sys2Proof.Machine

open Sys2Proof

variable {a : Account} {s : State}

/-! ## The settings of a ring -/

theorem evictLine_eq_none : evictLine s = none ↔ ∀ l ∈ s.cache.lines, l.evictable = false := by
  unfold evictLine
  split
  · rename_i hany
    simp only [reduceCtorEq, false_iff]
    exact fun hall => by simp [List.any_eq_true] at hany; obtain ⟨l, hl, he⟩ := hany; simp [hall l hl] at he
  · rename_i hany
    simpa using hany

/-- An evicted line takes its eight pages from the supply (R27). -/
theorem supply_evictLine {t : State} (h : evictLine s = some t) : t.supply + 8 = s.supply := by
  unfold evictLine at h
  split at h
  · rename_i hany
    cases h
    obtain ⟨l, hl, hle⟩ := List.any_eq_true.1 hany
    obtain ⟨x, before, after, hbefore, hx, hlines, herase⟩ := List.exists_of_eraseP hl hle
    simp only [State.supply, updCache_cache, updCache_pool, Config.linePages]
    rw [herase, hlines]
    simp only [List.filter_append, List.filter_cons_of_pos hx, List.length_append, List.length_cons]
    omega
  · cases h

theorem total_addSpare (n : Node) (s : State) :
    (s.updHist n fun h => { h with spare := h.spare + 1 }).account.total = s.account.total + 1 := by
  have htotal := total_holding s.account n (s.account.holding n + 1)
  rw [account_updHist_holding]
  · exact Nat.add_right_cancel (htotal.trans (by omega))
  · exact fun _ => rfl

theorem owners_addSpare (n : Node) (s : State) :
    (s.updHist n fun h => { h with spare := h.spare + 1 }).account.owners = s.account.owners := by
  rw [account_updHist_holding]
  · rfl
  · exact fun _ => rfl

/-- A ring obtains the pages it asks for where the supply covers them (R27). -/
theorem gainPages_takes (n : Node) {k : Nat} (hk : k ≤ s.supply) :
    (gainPages n k s).account.total = s.account.total ∧ (gainPages n k s).account.owners = s.account.owners := by
  induction k generalizing s with
  | zero => exact ⟨rfl, rfl⟩
  | succ k ih =>
    unfold gainPages
    split
    · rename_i hfree
      have hpool := total_updPool s fun p => { p with free := p.free - 1 }
      have hspare := total_addSpare n (s.updPool fun p => { p with free := p.free - 1 })
      obtain ⟨htotal, howners⟩ := ih (s := (s.updPool fun p => { p with free := p.free - 1 }).updHist n fun h =>
        { h with spare := h.spare + 1 }) (by
          simp only [State.supply, updHist_pool, updHist_cache, updPool_pool, updPool_cache] at hk ⊢
          omega)
      dsimp only at hpool
      exact ⟨by omega, howners.trans (owners_addSpare ..)⟩
    · split
      · rename_i hfree hnone
        have hall := evictLine_eq_none.1 hnone
        have hfilter : s.cache.lines.filter Line.evictable = [] := List.filter_eq_nil_iff.2 fun l hl => by simp [hall l hl]
        simp only [State.supply, hfilter, List.length_nil] at hk
        omega
      · rename_i t ht
        have hpool := total_updPool t fun p => { p with free := p.free + (Config.linePages - 1) }
        have hspare := total_addSpare n (t.updPool fun p => { p with free := p.free + (Config.linePages - 1) })
        have hevict := total_evictLine ht
        have hsupply := supply_evictLine ht
        obtain ⟨htotal, howners⟩ := ih (s := (t.updPool fun p => { p with free := p.free + (Config.linePages - 1) }).updHist n fun h =>
          { h with spare := h.spare + 1 }) (by
            simp only [State.supply, updHist_pool, updHist_cache, updPool_pool, updPool_cache, Config.linePages] at hsupply hk ⊢
            omega)
        dsimp only [Config.linePages] at hpool hspare htotal ⊢
        exact ⟨by omega, howners.trans ((owners_addSpare ..).trans ((owners_updPool ..).trans (owners_evictLine ht)))⟩

/-- A ring gives up pages to the free list as long as it has more than its current one (R28). -/
theorem losePages_gives (n : Node) {k : Nat} (hk : k < (s.node n).hist.holding) :
    (losePages n k s).account.total = s.account.total ∧ (losePages n k s).account.owners = s.account.owners := by
  induction k generalizing s with
  | zero => exact ⟨rfl, rfl⟩
  | succ k ih =>
    have hgive := account_giveUpPage (n := n) (s := s) (by omega)
    have hpool := total_updPool (giveUpPage n s) fun p => { p with free := p.free + 1 }
    have htotal := total_holding s.account n ((s.node n).hist.holding - 1)
    have hwas : s.account.holding n = (s.node n).hist.holding := rfl
    have hleft : (((giveUpPage n s).updPool fun p => { p with free := p.free + 1 }).node n).hist.holding = (s.node n).hist.holding - 1 := by
      change (giveUpPage n s).account.holding n = _
      rw [hgive]
      exact Function.update_self ..
    obtain ⟨hltotal, hlowners⟩ := ih (s := (giveUpPage n s).updPool fun p => { p with free := p.free + 1 }) (by omega)
    rw [← hgive] at htotal
    dsimp only at hpool
    refine ⟨by rw [losePages]; omega, hlowners.trans ?_⟩
    rw [owners_updPool, hgive]
    rfl

/-- New settings of a ring that the supply covers move pages and lose none (R26 to R28). -/
theorem setRing_keeps (n : Node) {reserve maximum : Nat} (hr : s.account.Reserved) (h1 : 1 ≤ reserve) (hm : reserve ≤ maximum)
    (hk : reserve - (s.node n).hist.holding ≤ s.supply) :
    (setRing n reserve maximum s).account.Reserved ∧ (setRing n reserve maximum s).account.total = s.account.total := by
  unfold setRing
  dsimp only
  obtain ⟨hgtotal, hgowners⟩ := gainPages_takes n hk
  have hset : ((gainPages n (reserve - (s.node n).hist.holding) s).updHist n fun h =>
      { h with reserve := reserve, maximum := maximum }).account =
        { (gainPages n (reserve - (s.node n).hist.holding) s).account with
          reserve := Function.update (gainPages n (reserve - (s.node n).hist.holding) s).account.reserve n reserve } := by
    rw [account_updHist]
    exact congrArg (fun f => Account.mk _ _ f _ _ _ _) (Function.update_eq_self ..)
  have hreserved := Account.reserved_of_owners hgowners hr
  generalize gainPages n (reserve - (s.node n).hist.holding) s = g at *
  have hset1 : (g.updHist n fun h => { h with reserve := reserve, maximum := maximum }).account.Reserved := by
    rw [hset]
    intro m
    dsimp only
    rw [Function.update_apply]
    split
    · exact h1
    · exact hreserved m
  have hset2 : (g.updHist n fun h => { h with reserve := reserve, maximum := maximum }).account.total = s.account.total := by
    rw [hset, ← hgtotal]
    rfl
  have hlose := losePages_gives n (s := g.updHist n fun h => { h with reserve := reserve, maximum := maximum })
    (k := ((g.updHist n fun h => { h with reserve := reserve, maximum := maximum }).node n).hist.holding - maximum) (by
      have hpos : 0 < ((g.updHist n fun h => { h with reserve := reserve, maximum := maximum }).node n).hist.holding := by
        simp only [History.holding]
        omega
      omega)
  generalize (g.updHist n fun h => { h with reserve := reserve, maximum := maximum }) = u at *
  obtain ⟨hltotal, hlowners⟩ := hlose
  have hlost := Account.reserved_of_owners hlowners hset1
  split
  · obtain ⟨hrowners, hrtotal⟩ := trades_retryWaiting _ hlost
    exact ⟨Account.reserved_of_owners hrowners hlost, hrtotal.trans (hltotal.trans hset2)⟩
  · exact ⟨hlost, hltotal.trans hset2⟩

end Sys2Proof.Machine

/-! # The pages and the requests -/

namespace Sys2Proof.Machine

open Sys2Proof

variable {a : Account} {s : State}

/-! ## The page pool -/

theorem le_clamp {lo hi : Nat} (h : lo ≤ hi) (v : Nat) : lo ≤ clamp lo hi v := by
  unfold clamp
  split <;> [exact le_rfl; split <;> omega]

@[simp] theorem keeps_poolConfigRequest (h : a.Keeps s.account) (p : List Byte) : a.Keeps (poolConfigRequest p s).1.account := by
  unfold poolConfigRequest
  split
  · exact h
  · rename_i n _
    dsimp only
    split
    · exact h
    · split
      · exact h
      · rename_i hsupply
        have hreserve := le_clamp (lo := 4) (hi := 64) (by decide) (u16 p 1)
        have hmaximum := le_clamp ((clamp_le 4 64 (u16 p 1) (by decide)).trans (by decide : 64 ≤ 256)) (u16 p 3)
        have hset (hr : s.account.Reserved) := setRing_keeps n hr (by omega) hmaximum (Nat.le_of_not_lt hsupply)
        exact h.trans ⟨fun hr => (hset hr).1, fun hr => (hset hr).2⟩

/-! ## Console, lines and plans -/

@[simp] theorem keeps_setConsole (h : a.Keeps s.account) (n : Node) (c : Settings) : a.Keeps (setConsole n c s).account := by
  have hrate (t : State) (ht : a.Keeps t.account) (p : Prop) [Decidable p] (k : Nat) :
      a.Keeps (if p then appendMarker n 7 k t else t).account := by
    split <;> simp [ht]
  unfold setConsole
  dsimp only
  generalize hu : (if c.rate ≠ (s.node n).rx.settings.rate ∨ c.parity ≠ (s.node n).rx.settings.parity then _ else _ : State) = u
  have hkeeps : a.Keeps u.account := by
    rw [← hu]
    apply hrate
    split <;> simp [h]
  split
  · exact hkeeps
  · split <;> simp [hkeeps]

@[simp] theorem keeps_conConfigRequest (h : a.Keeps s.account) (p : List Byte) : a.Keeps (conConfigRequest p s).1.account := by
  unfold conConfigRequest
  split
  · exact h
  · split
    · split <;> simp [h]
    · exact h

@[simp] theorem account_histReadRequest (p : List Byte) (s : State) : (histReadRequest p s).1.account = s.account := by
  unfold histReadRequest
  split <;> rfl

@[simp] theorem account_streamSetRequest (p : List Byte) (s : State) : (streamSetRequest p s).1.account = s.account := by
  unfold streamSetRequest
  split <;> simp

@[simp] theorem account_injectItems (n : Node) (b : Bool) (x : List TxItem) (s : State) :
    (injectItems n b x s).1.account = s.account := by
  unfold injectItems
  split
  · rfl
  · split <;> simp

@[simp] theorem account_conInjectRequest (p : List Byte) (s : State) : (conInjectRequest p s).1.account = s.account := by
  unfold conInjectRequest
  split <;> simp

@[simp] theorem account_conBreakRequest (p : List Byte) (s : State) : (conBreakRequest p s).1.account = s.account := by
  unfold conBreakRequest
  split <;> simp

@[simp] theorem keeps_conFlushRequest (h : a.Keeps s.account) (p : List Byte) : a.Keeps (conFlushRequest p s).1.account := by
  unfold conFlushRequest
  split <;> simp [h]

@[simp] theorem account_textLoadRequest (p : List Byte) (s : State) : (textLoadRequest p s).1.account = s.account := by
  unfold textLoadRequest
  split
  · rfl
  · split <;> rfl

@[simp] theorem account_patLoadRequest (p : List Byte) (s : State) : (patLoadRequest p s).1.account = s.account := by
  unfold patLoadRequest
  split
  · split
    · split
      · rfl
      · exact account_updNode _ _ _ rfl rfl rfl
    · rfl
  · rfl

@[simp] theorem account_patArmRequest (p : List Byte) (s : State) : (patArmRequest p s).1.account = s.account := by
  unfold patArmRequest
  split
  · split
    · split <;> rfl
    · simp
  · rfl

@[simp] theorem account_configOutput (n : Node) (o : Output) (x y : Bool) (k : Nat) (s : State) :
    (configOutput n o x y k s).1.account = s.account := by
  unfold configOutput
  split
  · rfl
  · dsimp only
    simp only [accepted_fst]
    split
    · split <;> simp
    · simp

@[simp] theorem keeps_setInput (h : a.Keeps s.account) (n : Node) (i : Input) (b : Bool) (k : Nat) :
    a.Keeps (setInput n i b k s).account := by
  unfold setInput
  dsimp only
  split <;> split <;> simp [h]

@[simp] theorem keeps_configInput (h : a.Keeps s.account) (n : Node) (i : Input) (b : Bool) (k : Nat) :
    a.Keeps (configInput n i b k s).1.account := keeps_setInput h ..

@[simp] theorem keeps_lineConfigRequest (h : a.Keeps s.account) (p : List Byte) : a.Keeps (lineConfigRequest p s).1.account := by
  unfold lineConfigRequest
  split
  · split <;> simp [h]
  · split <;> simp [h]
  · exact h

@[simp] theorem keeps_lineSetOp (h : a.Keeps s.account) (n : Node) (o : Output) (x : LineAction) (k : Nat) :
    a.Keeps (lineSetOp n o x k s).account :=
  keeps_withView _ _ (by cases x <;> simp [h])

@[simp] theorem keeps_lineSetRequest (h : a.Keeps s.account) (p : List Byte) : a.Keeps (lineSetRequest p s).1.account := by
  unfold lineSetRequest
  split
  · split <;> simp [h]
  · exact h

@[simp] theorem account_planLoadRequest (p : List Byte) (s : State) : (planLoadRequest p s).1.account = s.account := by
  unfold planLoadRequest
  dsimp only
  repeat' split
  all_goals rfl

@[simp] theorem keeps_planStartRequest (h : a.Keeps s.account) (p : List Byte) : a.Keeps (planStartRequest p s).1.account := by
  unfold planStartRequest
  split
  · split
    · exact h
    · exact keeps_offerStart h ‹_›
  · exact h

@[simp] theorem keeps_abortOp (h : a.Keeps s.account) (n : Node) : a.Keeps (abortOp n s).account := by
  unfold abortOp
  split <;> simp [h]

@[simp] theorem keeps_planAbortRequest (h : a.Keeps s.account) (p : List Byte) : a.Keeps (planAbortRequest p s).1.account := by
  unfold planAbortRequest
  split <;> simp [h]

@[simp] theorem account_inrushConfigRequest (p : List Byte) (s : State) : (inrushConfigRequest p s).1.account = s.account := by
  unfold inrushConfigRequest
  split <;> simp

/-! ## Ports and drives -/

@[simp] theorem keeps_setPort (h : a.Keeps s.account) (n : Node) (x y : Bool) (k : Nat) (z : Bool) :
    a.Keeps (setPort n x y k z s).account := by
  unfold setPort
  dsimp only
  split <;> simp [h]

@[simp] theorem keeps_portConfigRequest (h : a.Keeps s.account) (p : List Byte) : a.Keeps (portConfigRequest p s).1.account := by
  unfold portConfigRequest
  split <;> simp [h]

/-- A node's descriptor page is the one it has, or one taken for it (R34). -/
theorem obtainDescPage_takes {n : Node} {t : State} (h : obtainDescPage n s = some t) (hr : s.account.Reserved) :
    t.account.total + 1 = s.account.total + (s.account.desc n).toNat ∧ t.account.owners = s.account.owners := by
  unfold obtainDescPage at h
  have hdesc : s.account.desc n = (s.node n).port.desc.isSome := rfl
  split at h
  · rename_i hsome
    cases h
    rw [hdesc, hsome]
    exact ⟨rfl, rfl⟩
  · rename_i hnone
    rw [hdesc, Bool.eq_false_iff.2 hnone, Bool.toNat_false]
    split at h
    · cases h
      have hpool := total_updPool s fun p => { p with free := p.free - 1 }
      dsimp only at hpool
      exact ⟨by omega, rfl⟩
    · obtain ⟨u, hu, rfl⟩ := Option.map_eq_some_iff.1 h
      have hevict := total_evictLine hu
      obtain ⟨howners, htotal⟩ := pagesJoin_adds (Config.linePages - 1) (Account.reserved_of_owners (owners_evictLine hu) hr)
      simp only [Config.linePages] at htotal howners ⊢
      exact ⟨by omega, howners.trans (owners_evictLine hu)⟩

/-- The page a node has obtained holds its descriptor set (R125). -/
theorem keeps_loadDesc (h : a.Keeps s.account) {n : Node} {t : State} (ht : obtainDescPage n s = some t) (d : DescSet) :
    a.Keeps (t.updPort n fun q => { q with desc := some d }).account := by
  refine h.trans ?_
  have hset := total_desc t.account n true
  rw [account_updPort_desc]
  refine ⟨fun hr => ?_, fun hr => ?_⟩
  · exact Account.reserved_of_owners (b := t.account) (obtainDescPage_takes ht hr).2 hr
  · obtain ⟨htotal, howners⟩ := obtainDescPage_takes ht hr
    have hsame : t.account.desc = s.account.desc := congrArg (fun o => o.2.2.1) howners
    rw [hsame] at hset
    dsimp only [Option.isSome_some]
    rw [hsame]
    rw [Bool.toNat_true] at hset
    omega

@[simp] theorem keeps_descLoadRequest (h : a.Keeps s.account) (p : List Byte) : a.Keeps (descLoadRequest p s).1.account := by
  unfold descLoadRequest
  split
  · exact h
  · split
    · exact h
    · split
      · split
        · exact h
        · exact keeps_connectTest (keeps_loadDesc h ‹_› _) _
      · exact h

@[simp] theorem keeps_driveInsertRequest (h : a.Keeps s.account) (p : List Byte) : a.Keeps (driveInsertRequest p s).1.account := by
  unfold driveInsertRequest
  split <;> simp [h]

@[simp] theorem keeps_driveEjectRequest (h : a.Keeps s.account) (p : List Byte) : a.Keeps (driveEjectRequest p s).1.account := by
  unfold driveEjectRequest
  split <;> simp [h]

@[simp] theorem keeps_cacheDropRequest (h : a.Keeps s.account) (p : List Byte) : a.Keeps (cacheDropRequest p s).1.account := by
  unfold cacheDropRequest
  split
  · split <;> simp [h]
  · exact h

@[simp] theorem account_cacheConfigRequest (p : List Byte) (s : State) : (cacheConfigRequest p s).1.account = s.account := by
  unfold cacheConfigRequest
  split <;> simp

/-! ## Events and the link -/

@[simp] theorem account_eventConfigRequest (p : List Byte) (s : State) : (eventConfigRequest p s).1.account = s.account := by
  unfold eventConfigRequest
  dsimp only
  split <;> rfl

@[simp] theorem account_eventTakeRequest (p : List Byte) (s : State) : (eventTakeRequest p s).1.account = s.account := by
  have htake (t : State) : (afterTake t).account = t.account := by
    unfold afterTake
    split
    · exact account_offerSummary _
    · rfl
  unfold eventTakeRequest
  dsimp only
  split
  · rfl
  · exact htake _

@[simp] theorem account_partResetRequest (tag : Byte) (s : State) : (partResetRequest tag s).1.account = s.account := by
  unfold partResetRequest
  split <;> simp

/-- The requests that report and change nothing. -/
@[simp] theorem account_reports (p : List Byte) (s : State) : (patStateRequest p s).1.account = s.account ∧
    (nodeStateRequest p s).1.account = s.account ∧ (planStateRequest p s).1.account = s.account ∧
    (portStateRequest p s).1.account = s.account ∧ (driveStateRequest p s).1.account = s.account := by
  unfold patStateRequest nodeStateRequest planStateRequest portStateRequest driveStateRequest
  exact ⟨by split <;> rfl, by split <;> rfl, by split <;> rfl, by split <;> rfl, by split <;> rfl⟩

@[simp] theorem keeps_runRequest (h : a.Keeps s.account) (k : Nat) (tag : Byte) (p : List Byte) :
    a.Keeps (runRequest k tag p s).1.account := by
  unfold runRequest
  split <;> simp [h, nopRequest, partInfoRequest, linkConfigRequest, poolStateRequest, cacheStateRequest]

end Sys2Proof.Machine

/-! # The pages and the commands -/

namespace Sys2Proof.Machine

open Sys2Proof

variable {a : Account} {s : State}

/-! ## Answers -/

@[simp] theorem keeps_fetchDataAnswer (h : a.Keeps s.account) (p : List Byte) : a.Keeps (fetchDataAnswer p s).account := by
  unfold fetchDataAnswer
  split
  · simp [h]
  · dsimp only
    split
    · simp [h]
    · split
      · simp [h]
      · split <;> simp [h]

@[simp] theorem keeps_fetchFailAnswer (h : a.Keeps s.account) (p : List Byte) : a.Keeps (fetchFailAnswer p s).account := by
  unfold fetchFailAnswer
  split <;> simp [h]

@[simp] theorem keeps_slotWaitExpires (h : a.Keeps s.account) (n : Node) : a.Keeps (slotWaitExpires n s).account := by
  simp [slotWaitExpires, h]

@[simp] theorem keeps_allocationExpires (h : a.Keeps s.account) (n : Node) : a.Keeps (allocationExpires n s).account := by
  simp [allocationExpires, h]

/-- An entry in use that fails gives its page to the free list (R185). -/
theorem keeps_entryFails (h : a.Keeps s.account) {i : Fin 32} {w : WriteUse} (hi : s.cache.writes[i].use = some w) (c : MediaCause) :
    a.Keeps (entryFails i w c s).account := by
  have hend := keeps_endEntry h (i := i) (by rw [hi]; rfl)
  unfold entryFails
  dsimp only
  split <;> simp [hend]

theorem keeps_entryPasses (h : a.Keeps s.account) {i : Fin 32} {w : WriteUse} (hi : s.cache.writes[i].use = some w) :
    a.Keeps (entryPasses i w s).account := by
  have hend := keeps_endEntry h (i := i) (by rw [hi]; rfl)
  unfold entryPasses
  split <;> simp [hend]

@[simp] theorem keeps_writeDoneAnswer (h : a.Keeps s.account) (p : List Byte) : a.Keeps (writeDoneAnswer p s).account := by
  unfold writeDoneAnswer
  split
  · simp [h]
  · split
    · simp [h]
    · split
      · split
        · exact keeps_entryPasses h ‹_›
        · exact keeps_entryFails h ‹_› _
      · simp [h]

@[simp] theorem keeps_entryExpires (h : a.Keeps s.account) (i : Fin 32) : a.Keeps (entryExpires i s).account := by
  unfold entryExpires
  split
  · exact h
  · exact keeps_entryFails h ‹_› _

@[simp] theorem keeps_fwdResultAnswer (h : a.Keeps s.account) (p : List Byte) : a.Keeps (fwdResultAnswer p s).account := by
  unfold fwdResultAnswer
  split
  · simp [h]
  · dsimp only
    split <;> simp [h]

@[simp] theorem account_forwardExpires (n : Node) (s : State) : (forwardExpires n s).account = s.account := by simp [forwardExpires]

@[simp] theorem keeps_runAnswer (h : a.Keeps s.account) (k : Nat) (p : List Byte) : a.Keeps (runAnswer k p s).account := by
  unfold runAnswer
  split <;> simp [h]

/-! ## Frames -/

theorem keeps_replyTo (k tag : Byte) {x : State × Option Reply} (h : a.Keeps x.1.account) : a.Keeps (replyTo k tag x).account := by
  unfold replyTo
  split <;> simp [h]

@[simp] theorem keeps_dispose (h : a.Keeps s.account) (k tag : Byte) (p : List Byte) : a.Keeps (dispose k tag p s).account := by
  unfold dispose
  split
  · simp [h]
  · split
    · split <;> simp [h]
    · split
      · simp [h]
      · split
        · simp [h]
        · simp [h]
        · exact keeps_replyTo _ _ (keeps_runRequest h _ _ _)

@[simp] theorem keeps_takeFrame (h : a.Keeps s.account) (k tag : Byte) (p : List Byte) : a.Keeps (takeFrame k tag p s).account := by
  unfold takeFrame
  dsimp only
  split <;> simp [h]

@[simp] theorem account_setInbound (x : Inbound) (s : State) : (setInbound x s).account = s.account := account_updLink ..

theorem account_afterHeader (k tag : Byte) (n : Nat) (s : State) : (afterHeader k tag n s).account = s.account := by
  unfold afterHeader
  split <;> simp

theorem keeps_byteIn (h : a.Keeps s.account) (b : Byte) : a.Keeps (byteIn s b).account := by
  unfold byteIn
  split
  case h_8 => split <;> simp [h]
  all_goals simp [h, account_afterHeader]

@[simp] theorem keeps_feed (h : a.Keeps s.account) (bs : List Byte) : a.Keeps (feed bs s).account := by
  unfold feed
  split
  · exact keeps_foldl (fun _ b ht => keeps_byteIn ht b) bs h
  · exact h

@[simp] theorem keeps_frameIn (h : a.Keeps s.account) (k tag : Byte) (p : List Byte) : a.Keeps (frameIn k tag p s).account :=
  keeps_feed h _

/-! ## The loss of the link -/

theorem account_setBackCursor (q : List Frame) (s : State) (n : Node) : (setBackCursor q s n).account = s.account := by
  unfold setBackCursor
  dsimp only
  split
  · rfl
  · split
    · rfl
    · split
      · simp
      · split <;> simp
      · rfl

theorem keeps_entryLost (h : a.Keeps s.account) (i : Fin 32) : a.Keeps (entryLost s i).account := by
  unfold entryLost
  split
  · exact h
  · rename_i hi
    simp [keeps_endEntry h (i := i) (by rw [hi]; rfl)]

theorem account_emptyLists (s : State) : (emptyLists s).account = s.account := account_of_eq rfl rfl rfl rfl

@[simp] theorem keeps_loseHostWork (h : a.Keeps s.account) : a.Keeps (loseHostWork s).account := by
  unfold loseHostWork
  dsimp only
  refine keeps_foldl (fun t n ht => ?_) _ (keeps_foldl (fun t n ht => ?_) _ (keeps_foldl (fun t i ht => ?_) _
    (keeps_foldl (fun t i ht => ?_) _ (keeps_foldl (fun t n ht => ?_) _ ?_))))
  · split <;> simp [ht]
  · simp [ht]
  · exact keeps_entryLost ht i
  · simp [ht]
  · simp [ht]
  · rw [account_emptyLists]; exact h

@[simp] theorem keeps_silenceExpires (h : a.Keeps s.account) : a.Keeps (silenceExpires s).account := by
  unfold silenceExpires
  dsimp only
  refine keeps_loseHostWork (keeps_foldl (fun t n ht => ?_) _ ?_)
  · rw [account_setBackCursor]; exact ht
  · exact h

@[simp] theorem account_headLeaves (s : State) : (headLeaves s).account = s.account := by
  unfold headLeaves
  split <;> simp

/-! ## Time -/

@[simp] theorem account_due (s : State) (l : List Timer) : ({ s with due := l } : State).account = s.account :=
  account_of_eq rfl rfl rfl rfl

@[simp] theorem keeps_onExpiry (h : a.Keeps s.account) (x : Timer) : a.Keeps (onExpiry x s).account := by
  unfold onExpiry fetchExpires connectExpires
  cases x <;> simp [h]

@[simp] theorem keeps_fire (h : a.Keeps s.account) (x : Timer) : a.Keeps (fire x s).account := by
  unfold fire
  split
  · exact keeps_onExpiry (by rw [account_due]; exact h) x
  · exact h

theorem keeps_settle (h : a.Keeps s.account) : a.Keeps (settle s).account :=
  keeps_foldl (fun _ n ht => keeps_beginItem ht n) _ (keeps_foldl (fun _ x ht => keeps_fire ht x) _ h)

@[simp] theorem keeps_tick (h : a.Keeps s.account) : a.Keeps (tick s).account := by
  have hsame : (tick s).account = (settle s).account := account_of_eq rfl rfl rfl rfl
  rw [hsame]
  exact keeps_settle h

/-! ## Resets -/

/-- The account of a part whose 1024 pages all have an owner and whose rings all have a reserve. -/
structure Account.Full (a : Account) : Prop where
  reserved : a.Reserved
  total : a.total = Config.poolPages

theorem Account.Full.of_keeps {b : Account} (h : a.Full) (k : a.Keeps b) : b.Full :=
  ⟨k.reserved h.reserved, (k.total h.reserved).trans h.total⟩

/-- The pages after a part reset: the free ones and the sixteen of each ring's reserve (R26). -/
def Account.reset : Account :=
  { free := 960, lines := 0, holding := fun _ => 16, reserve := fun _ => 16, filling := fun _ => false, desc := fun _ => false,
    entries := List.replicate 32 none }

theorem account_partReset (r : Byte) (x : Txn) (s : State) : (partReset r x s).account = Account.reset := by
  have hnode (n : Node) : (partReset r x s).node n = NodeState.reset (s.node n).lines.pgood.pin (s.node n).lines.auxin.pin :=
    Vector.getElem_map ..
  simp only [State.account, hnode]
  rfl

theorem full_partReset (r : Byte) (x : Txn) (s : State) : (partReset r x s).account.Full := by
  rw [account_partReset]
  exact ⟨fun _ => (by decide : 1 ≤ 16), by decide⟩

theorem full_finishReset (h : s.account.Full) (tag : Byte) : (finishReset tag s).account.Full := by
  unfold finishReset
  split
  · refine h.of_keeps ?_
    dsimp only
    split <;> simp
  · exact full_partReset ..

theorem full_csnRises (h : s.account.Full) : (csnRises s).account.Full := by
  have hcut (c : Bool) (f : Link → Link) : ((if c then discardFrame .cutFrame s else s).updLink f).account.Full := by
    rw [account_updLink]
    split
    · rw [account_discardFrame]; exact h
    · exact h
  unfold csnRises
  dsimp only
  split
  · exact hcut ..
  · exact full_finishReset (hcut ..) _

theorem full_endTransaction (h : s.account.Full) (tail : List Byte) : (endTransaction tail s).account.Full := by
  unfold endTransaction
  split
  · exact h
  · rw [account_updLink]; exact h
  · exact full_csnRises (h.of_keeps (by simp))

theorem account_startTransaction (s : State) : (startTransaction s).account = s.account := by
  unfold startTransaction
  split
  · split <;> simp
  · rfl

end Sys2Proof.Machine

/-! # The pages come to 1024 after every step -/

namespace Sys2Proof.Machine

open Sys2Proof

variable {s t : State}

theorem full_live {f : State → State} (h : s.account.Full) (hf : s.account.Keeps (f s).account) (e : live f s = .next t) :
    t.account.Full := by
  injection e with e
  subst e
  split
  · exact h
  · exact h.of_keeps hf

theorem full_frameIn {k tag : Byte} {p : List Byte} (h : s.account.Full) (e : live (frameIn k tag p) s = .next t) : t.account.Full :=
  full_live h (keeps_frameIn (.refl _) ..) e

theorem full_feed {bs : List Byte} (h : s.account.Full) (e : live (feed bs) s = .next t) : t.account.Full :=
  full_live h (keeps_feed (.refl _) _) e

theorem full_fire {x : Timer} (h : s.account.Full) (e : live (fire x) s = .next t) : t.account.Full :=
  full_live h (keeps_fire (.refl _) _) e

theorem full_bulkOutOp {n : Node} {addr : BitVec 7} {b : Bool} {d : List Byte} (h : s.account.Full)
    (e : live (bulkOutOp n addr b d) s = .next t) : t.account.Full :=
  full_live h (keeps_bulkOutOp (.refl _) ..) e

theorem full_onPacket {n : Node} {addr : BitVec 7} {f : State → State}
    (hf : ∀ u, s.account.Keeps u.account → s.account.Keeps (f u).account) (h : s.account.Full) (e : live (onPacket n addr f) s = .next t) : t.account.Full :=
  full_live h (keeps_onPacket (.refl _) _ _ _ hf) e

theorem full_onSetup {n : Node} {addr : BitVec 7} {f : State → State}
    (hf : ∀ u, s.account.Keeps u.account → s.account.Keeps (f u).account) (h : s.account.Full) (e : live (onSetup n addr f) s = .next t) : t.account.Full :=
  full_live h (keeps_onSetup (.refl _) _ _ _ hf) e

/-- Every command leaves the pages with their owners, and every ring with a reserve. -/
theorem full_exec {i : Instr} (h : s.account.Full) (e : exec i s = .next t) : t.account.Full := by
  cases i with
  | porstAsserted =>
    cases e
    rw [account_of_eq (t := { s with porst := true, link := _ }) (s := s) rfl rfl rfl rfl]
    exact h
  | powerOnReset => cases e; exact full_partReset ..
  | timebaseIncrement => exact full_live h (keeps_tick (.refl _)) e
  | transactionStart => cases e; rw [account_startTransaction]; exact h
  | transactionEnd tail => cases e; exact full_endTransaction h tail
  | badLength | badCheck | unknownKind => exact full_feed h e
  | badKind | nop | partInfo | linkConfig | partReset | poolConfig | poolState | conConfig | histRead | streamSet | conInject
  | conBreak | conFlush | textLoad | patLoad | patArm | patState | lineConfig | lineSet | nodeState | planLoad | planStart | planAbort
  | planState | inrushConfig | portConfig | descLoad | portState | driveInsert | driveEject | driveState | fwdResult | fetchData
  | fetchFail | cacheDrop | writeDone | cacheConfig | cacheState | eventConfig | eventTake => exact full_frameIn h e
  | silenceTimerExpiry | allocationWaitTimeout | idleGapExpiry | breakSent | debounceExpiry | pulseExpiry | cutSettleExpiry | stepTimeout
  | delayExpiry | slotHoldExpiry | connectTimerExpiry | suspend | fwdTimeout | slotWaitTimeout | fetchTimeout | writeTimeout =>
    exact full_fire h e
  | bulkOutPacket | invalidWrapper | testUnitReady | requestSense | inquiry | readCapacity | read10 | write10 | forwardedCommand =>
    exact full_bulkOutOp h e
  | headFrameLeaves => exact full_live h (by simp) e
  | waitingAllocationRetry => exact full_live h (by simp) e
  | slotWaitGrant => exact full_live h (by simp) e
  | characterReceived => exact full_live h (keeps_receiveChar (.refl _) ..) e
  | breakStart => exact full_live h (keeps_receiveChar (.refl _) ..) e
  | breakEnd n => exact full_live (f := fun s => s.updRx n fun r => { r with inBreak := false }) h (by simp) e
  | txItemBegin => exact full_live h (keeps_beginItem (.refl _) _) e
  | byteSent => exact full_live h (keeps_byteEnds (.refl _) _) e
  | waitingQueueRetry => exact full_live h (keeps_retryQueue (.refl _) _) e
  | inputPinChange n i high =>
    cases e
    split
    · rw [account_updInput]; exact h
    · exact h.of_keeps (keeps_pinChanges (.refl _) ..)
  | busReset => exact full_live h (keeps_busResetOp (.refl _) ..) e
  | resume => exact full_live h (by simp) e
  | busActivity n =>
    refine full_live (f := fun s => if (s.node n).port.pullUp then setAnswer n .silent (busActivityOp n s) else s) h ?_ e
    split <;> simp
  | bulkInToken n => exact full_onPacket (fun u hu => keeps_answerBulkIn hu n) h e
  | bulkInAck => exact full_live h (keeps_ackBulkIn (.refl _) _) e
  | ping => exact full_onPacket (fun u hu => by simp [hu]) h e
  | controlInToken => exact full_onPacket (fun u hu => by simp [hu]) h e
  | controlInAck => exact full_live h (by simp) e
  | controlOutToken => exact full_onPacket (fun u hu => by simp [hu]) h e
  | controlRequestStalled | getDescriptor | setAddress | getConfiguration | getStatus | setFeature | clearFeature | getMaxLun =>
    exact full_onSetup (fun u hu => by simp [hu]) h e
  | setConfiguration n => exact full_onSetup (fun u hu => keeps_decideSetConfiguration hu n _) h e
  | bulkReset n => exact full_onSetup (fun u hu => keeps_decideBulkReset hu n _) h e

theorem full_step (h : s.account.Full) (e : step s = .next t) : t.account.Full := by
  unfold step at e
  split at e
  · cases e; exact h
  · rename_i c cs _
    have hsame : ({ s with pending := cs } : State).account = s.account := account_of_eq rfl rfl rfl rfl
    exact full_exec (by rw [hsame]; exact h) e

theorem reserved_of_ringInv (h : RingInv s) : s.account.Reserved := fun n => le_trans (by decide) (h n).1

/-- Settles O31: every owner's pages are an account, each operation that moves a page is one equation about two of its entries, and
every command is made of such operations or is a reset. -/
theorem pagesAreConserved : Obligations.PagesAreConserved := by
  unfold Obligations.PagesAreConserved
  simp only [pageSum_eq]
  refine ⟨fun s t hring hsum hstep => ?_, fun n ts b s => ?_, fun n reserve maximum s hr h4 hm hsupply => ?_, fun s t hr ht => ?_⟩
  · exact (full_step ⟨reserved_of_ringInv hring, hsum⟩ hstep).total
  · exact (appendRec_takes n ts b s).1
  · exact (setRing_keeps n hr (by omega) hm hsupply).2
  · exact (demandAlloc_takes ht hr).1

end Sys2Proof.Machine

/-! # The order of a demand allocation -/

namespace Sys2Proof.Machine

open Sys2Proof

variable {s : State}

/-! ## Free pages, eviction and waiting -/

theorem demandAlloc_of_free (hroom : s.cache.lines.length < s.cache.limit ∧ 8 ≤ s.pool.free) :
    demandAlloc s = .got (s.updPool fun p => { p with free := p.free - 8 }) := if_pos hroom

/-- The line evicted is the first in the order of use that may be (R29). -/
theorem evictLine_first {before after : List Line} {l : Line} (hlines : s.cache.lines = before ++ l :: after)
    (hbefore : ∀ x ∈ before, x.evictable = false) (hl : l.evictable = true) :
    evictLine s = some (s.updCache fun c => { c with lines := before ++ after }) := by
  have hany : s.cache.lines.any Line.evictable = true := List.any_eq_true.2 ⟨l, by simp [hlines], hl⟩
  have herase : s.cache.lines.eraseP Line.evictable = before ++ after := by
    rw [hlines, List.eraseP_append_right _ fun x hx => by simp [hbefore x hx], List.eraseP_cons_of_pos hl]
  rw [evictLine, if_pos hany]
  simp only [State.updCache, herase]

theorem demandAlloc_of_evict {t : State} (hroom : ¬(s.cache.lines.length < s.cache.limit ∧ 8 ≤ s.pool.free))
    (ht : evictLine s = some t) : demandAlloc s = .got t := by
  unfold demandAlloc Config.linePages
  rw [if_neg hroom, ht]

/-- Without free pages and a line to evict, the surplus of the rings decides (R29). -/
theorem demandAlloc_of_none (hroom : ¬(s.cache.lines.length < s.cache.limit ∧ 8 ≤ s.pool.free)) (hnone : evictLine s = none) :
    demandAlloc s = if s.cache.lines.length < s.cache.limit ∧ 8 ≤ s.pool.free + s.totalSurplus then
      .got (pressureTrim (trimPages (8 - s.pool.free) (s.updPool fun p => { p with free := 0 })))
    else if s.cache.limit = 0 then .fails else .waits := by
  unfold demandAlloc Config.linePages
  rw [if_neg hroom, hnone]

/-! ## What trimming leaves alone -/

/-- The pool, the cache and the record of POOL_PRESSURE are as they were. -/
structure PoolStays (s t : State) : Prop where
  pool : t.pool = s.pool
  cache : t.cache = s.cache
  pressure : t.events.recs[Source.poolPressure.id] = s.events.recs[Source.poolPressure.id]

theorem PoolStays.refl (s : State) : PoolStays s s := ⟨rfl, rfl, rfl⟩

theorem PoolStays.trans {s t u : State} (h : PoolStays s t) (k : PoolStays t u) : PoolStays s u :=
  ⟨k.pool.trans h.pool, k.cache.trans h.cache, k.pressure.trans h.pressure⟩

theorem poolStays_updHist (s : State) (n : Node) (f : History → History) : PoolStays s (s.updHist n f) := ⟨rfl, rfl, rfl⟩

@[simp] theorem latch_pool (src : Source) (d : Nat) (s : State) : (latch src d s).pool = s.pool := by
  unfold latch offerSummary
  dsimp only
  split
  · rfl
  · split
    · split <;> rfl
    · rfl

@[simp] theorem latch_cache (src : Source) (d : Nat) (s : State) : (latch src d s).cache = s.cache := by
  unfold latch offerSummary
  dsimp only
  split
  · rfl
  · split
    · split <;> rfl
    · rfl

theorem poolStays_latch (n : Node) (k : NodeKind) (d : Nat) (s : State) : PoolStays s (latch (.node n k) d s) := by
  refine ⟨latch_pool .., latch_cache .., ?_⟩
  rw [latch_recs]
  refine (grows_latched ..).others _ fun e => ?_
  have hval := congrArg Fin.val e
  simp only [Source.id] at hval
  omega

theorem poolStays_evictRecords (n : Node) (page : List Rec) (s : State) : PoolStays s (evictRecords n page s) := by
  unfold evictRecords
  split
  · exact .refl s
  · dsimp only
    split
    · split
      · exact (poolStays_updHist s n _).trans (poolStays_latch ..)
      · exact poolStays_updHist ..
    · exact poolStays_updHist ..

theorem poolStays_giveUpPage (n : Node) (s : State) : PoolStays s (giveUpPage n s) := by
  unfold giveUpPage
  dsimp only
  split
  · exact poolStays_updHist ..
  · split
    · exact .refl s
    · exact (poolStays_updHist s n _).trans (poolStays_evictRecords ..)

theorem poolStays_trimPages (k : Nat) (s : State) : PoolStays s (trimPages k s) := by
  induction k generalizing s with
  | zero => exact .refl s
  | succ k ih => exact (poolStays_giveUpPage ..).trans (ih _)

/-! ## Trimming -/

/-- One POOL_PRESSURE TRIM is latched (R30). -/
theorem pressureTrim_record (h : s.events.recs[Source.poolPressure.id].level ≠ 0) :
    (pressureTrim s).events.recs[Source.poolPressure.id] = s.events.recs[Source.poolPressure.id].latched s.timebase 1 := by
  rw [pressureTrim, latch_recs, latched_self _ _ _ h]

/-- The state after a demand allocation by trimming (R30). -/
def trimmed (s : State) : State := pressureTrim (trimPages (8 - s.pool.free) (s.updPool fun p => { p with free := 0 }))

theorem poolStays_trimmed (s : State) : PoolStays (s.updPool fun p => { p with free := 0 })
    (trimPages (8 - s.pool.free) (s.updPool fun p => { p with free := 0 })) := poolStays_trimPages ..

theorem trimmed_pool (s : State) : (trimmed s).pool.free = 0 :=
  congrArg Pool.free ((latch_pool ..).trans (poolStays_trimmed s).pool)

theorem trimmed_cache (s : State) : (trimmed s).cache = s.cache := (latch_cache ..).trans (poolStays_trimmed s).cache

theorem trims_trimmed (hr : s.account.Reserved) (hk : 8 ≤ s.pool.free + s.totalSurplus) :
    Trims (8 - s.pool.free) { s.account with free := 0 } (trimmed s).account := by
  rw [trimmed, account_pressureTrim]
  exact trims_trimPages (s := s.updPool fun p => { p with free := 0 }) hr (by change _ ≤ s.totalSurplus; omega)

theorem trimmed_record (h : s.events.recs[Source.poolPressure.id].level ≠ 0) :
    (trimmed s).events.recs[Source.poolPressure.id].lastDetail = 1 ∧
      (trimmed s).events.recs[Source.poolPressure.id].count = min 255 (s.events.recs[Source.poolPressure.id].count + 1) := by
  have hsame := (poolStays_trimmed s).pressure
  rw [trimmed, pressureTrim_record (by rw [hsame]; exact h), hsame]
  exact ⟨rfl, rfl⟩

/-! ## A single page -/

theorem surplus_le_total (s : State) (n : Node) : (s.node n).hist.surplus ≤ s.totalSurplus :=
  List.le_sum_of_mem (List.mem_map_of_mem (mem_allNodes n))

theorem trimmed_of_seven {n : Node} (hfree : s.pool.free = 7)
    (hlt : ∀ m, m < n → (s.node m).hist.surplus < (s.node n).hist.surplus)
    (hle : ∀ m, n < m → (s.node m).hist.surplus ≤ (s.node n).hist.surplus) :
    trimmed s = latch .poolPressure 1 (giveUpPage n (s.updPool fun p => { p with free := 0 })) := by
  have hrichest : (s.updPool fun p => { p with free := 0 }).richest = n := richest_eq_of hlt hle
  rw [trimmed, hfree, pressureTrim]
  simp only [trimPages, hrichest]

theorem giveUpPage_spare {n : Node} (h : 0 < (s.node n).hist.spare) :
    giveUpPage n s = s.updHist n fun h => { h with spare := h.spare - 1 } := if_pos h

theorem evictRecords_oldest (n : Node) {page : List Rec} {r : Rec} (h : page.getLast? = some r) (s : State) :
    ((evictRecords n page s).node n).hist.oldest = r.seq + 1 := by
  unfold evictRecords
  rw [h]
  dsimp only
  split
  · split
    · rw [latch_node, updHist_node_self]
    · rw [updHist_node_self]
  · rw [updHist_node_self]

/-- A ring without a spare page gives up its oldest filled one, and oldest_seq passes its records (R25, R50). -/
theorem giveUpPage_filled {n : Node} {r : Rec} (hspare : (s.node n).hist.spare = 0)
    (hlast : ((s.node n).hist.filled.head?.bind List.getLast?) = some r) :
    ((giveUpPage n s).node n).hist.filled = (s.node n).hist.filled.tail ∧ ((giveUpPage n s).node n).hist.oldest = r.seq + 1 := by
  unfold giveUpPage
  rw [if_neg (by omega)]
  split
  · rename_i hnil
    simp [hnil] at hlast
  · rename_i p ps hcons
    rw [hcons] at hlast ⊢
    obtain ⟨o, c, hhist⟩ := evictRecords_hist n p (s.updHist n fun h => { h with filled := ps })
    refine ⟨?_, evictRecords_oldest n hlast _⟩
    rw [hhist, updHist_node_self]
    rfl

/-! ## New lines -/

/-- The line as it is created for a fetch slot (R176, R182). -/
def newLine (s : State) (n : Node) (u : Lun) (index pins : Nat) (i : Fin 16) : Line :=
  { node := n, lun := u, generation := (s.drive n u).generation, index := index, state := .fetching i,
    chunks := Vector.replicate 8 none, pins := pins }

/-- A line stands last in the order of use, and its slot has its next ticket and a fetch under way (R175, R177). -/
structure Fetches (l : Line) (i : Fin 16) (s t : State) : Prop where
  frame : t = { s with link := t.link, cache := t.cache }
  lines : t.cache.lines = s.cache.lines ++ [l]
  ticket : t.cache.slots[i].ticket = s.cache.slots[i].ticket + 1
  use : t.cache.slots[i].use = .offered s.timebase s.cache.timeout ∨ t.cache.slots[i].use = .sent s.timebase s.cache.timeout

theorem Fetches.pool {l : Line} {i : Fin 16} {s t : State} (h : Fetches l i s t) : t.pool = s.pool := by rw [h.frame]

theorem Fetches.node {l : Line} {i : Fin 16} {s t : State} (h : Fetches l i s t) (n : Node) : t.node n = s.node n := by
  rw [h.frame]
  rfl

theorem slot_updSlot (s : State) (i : Fin 16) (f : FetchSlot → FetchSlot) : (s.updSlot i f).cache.slots[i] = f s.cache.slots[i] := by
  simp [State.updSlot]

/-- An offer of a slot's FETCH_REQ leaves it OFFERED, or makes it SENT (R177). -/
theorem Fetches.offer {l : Line} {i : Fin 16} {s t : State} (h : Fetches l i s t)
    (hu : t.cache.slots[i].use = .offered s.timebase s.cache.timeout) : Fetches l i s (offerMedia (.fetch i) t) := by
  obtain ⟨hframe, hlines, hticket, huse⟩ := h
  unfold offerMedia
  split
  · unfold sendMedia
    dsimp only
    split
    · rename_i start ms hslot
      rw [hu] at hslot
      cases hslot
      refine ⟨?_, hlines, ?_, ?_⟩
      · rw [hframe]
        rfl
      · rw [slot_updSlot]; exact hticket
      · rw [slot_updSlot]; exact .inr rfl
    · exact ⟨hframe, hlines, hticket, huse⟩
  · refine ⟨?_, hlines, hticket, huse⟩
    rw [hframe]
    rfl

theorem fetches_createLine (n : Node) (u : Lun) (index pins : Nat) (i : Fin 16) (s : State) :
    Fetches (newLine s n u index pins i) i s (createLine n u index pins i s) := by
  have hslot := slot_updSlot (s.updCache fun c => { c with lines := c.lines ++ [newLine s n u index pins i] }) i fun x =>
    { ticket := x.ticket + 1, use := .offered s.timebase s.cache.timeout }
  have huse := congrArg FetchSlot.use hslot
  exact Fetches.offer ⟨rfl, rfl, congrArg FetchSlot.ticket hslot, .inl huse⟩ huse

end Sys2Proof.Machine

/-! # Prefetch runs, the retry of an allocation, and the order of a demand allocation -/

namespace Sys2Proof.Machine

open Sys2Proof

variable {s : State} {n : Node} {u : Lun} {k j : Nat}

/-! ## Prefetch runs -/

theorem prefetchRun_past (h : (s.drive n u).lineCount ≤ j) : prefetchRun n u (k + 1) j s = s := if_pos h

theorem prefetchRun_held (hj : j < (s.drive n u).lineCount) (hheld : s.findLine n u (s.drive n u).generation j ≠ none) :
    prefetchRun n u (k + 1) j s = prefetchRun n u k (j + 1) s := by
  rw [prefetchRun, if_neg (by omega), if_pos (Option.isSome_iff_ne_none.2 hheld)]

/-- A line that is not held is fetched where nothing stops the run (R182). -/
theorem prefetchRun_unheld (hj : j < (s.drive n u).lineCount) (hheld : s.findLine n u (s.drive n u).generation j = none) :
    prefetchRun n u (k + 1) j s = if s.freeSlots < 5 ∨ (s.node n).port.state = .suspended ∨ s.link.online = .autonomous then s
      else match prefetchAlloc s, s.lowestFreeSlot with
        | some t, some i => prefetchRun n u k (j + 1) (createLine n u j 0 i t)
        | _, _ => s := by
  rw [prefetchRun, if_neg (by omega), hheld]
  rfl

theorem prefetchRun_barred (hheld : s.findLine n u (s.drive n u).generation j = none)
    (hbar : s.freeSlots < 5 ∨ (s.node n).port.state = .suspended ∨ s.link.online = .autonomous) : prefetchRun n u (k + 1) j s = s := by
  rcases Nat.lt_or_ge j (s.drive n u).lineCount with hj | hj
  · rw [prefetchRun_unheld hj hheld, if_pos hbar]
  · exact prefetchRun_past hj

theorem prefetchAlloc_of_free (hroom : s.cache.lines.length < s.cache.limit ∧ 8 ≤ s.pool.free) :
    prefetchAlloc s = some (s.updPool fun p => { p with free := p.free - 8 }) := if_pos hroom

/-- A run neither trims nor waits (R32). -/
theorem prefetchRun_dry (hheld : s.findLine n u (s.drive n u).generation j = none) (hnone : evictLine s = none)
    (hdry : ¬(s.cache.lines.length < s.cache.limit ∧ 8 ≤ s.pool.free)) : prefetchRun n u (k + 1) j s = s := by
  have halloc : prefetchAlloc s = none := (if_neg hdry).trans hnone
  rcases Nat.lt_or_ge j (s.drive n u).lineCount with hj | hj
  · rw [prefetchRun_unheld hj hheld, halloc]
    exact ite_self s
  · exact prefetchRun_past hj

theorem prefetchRun_fetches {i : Fin 16} (hj : j < (s.drive n u).lineCount)
    (hheld : s.findLine n u (s.drive n u).generation j = none)
    (hgo : ¬(s.freeSlots < 5 ∨ (s.node n).port.state = .suspended ∨ s.link.online = .autonomous))
    (hroom : s.cache.lines.length < s.cache.limit ∧ 8 ≤ s.pool.free) (hi : s.lowestFreeSlot = some i) :
    prefetchRun n u (k + 1) j s =
      prefetchRun n u k (j + 1) (createLine n u j 0 i (s.updPool fun p => { p with free := p.free - 8 })) := by
  rw [prefetchRun_unheld hj hheld, if_neg hgo, prefetchAlloc_of_free hroom, hi]

/-! ## Retries -/

/-- A retry with one read that waits, for which free pages suffice (R31, R176). -/
theorem retryWaiting_grants {w : Waiter} {i : Fin 16} (hw : s.pool.waiting = [w])
    (hroom : s.cache.lines.length < s.cache.limit ∧ 8 ≤ s.pool.free) (hi : s.reservedSlot w.node = some i) :
    retryWaiting s = attachNew w.node i
      ((s.updPool fun p => { p with free := p.free - 8 }).updPool fun p => { p with waiting := [] }) := by
  have hgrant : grantPages w.node ((s.updPool fun p => { p with free := p.free - 8 }).updPool fun p => { p with waiting := [] }) =
      attachNew w.node i ((s.updPool fun p => { p with free := p.free - 8 }).updPool fun p => { p with waiting := [] }) := by
    have hsame : ((s.updPool fun p => { p with free := p.free - 8 }).updPool fun p => { p with waiting := [] }).reservedSlot w.node =
        some i := hi
    rw [grantPages, hsame]
  rw [retryWaiting, hw, retryList, demandAlloc_of_free hroom]
  exact hgrant

theorem retryWaiting_of_waits {w : Waiter} {ws : List Waiter} (hw : s.pool.waiting = w :: ws) (h : demandAlloc s = .waits) :
    retryWaiting s = s := by
  rw [retryWaiting, hw, retryList, h]

theorem exec_retry (hporst : s.porst = false) : exec .waitingAllocationRetry s = .next (retryWaiting s) := by
  change live retryWaiting s = _
  rw [live, hporst]
  rfl

/-- The read that has waited is attached to its new line (R176). -/
theorem attachNew_fetches {i : Fin 16} {c : Command} {a : Ask} (hc : (s.node n).ctx.command = some c) (ha : (s.node n).ctx.ask = some a) :
    ∃ b, b.state = .attached ∧
      Fetches (newLine s n c.lun a.index 1 i) i (s.updCtx n fun x => { x with ask := some b }) (attachNew n i s) := by
  refine ⟨{ index := s.askIndex n, generation := (s.drive n (s.cmdLun n)).generation, state := .attached }, rfl, ?_⟩
  have hlun : s.cmdLun n = c.lun := by rw [State.cmdLun, hc]
  have hindex : s.askIndex n = a.index := by rw [State.askIndex, ha]
  have hline := fetches_createLine n (s.cmdLun n) (s.askIndex n) 1 i (s.updCtx n fun x =>
    { x with ask := some { index := s.askIndex n, generation := (s.drive n (s.cmdLun n)).generation, state := .attached } })
  have hnew (f : Context → Context) : newLine (s.updCtx n f) n (s.cmdLun n) (s.askIndex n) 1 i = newLine s n c.lun a.index 1 i := by
    simp only [newLine, hlun, hindex, State.drive, updCtx_drives]
  rw [hnew] at hline
  exact hline

/-! ## The demand allocation -/

/-- Settles O32: each clause is one branch of the allocation, of the run or of the retry; what trimming comes to is `Trims`, and what a
new line comes to is `Fetches`. -/
theorem demandAllocationInOrder : Obligations.DemandAllocationInOrder := by
  unfold Obligations.DemandAllocationInOrder
  refine ⟨fun s hlimit hfree => demandAlloc_of_free ⟨hlimit, hfree⟩,
    fun s before after l hroom hlines hbefore hl => demandAlloc_of_evict hroom (evictLine_first hlines hbefore hl),
    ?atLimit, ?noSurplus, ?trimming, ?onePage, ?prefetch, ?retry, ?stillWaits⟩
  case atLimit =>
    intro s hpinned hlimit
    rw [demandAlloc_of_none (by omega) (evictLine_eq_none.2 hpinned), if_neg (by omega)]
  case noSurplus =>
    intro s hpinned hlimit hpages
    rw [demandAlloc_of_none (by omega) (evictLine_eq_none.2 hpinned), if_neg (by omega), if_neg (by omega)]
  case trimming =>
    intro s hring hpinned hlimit hfree hpages
    have htrim := trims_trimmed (reserved_of_ringInv hring) hpages
    have hreserve (n : Node) : ((trimmed s).node n).hist.reserve = (s.node n).hist.reserve :=
      congrFun (congrArg Account.reserve htrim.same) n
    refine ⟨trimmed s, ?_, trimmed_pool s, trimmed_cache s, htrim.holdings, fun n => ⟨hreserve n, ?_⟩, htrim.even, trimmed_record⟩
    · rw [demandAlloc_of_none (by omega) (evictLine_eq_none.2 hpinned), if_pos ⟨hlimit, hpages⟩]
      rfl
    · obtain ⟨-, -, -, hheld, -⟩ := hring n
      exact htrim.reserve n hheld
  case onePage =>
    intro s n hpinned hlimit hfree hpos hlt hle
    have hsurplus := surplus_le_total s n
    have hgot : demandAlloc s = .got (trimmed s) := by
      rw [demandAlloc_of_none (by omega) (evictLine_eq_none.2 hpinned), if_pos ⟨hlimit, by omega⟩]
      rfl
    rw [hgot, trimmed_of_seven hfree hlt hle]
    refine ⟨fun hspare => ?_, fun r hspare hlast => ⟨_, rfl, ?_⟩⟩
    · rw [giveUpPage_spare (s := s.updPool fun p => { p with free := 0 }) hspare]
    · rw [latch_node]
      exact giveUpPage_filled (s := s.updPool fun p => { p with free := 0 }) hspare hlast
  case prefetch =>
    intro s n u k j
    refine ⟨rfl, prefetchRun_past, prefetchRun_held, prefetchRun_barred, fun hheld hpinned hdry => ?_, ?_⟩
    · exact prefetchRun_dry hheld (evictLine_eq_none.2 hpinned) (by omega)
    · intro i hj hheld hslots hport honline hlimit hfree hi
      have hgo : ¬(s.freeSlots < 5 ∨ (s.node n).port.state = .suspended ∨ s.link.online = .autonomous) := by
        simp [honline, hport, hslots]
      obtain ⟨hframe, hlines, hticket, huse⟩ := fetches_createLine n u j 0 i (s.updPool fun p => { p with free := p.free - 8 })
      exact ⟨_, prefetchRun_fetches hj hheld hgo ⟨hlimit, hfree⟩ hi, hframe, hlines, hticket, huse⟩
  case retry =>
    intro s w i c a hporst hw hlimit hfree hi hc ha
    obtain ⟨b, hb, hnew⟩ := attachNew_fetches (i := i)
      (s := (s.updPool fun p => { p with free := p.free - 8 }).updPool fun p => { p with waiting := [] }) hc ha
    refine ⟨_, (exec_retry hporst).trans (by rw [retryWaiting_grants hw ⟨hlimit, hfree⟩ hi]), hnew.pool, hnew.lines, hnew.ticket,
      hnew.use, ?_⟩
    rw [hnew.node, updCtx_node_self]
    exact congrArg some hb
  case stillWaits =>
    intro s w ws hporst hw hwaits
    rw [exec_retry hporst, retryWaiting_of_waits hw hwaits]

end Sys2Proof.Machine

/-! # Reading the history -/

namespace Sys2Proof.Machine

open Sys2Proof

/-! ## The longest run of records that fits -/

theorem takeRecords_cons_of_le {room : Nat} {r : Rec} (rs : List Rec) (h : r.size ≤ room) :
    takeRecords room (r :: rs) = r :: takeRecords (room - r.size) rs := if_pos h

theorem takeRecords_cons_of_lt {room : Nat} {r : Rec} (rs : List Rec) (h : room < r.size) : takeRecords room (r :: rs) = [] :=
  if_neg (not_le.2 h)

theorem pageUsed_cons (r : Rec) (rs : List Rec) : pageUsed (r :: rs) = r.size + pageUsed rs := List.sum_cons

/-- The records taken come first, fit the room together, and with the record behind them would not (R52). -/
theorem takeRecords_longest (room : Nat) (rs : List Rec) : ∃ rest, rs = takeRecords room rs ++ rest ∧
    pageUsed (takeRecords room rs) ≤ room ∧ ∀ r ∈ rest.head?, room < pageUsed (takeRecords room rs) + r.size := by
  induction rs generalizing room with
  | nil => exact ⟨[], rfl, Nat.zero_le _, by simp⟩
  | cons r rs ih =>
    rcases le_or_gt r.size room with hfits | hexceeds
    · obtain ⟨rest, hsplit, hroom, hnext⟩ := ih (room - r.size)
      rw [takeRecords_cons_of_le rs hfits, pageUsed_cons]
      refine ⟨rest, congrArg (r :: ·) hsplit, by omega, fun x hx => ?_⟩
      have := hnext x hx
      omega
    · rw [takeRecords_cons_of_lt rs hexceeds]
      refine ⟨r :: rs, rfl, Nat.zero_le _, fun x hx => ?_⟩
      obtain rfl : r = x := by simpa using hx
      exact hexceeds.trans_le (Nat.le_add_left ..)

/-! ## HIST_READ -/

theorem moved_zero (hi v : Nat) : moved 0 hi v = decide (hi < v) := by
  rw [moved_eq, clamp_zero]
  exact decide_eq_decide.2 (by omega)

theorem nodeOf_eq_none {v : Nat} (h : 3 < v) : nodeOf v = none := dif_neg (by omega)

/-- HIST_READ of a node reads from where from_seq is classed (R51, R52). -/
theorem histReadRequest_accepted {p : List Byte} {n : Node} (s : State) (hn : (n : Nat) = u8 p 0) :
    let h := (s.node n).hist
    let start := h.startAt (w32 p 1)
    let rs := if start = h.next then [] else takeRecords (min 512 (u16 p 5)) (h.from start)
    let after := start + BitVec.ofNat 32 rs.length
    histReadRequest p s = accepted (decide (512 < u16 p 5))
      ([BitVec.ofNat 8 n, BitVec.ofNat 8 ((if h.classify (w32 p 1) = .before then 1 else 0) + (if after = h.next then 2 else 0))]
        ++ le 4 h.oldest.toNat ++ le 4 h.next.toNat ++ [BitVec.ofNat 8 rs.length] ++ le 4 after.toNat
        ++ (rs.map Rec.bytes).flatten) s := by
  have hnode : nodeOf (u8 p 0) = some n := hn ▸ nodeOf_val n
  simp only [histReadRequest, hnode, clamp_zero, moved_zero, decide_eq_true_eq]
  rfl

/-- Settles O36: the run is the longest by induction on the records, and HIST_READ is carried out in the state `heard` gives. -/
theorem historyIsRead : Obligations.HistoryIsRead := by
  have hrun (s : State) (tag : Byte) (p : List Byte) (h : Ready s) (hlen : p.length = 7) :
      exec (.histRead tag p) s = .next (replyTo 0x11 tag (histReadRequest p (heard s))) :=
    live_request (k := 0x11) tag h (by decide) (by omega) (by simp [requestLength, hlen])
  refine ⟨takeRecords_longest, fun s tag p h hlen hbad => ?_, fun s tag p n h hlen hn => ?_⟩
  · rw [hrun s tag p h hlen, histReadRequest, nodeOf_eq_none hbad, replyTo_refused]
  · rw [hrun s tag p h hlen, histReadRequest_accepted (heard s) hn, replyTo_accepted]
    rfl

end Sys2Proof.Machine

/-! # Characters received -/

namespace Sys2Proof.Machine

open Sys2Proof

/-! ## The byte is placed -/

/-- A byte closes the record on a line feed in line mode and at the record maximum (R44). -/
theorem closeFlags_eq (c : Settings) (o : OpenRec) (b : Byte) :
    let line := c.lineMode && b == 0x0A
    let full := decide (c.recMax ≤ o.payload.length)
    closeFlags c o b = if line = true ∨ full = true then some { RecFlags.none with full := full, line := line } else none := by
  simp only [closeFlags, Bool.or_eq_true]

/-- A byte is placed, its errors are latched, the record closes where the byte causes it to, and the byte goes to the window
(R40, R41, R44). -/
theorem deliverByte_eq (n : Node) (b : Byte) (framing bad : Bool) (s : State) :
    let c := (s.node n).rx.settings
    let o := OpenRec.place (s.node n).rx.opened b framing bad s.timebase
    let placed := s.updRx n fun r => { r with opened := some o }
    let noted := if framing = true ∨ bad = true then
        latch (.node n .conLineError) ((if framing = true then 1 else 0) + (if bad = true then 2 else 0)) placed
      else placed
    let line := c.lineMode && b == 0x0A
    let full := decide (c.recMax ≤ o.payload.length)
    deliverByte n b framing bad s =
      windowByte n b (if line = true ∨ full = true then closeOpen n { RecFlags.none with full := full, line := line } noted
        else noted) := by
  intro c o placed noted line full
  rw [deliverByte, closeFlags_eq]
  simp only [Bool.or_eq_true]
  by_cases hcloses : line = true ∨ full = true
  · rw [if_pos hcloses, if_pos hcloses]
  · rw [if_neg hcloses, if_neg hcloses]

/-! ## What a character does to the receiver -/

section

variable {s : State} {n : Node} {b : Byte} {framing parity : Bool}

/-- In BREAK nothing is received (R42). -/
theorem receiveChar_inBreak (h : (s.node n).rx.inBreak = true) : receiveChar n b framing parity s = s := if_pos h

/-- In MARK a character that is no break delivers its byte; its parity error counts only while a parity is set (R40, R41). -/
theorem receiveChar_byte (h : (s.node n).rx.inBreak = false) (hb : ¬(framing = true ∧ b = 0)) :
    receiveChar n b framing parity s =
      deliverByte n b framing (parity && decide ((s.node n).rx.settings.parity ≠ .none)) s := by
  rw [receiveChar, if_neg (by simp [h]), if_neg hb, ← decide_not]

/-- Outside PORST a command has its effect (R21). -/
theorem live_of_porst_eq_false (h : s.porst = false) (f : State → State) : live f s = .next (f s) :=
  congrArg Host.Outcome.next (if_neg (by simp [h]))

/-- Outside PORST a character is received, whatever the power view (R40). -/
theorem exec_characterReceived (h : s.porst = false) :
    exec (.characterReceived n b framing parity) s = .next (receiveChar n b framing parity s) :=
  live_of_porst_eq_false h _

end

/-- Settles O34: outside BREAK a byte is placed, its errors are latched, the record closes, and the byte goes to the window. -/
theorem characterIsPlaced : Obligations.CharacterIsPlaced := by
  intro s n b framing parity hporst
  refine ⟨fun hbreak => ?_, fun _ => rfl, fun hmark hbyte => ?_⟩
  · rw [exec_characterReceived hporst, receiveChar_inBreak hbreak]
  · rw [exec_characterReceived hporst, receiveChar_byte hmark hbyte, deliverByte_eq]
    cases (s.node n).rx.opened with
    | none => rfl
    | some o => rfl

end Sys2Proof.Machine

/-! # What a marker leaves alone, and what an executor waits on -/

namespace Sys2Proof.Machine

open Sys2Proof

/-! ## What a marker leaves alone -/

/-- Beside its ring, a record that closes changes only that no record is open (R44). -/
theorem still_closeOpen (n : Node) (flags : RecFlags) (s : State) :
    (closeOpen n flags s).still = (s.updRx n fun r => { r with opened := none }).still := by
  cases h : (s.node n).rx.opened with
  | none =>
    rw [closeOpen_none h, State.updRx]
    exact (still_updNode s n _ (by rw [← h])).symm
  | some o => rw [closeOpen_some h, still_appendRec]

/-- A marker acts on the ring and on the open record (R46). -/
theorem undisturbed_appendMarker (n : Node) (code detail : Nat) (s : State) :
    Undisturbed (s.updRx n fun r => { r with opened := none }) (appendMarker n code detail s) :=
  undisturbed_of_still (by rw [appendMarker_eq, still_appendRec, still_closeOpen])

@[simp] theorem appendMarker_tx (n : Node) (code detail : Nat) (s : State) (m : Node) :
    ((appendMarker n code detail s).node m).tx = (s.node m).tx := by
  rw [(undisturbed_appendMarker n code detail s).tx, updRx_tx]

@[simp] theorem appendMarker_texts (n : Node) (code detail : Nat) (s : State) : (appendMarker n code detail s).texts = s.texts :=
  (undisturbed_appendMarker n code detail s).texts

/-! ## What an executor waits on -/

@[simp] theorem heard_waitingOn (s : State) (n : Node) (st : ExecState) : (heard s).waitingOn n st = s.waitingOn n st := rfl

/-- What an executor waits on follows from its execution and from the plans (R98). -/
theorem Steady.waitingOn {s t : State} (h : Steady s t) (n : Node) (st : ExecState) : t.waitingOn n st = s.waitingOn n st := by
  simp only [State.waitingOn, State.currentStep, h.exec, h.planSteps]

theorem steady_updTx {s0 s : State} (h : Steady s0 s) (n : Node) (f : Transmitter → Transmitter) : Steady s0 (s.updTx n f) :=
  h.trans ⟨rfl, rfl, rfl, fun _ => by simp, fun _ => by simp⟩

/-- Where no step waits for room there is nothing to retry (R64). -/
theorem retryQueue_of_none {s : State} {n : Node} (h : s.waitingOn n .waitingQueue = none) : retryQueue n s = s := by
  simp only [retryQueue, h]

end Sys2Proof.Machine

/-! # Injection -/

namespace Sys2Proof.Machine

open Sys2Proof

/-! ## Items that are appended -/

/-- The items of a text that is not empty (R61). -/
theorem textItems_concat (bs : List Byte) (b : Byte) :
    textItems (bs ++ [b]) = bs.map (fun x => TxItem.byte x none) ++ [TxItem.byte b (some (bs.length + 1))] := by
  simp only [textItems, List.getLast?_concat, List.dropLast_concat, List.length_append, List.length_singleton]

section

variable {s : State} {n : Node} {adjusted : Bool} {items : List TxItem}

/-- Nothing is injected while the view is not RUNNING (R62, R63). -/
theorem injectItems_notRunning (h : (s.node n).lines.view ≠ .running) : injectItems n adjusted items s = refused .badState s :=
  if_pos h

variable (h : (s.node n).lines.view = .running)
include h

/-- Items that do not fit are refused together (R62, R63). -/
theorem injectItems_full (hroom : 256 - (s.node n).tx.queue.length < items.length) :
    injectItems n adjusted items s = refused .full s := by
  rw [injectItems, if_neg (not_not.2 h), if_pos (show (s.node n).tx.freeItems < items.length from hroom)]

/-- Items that fit are appended, and the fill behind them is answered (R62, R63). -/
theorem injectItems_fits (hroom : items.length ≤ 256 - (s.node n).tx.queue.length) : injectItems n adjusted items s =
    accepted adjusted (le 2 ((s.node n).tx.queue.length + items.length)) (appendItems n items s) := by
  have hfill : ((appendItems n items s).node n).tx.fill = (s.node n).tx.queue.length + items.length := by
    rw [appendItems, updTx_node_self, Transmitter.fill, List.length_append]
  rw [injectItems, if_neg (not_not.2 h), if_neg (show ¬(s.node n).tx.freeItems < items.length from not_lt.2 hroom)]
  dsimp only
  rw [hfill]

end

/-! ## The requests -/

/-- A length within a range of the request table (R196). -/
theorem lengthRange_eq_true {lo hi k : Nat} (hlo : lo ≤ k) (hhi : k ≤ hi) : (decide (lo ≤ k) && decide (k ≤ hi)) = true := by
  rw [decide_eq_true hlo, decide_eq_true hhi, Bool.and_self]

/-- A length outside a range of the request table (R196). -/
theorem lengthRange_eq_false {lo hi k : Nat} (h : k < lo ∨ hi < k) : (decide (lo ≤ k) && decide (k ≤ hi)) = false := by
  rw [← Bool.decide_and]
  exact decide_eq_false (by omega)

section

variable {p : List Byte} (s : State)

theorem conInjectRequest_badNode (h : 3 < u8 p 0) : conInjectRequest p s = refused .badArg s := by
  rw [conInjectRequest, nodeOf_eq_none h]

theorem conInjectRequest_node (n : Node) :
    conInjectRequest (BitVec.ofNat 8 n :: p) s = injectItems n false (textItems p) s := by
  have hn : nodeOf (u8 (BitVec.ofNat 8 n :: p) 0) = some n := nodeOf_byte n
  simp only [conInjectRequest, hn, List.drop_one, List.tail_cons]

theorem conBreakRequest_badNode (h : 3 < u8 p 0) : conBreakRequest p s = refused .badArg s := by
  rw [conBreakRequest, nodeOf_eq_none h]

theorem conBreakRequest_node (n : Node) {v : Nat} (hv : v < 65536) : conBreakRequest (BitVec.ofNat 8 n :: le 2 v) s =
    injectItems n (moved 1 2000 v) [.brk (clamp 1 2000 v)] s := by
  have hn : nodeOf (u8 (BitVec.ofNat 8 n :: le 2 v) 0) = some n := nodeOf_byte n
  have htime : u16 (BitVec.ofNat 8 n :: le 2 v) 1 = v := fieldAt_append_le_last [BitVec.ofNat 8 n] 2 v hv
  simp only [conBreakRequest, hn, htime]

end

section

variable {s : State} (h : Ready s) (tag : Byte) {p : List Byte}
include h

/-- CON_INJECT of an allowed length (R196). -/
theorem exec_conInject (hmin : 2 ≤ p.length) (hmax : p.length ≤ 257) :
    exec (.conInject tag p) s = .next (replyTo 0x13 tag (conInjectRequest p (heard s))) :=
  live_request (k := 0x13) tag h (by decide) (by omega) (congrArg some (lengthRange_eq_true hmin hmax))

/-- CON_BREAK of its length (R196). -/
theorem exec_conBreak (hlen : p.length = 3) :
    exec (.conBreak tag p) s = .next (replyTo 0x14 tag (conBreakRequest p (heard s))) :=
  live_request (k := 0x14) tag h (by decide) (by omega) (by simp [requestLength, hlen])

/-- CON_FLUSH of a node answers the fill it found (R65). -/
theorem exec_conFlush (n : Node) : exec (.conFlush tag [BitVec.ofNat 8 n]) s =
    .next ((flushOp n (heard s)).enqueueReply 0x15 tag (Reply.okay false (le 2 (s.node n).tx.queue.length))) := by
  have hn : nodeOf (u8 [BitVec.ofNat 8 n] 0) = some n := nodeOf_byte n
  have hrun := live_request (k := 0x15) tag h (by decide) (p := [BitVec.ofNat 8 n]) (by simp) rfl
  refine hrun.trans ?_
  rw [show runRequest (0x15 : Byte).toNat tag [BitVec.ofNat 8 n] (heard s) = conFlushRequest [BitVec.ofNat 8 n] (heard s) from rfl,
    conFlushRequest, hn, replyTo_accepted]
  rfl

end

/-! ## The flush of a queue -/

section

variable {s : State} {n : Node}

/-- Without a break in progress a flush removes the queued items alone (R65). -/
theorem flushItems_noBreak (h : ∀ ms start rate parity, (s.node n).tx.inProgress ≠ some ⟨.brk ms, start, rate, parity⟩) :
    flushItems n s = s.updTx n fun t => { t with queue := [] } := by
  unfold flushItems
  split
  · exact (h _ _ _ _ ‹_›).elim
  · rfl

/-- A flush cuts a break in progress short (R65). -/
theorem flushItems_break {ms rate : Nat} {start : Word32} {parity : Parity}
    (h : (s.node n).tx.inProgress = some ⟨.brk ms, start, rate, parity⟩) :
    flushItems n s = breakEnds n (s.elapsed start) (s.updTx n fun t => { t with queue := [] }) := by
  simp only [flushItems, h]

theorem breakEnds_tx (n : Node) (ms : Nat) (s : State) : ((breakEnds n ms s).node n).tx =
    { (s.node n).tx with inProgress := none, breakEnd := s.timebase, lastWasByte := false } := by
  rw [breakEnds, appendMarker_tx, updTx_node_self]

/-- The BREAK_SENT marker stands last (R60, R65). -/
theorem breakEnds_last (n : Node) (ms : Nat) (s : State) : ((breakEnds n ms s).node n).hist.current.getLast? =
    some { seq := ((breakEnds n ms s).node n).hist.next - 1, timestamp := s.timebase, body := .marker 5 ms } := by
  rw [breakEnds, appendMarker_last, updTx_timebase]

theorem steady_flushItems (n : Node) (s : State) : Steady s (flushItems n s) := by
  unfold flushItems
  dsimp only
  split
  · exact steady_appendMarker (steady_updTx (steady_updTx (.refl s) n _) n _) ..
  · exact steady_updTx (.refl s) n _

/-- A flush where no step waits for room (R65). -/
theorem flushOp_of_none (h : s.waitingOn n .waitingQueue = none) : flushOp n s = flushItems n s :=
  retryQueue_of_none (((steady_flushItems n s).waitingOn ..).trans h)

end

/-- Settles O40: CON_INJECT and CON_BREAK come out as the offer of their items does, and CON_FLUSH, where nothing is to be retried,
as the removal of the items and the end of a break in progress. -/
theorem injectionQueuesItems : Obligations.InjectionQueuesItems := by
  refine ⟨fun s tag p h => ⟨fun hlen hp => ?_, fun hmin hmax hbad => ?_, fun hlen hbad => ?_⟩, fun s tag n bs b h hbs => ?_,
    fun s tag n v h hv => ?_, fun s tag n h hwait => ⟨fun hnone => ?_, fun ms start rate parity hbrk => ?_⟩⟩
  · exact live_badLength tag h (by decide) hp (congrArg some (lengthRange_eq_false hlen))
  · rw [exec_conInject h tag hmin hmax, conInjectRequest_badNode _ hbad, replyTo_refused]
  · rw [exec_conBreak h tag hlen, conBreakRequest_badNode _ hbad, replyTo_refused]
  · have hrun := exec_conInject h tag (p := BitVec.ofNat 8 n :: (bs ++ [b])) (by simp) (by simp; omega)
    rw [conInjectRequest_node, textItems_concat] at hrun
    have hcount : (bs.map (fun x => TxItem.byte x none) ++ [TxItem.byte b (some (bs.length + 1))]).length = bs.length + 1 := by simp
    refine ⟨fun hview => ?_, fun hview hroom => ?_, fun hview hroom => ?_⟩
    · rw [hrun, injectItems_notRunning (s := heard s) hview, replyTo_refused]
    · rw [hrun, injectItems_full (s := heard s) hview (by rw [hcount]; exact hroom), replyTo_refused]
    · rw [hrun, injectItems_fits (s := heard s) hview (by rw [hcount]; exact hroom), hcount, replyTo_accepted]
      rfl
  · have hrun := exec_conBreak h tag (p := BitVec.ofNat 8 n :: le 2 v) (by simp)
    rw [conBreakRequest_node _ n hv] at hrun
    refine ⟨fun hview => ?_, fun hview hroom => ?_, fun hview hroom => ?_⟩
    · rw [hrun, injectItems_notRunning (s := heard s) hview, replyTo_refused]
    · have hfull : 256 - (s.node n).tx.queue.length < 1 := Nat.lt_one_iff.2 (Nat.sub_eq_zero_of_le hroom)
      rw [hrun, injectItems_full (s := heard s) (items := [.brk (clamp 1 2000 v)]) hview hfull, replyTo_refused]
    · rw [hrun, injectItems_fits (s := heard s) (items := [.brk (clamp 1 2000 v)]) hview (Nat.sub_pos_of_lt hroom), replyTo_accepted]
      rfl
  · rw [exec_conFlush h tag n, flushOp_of_none (s := heard s) hwait, flushItems_noBreak (s := heard s) hnone]
  · have hrun := exec_conFlush h tag n
    rw [flushOp_of_none (s := heard s) hwait, flushItems_break (s := heard s) hbrk] at hrun
    have htx := breakEnds_tx n ((heard s).elapsed start) ((heard s).updTx n fun t => { t with queue := [] })
    have hlast := breakEnds_last n ((heard s).elapsed start) ((heard s).updTx n fun t => { t with queue := [] })
    rw [updTx_node_self] at htx
    generalize breakEnds n _ _ = t at *
    exact ⟨_, hrun, htx, hlast⟩

end Sys2Proof.Machine

/-! # Texts -/

namespace Sys2Proof.Machine

open Sys2Proof

/-! ## Index fields -/

theorem indexOf_val {k : Nat} (i : Fin k) : indexOf k i = some i := dif_pos i.isLt

theorem indexOf_eq_none {k v : Nat} (h : k ≤ v) : indexOf k v = none := dif_neg (not_lt.2 h)

theorem lt_of_indexOf {k v : Nat} {i : Fin k} (h : indexOf k v = some i) : v < k := by
  by_contra hv
  rw [indexOf_eq_none (not_lt.1 hv)] at h
  cases h

/-! ## TEXT_LOAD -/

@[simp] theorem heard_sendsText (s : State) (k : Fin 16) : (heard s).sendsText k = s.sendsText k := rfl

theorem sendsText_iff {s : State} {k : Fin 16} : s.sendsText k = true ↔ ∃ n, s.waitingOn n .waitingQueue = some (.sendText k) := by
  simp only [State.sendsText, List.any_eq_true, decide_eq_true_eq, mem_allNodes, true_and]

section

variable {i : Byte} {text : List Byte} (s : State)

theorem textLoadRequest_badIndex (h : 15 < i.toNat) : textLoadRequest (i :: text) s = refused .badArg s := by
  have hi : indexOf 16 (u8 (i :: text) 0) = none := indexOf_eq_none h
  simp only [textLoadRequest, hi]

/-- TEXT_LOAD is refused while a step waits to send the text, and otherwise stores it (R67). -/
theorem textLoadRequest_index {k : Fin 16} (h : (k : Nat) = i.toNat) : textLoadRequest (i :: text) s =
    if s.sendsText k then refused .busy s
    else accepted false [i, BitVec.ofNat 8 text.length] { s with texts := s.texts.set k text } := by
  have hi : indexOf 16 (u8 (i :: text) 0) = some k := (congrArg (indexOf 16) h).symm.trans (indexOf_val k)
  have hbyte : byte1 k = [i] := by rw [byte1, byteOf, h, BitVec.ofNat_toNat, BitVec.setWidth_eq]
  simp only [textLoadRequest, hi, List.drop_one, List.tail_cons, hbyte]
  rfl

end

/-- TEXT_LOAD of an allowed length (R196). -/
theorem exec_textLoad {s : State} (h : Ready s) (tag i : Byte) {text : List Byte} (hlen : text.length ≤ 32) :
    exec (.textLoad tag (i :: text)) s = .next (replyTo 0x16 tag (textLoadRequest (i :: text) (heard s))) :=
  have hrange := lengthRange_eq_true (lo := 1) (hi := 33) (k := (i :: text).length) (Nat.succ_pos _) (Nat.succ_le_succ hlen)
  live_request (k := 0x16) tag h (by decide) (by simp; omega) (congrArg some hrange)

/-! ## A step that fails -/

section

variable {s : State} {n : Node} {r : Run}

theorem updRun_begins_run (hr : (s.node n).exec.run = some r) (idx : Nat) :
    ((s.updRun n fun r => r.begins idx s.timebase).node n).exec.run = some (r.begins idx s.timebase) := by
  rw [State.updRun, updExec_node_self, hr]
  rfl

/-- A step that fails with ABORT ends the execution (R100). -/
theorem runFrom_abort (hr : (s.node n).exec.run = some r) (hb : r.started < 64) {idx : Nat} {st : PlanStep}
    (hst : (s.planSteps r.plan)[idx]? = some st) (k : Nat) (hfail : st.onFail = .abort) {t : State}
    (hdo : doStep n st.kind (s.updRun n fun r => r.begins idx s.timebase) = (.fails, t)) :
    runFrom (k + 1) n idx s = endExec n .failed idx t := by
  have hbudget : ¬Config.stepBudget ≤ r.started := not_le.2 hb
  simp only [Run.begins] at hdo
  simp only [runFrom, hr, if_neg hbudget, hst, hdo, hfail]

/-- A SEND_TEXT step whose text is empty fails at once (R64, R67). -/
theorem doStep_sendText_empty {x : Fin 16} (h : s.texts[x] = []) : doStep n (.sendText x) s = (.fails, s) := by
  have hitems : stepItems s (.sendText x) = [] := by rw [stepItems, h]; rfl
  rw [doStep, sendStep, if_pos (.inr hitems)]

theorem releaseTouched_none (n : Node) (s : State) : releaseTouched n (Vector.replicate 4 false) s = s := by
  simp [releaseTouched]

/-- An execution that touched no line ends without an effect on the transmitters (R113). -/
theorem endExec_tx (hr : (s.node n).exec.run = some r) (htouched : r.touched = Vector.replicate 4 false) (result : PlanResult)
    (step : Nat) (m : Node) : ((endExec n result step s).node m).tx = (s.node m).tx := by
  rw [endExec_eq hr, updExec_tx, latch_node, appendMarker_tx, endingState, htouched, releaseTouched_none, ite_self]
  rfl

theorem startingState_tx (n : Node) (plan : Fin 16) (priority : Nat) (s : State) (m : Node) :
    ((startingState n plan priority s).node m).tx = (s.node m).tx := (appendMarker_tx ..).trans (updExec_tx ..)

theorem startingState_texts (n : Node) (plan : Fin 16) (priority : Nat) (s : State) :
    (startingState n plan priority s).texts = s.texts := appendMarker_texts ..

/-- A plan of one SEND_TEXT of an empty text fails at once, and appends nothing (R64, R67, R100). -/
theorem startExec_emptyText {plan x : Fin 16} {st : PlanStep} (priority : Nat) (hst : s.planSteps plan = [st])
    (hk : st.kind = .sendText x) (hfail : st.onFail = .abort) (hx : s.texts[x] = []) :
    ((startExec n plan priority .host s).node n).exec =
        { run := none, last := some { result := .failed, plan := plan, step := 0, time := s.timebase } } ∧
      ((startExec n plan priority .host s).node n).tx = (s.node n).tx := by
  have hrun : ((startingState n plan priority s).node n).exec.run = some (Run.fresh plan priority s.timebase) := by
    rw [startingState_exec]
  have hfirst : ((startingState n plan priority s).planSteps plan)[0]? = some st := by rw [startingState_planSteps, hst]; rfl
  have htext : (startingState n plan priority s).texts[x] = [] := by rw [startingState_texts]; exact hx
  have htx : ((startingState n plan priority s).node n).tx = (s.node n).tx := startingState_tx ..
  have htime := startingState_timebase n plan priority s
  rw [startExec_eq]
  generalize startingState n plan priority s = u at *
  have hbegun := updRun_begins_run hrun 0
  have hdo : doStep n st.kind (u.updRun n fun r => r.begins 0 u.timebase) = (.fails, u.updRun n fun r => r.begins 0 u.timebase) := by
    rw [hk]
    exact doStep_sendText_empty htext
  rw [runFrom_abort hrun (fresh_started ..) hfirst 64 hfail hdo, endExec_exec hbegun, endExec_tx hbegun rfl, updRun_tx, updRun_timebase,
    htime]
  exact ⟨rfl, htx⟩

end

end Sys2Proof.Machine

/-! # Pattern records -/

namespace Sys2Proof.Machine

open Sys2Proof

/-! ## Fields -/

theorem indexOf_ofNat {k : Nat} (hk : k ≤ 256) (i : Fin k) : indexOf k (BitVec.ofNat 8 i).toNat = some i := by
  rw [BitVec.toNat_ofNat, Nat.mod_eq_of_lt (i.isLt.trans_le hk), indexOf_val]

theorem onOff_byteOfBool (b : Bool) : onOff (byteOfBool b).toNat = some b := by cases b <;> rfl

/-- An action has a code, and START_PLAN a plan (R69). -/
theorem le_of_actionOf {code plan : Nat} {a : PatAction} (h : actionOf code plan = some a) : code ≤ 2 ∧ (code = 2 → plan ≤ 15) := by
  unfold actionOf at h
  split at h
  · omega
  · split at h
    · omega
    · split at h
      · obtain ⟨k, hk, -⟩ := Option.map_eq_some_iff.1 h
        have := lt_of_indexOf hk
        omega
      · cases h

theorem actionOf_num {a : PatAction} {plan : Nat} (h : ∀ k : Fin 16, a = .startPlan k → plan = k) : actionOf a.num plan = some a := by
  cases a with
  | none => rfl
  | event => rfl
  | startPlan k => rw [h k rfl]; exact congrArg (Option.map _) (indexOf_val k)

/-- The bytes of a field spell the number they were made from, as far as they hold it (section 11.1). -/
theorem fieldAt_append_le_mod (a b : List Byte) (k v : Nat) : fieldAt (a ++ le k v ++ b) a.length k = v % 256 ^ k := by
  have hfield : bytesAt (a ++ le k v ++ b) a.length k = le k v := by simp [bytesAt]
  rw [fieldAt, hfield, leNat_le]

/-! ## PAT_LOAD -/

/-- PAT_LOAD refuses a bad node, index, flag or action (R69). -/
theorem patLoadRequest_refused {p : List Byte} (s : State)
    (h : 3 < u8 p 0 ∨ 7 < u8 p 1 ∨ 1 < u8 p 2 ∨ 1 < u8 p 3 ∨ 2 < u8 p 4 ∨ (u8 p 4 = 2 ∧ 15 < u8 p 5)) :
    patLoadRequest p s = refused .badArg s := by
  unfold patLoadRequest
  split
  · rename_i n i hn hi
    have := le_of_nodeOf hn
    have := lt_of_indexOf hi
    split
    · rename_i fold rep a hfold hrep ha
      have := le_of_onOff hfold
      have := le_of_onOff hrep
      obtain ⟨hcode, hplan⟩ := le_of_actionOf ha
      omega
    · rfl
  · rfl

/-- The payload of a PAT_LOAD (section 11.3). -/
def patternPayload (n : Node) (i : Fin 8) (fold rep : Bool) (a : PatAction) (plan : Byte) (wild : Nat) (bytes : List Byte) : List Byte :=
  [BitVec.ofNat 8 n, BitVec.ofNat 8 i, byteOfBool fold, byteOfBool rep, BitVec.ofNat 8 a.num, plan] ++ le 4 wild ++ bytes

theorem patternPayload_length (n : Node) (i : Fin 8) (fold rep : Bool) (a : PatAction) (plan : Byte) (wild : Nat) (bytes : List Byte) :
    (patternPayload n i fold rep a plan wild bytes).length = 10 + bytes.length := by
  simp [patternPayload]; omega

/-- The wildcard flags beyond a pattern's length do not matter, nor do bits the payload does not carry (R69). -/
theorem patternOf_mod (fold rep : Bool) (a : PatAction) (wild : Nat) {bytes : List Byte} (h : bytes.length ≤ 32) :
    patternOf fold rep a (wild % 256 ^ 4) bytes = patternOf fold rep a wild bytes := by
  have hdvd : 2 ^ bytes.length ∣ 256 ^ 4 := pow_dvd_pow 2 h
  rw [patternOf, Nat.mod_mod_of_dvd wild hdvd, ← patternOf]

@[simp] theorem heard_waitsOnPattern (s : State) (n : Node) (i : Fin 8) : (heard s).waitsOnPattern n i = s.waitsOnPattern n i := rfl

theorem waitsOnPattern_iff {s : State} {n : Node} {i : Fin 8} :
    s.waitsOnPattern n i = true ↔ s.waitingOn n .waitingMatch = some (.waitMatch i) := decide_eq_true_iff

/-- PAT_LOAD with good fields is refused while a step waits on the record, and otherwise stores it (R69). -/
theorem patLoadRequest_payload {n : Node} {i : Fin 8} {fold rep : Bool} {a : PatAction} {plan : Byte} {wild : Nat}
    {bytes : List Byte} (hlen : bytes.length ≤ 32) (ha : ∀ k : Fin 16, a = .startPlan k → plan.toNat = k) (s : State) :
    patLoadRequest (patternPayload n i fold rep a plan wild bytes) s =
      if s.waitsOnPattern n i then refused .busy s
      else accepted false [BitVec.ofNat 8 i, BitVec.ofNat 8 bytes.length]
        (s.updNode n fun c => { c with patterns := c.patterns.set i (patternOf fold rep a wild bytes) }) := by
  have hcode : (BitVec.ofNat 8 a.num).toNat = a.num := by cases a <;> rfl
  let p := patternPayload n i fold rep a plan wild bytes
  have hnode : nodeOf (u8 p 0) = some n := nodeOf_byte n
  have hindex : indexOf 8 (u8 p 1) = some i := indexOf_ofNat (by decide) i
  have hfold : onOff (u8 p 2) = some fold := onOff_byteOfBool fold
  have hrep : onOff (u8 p 3) = some rep := onOff_byteOfBool rep
  have haction : actionOf (u8 p 4) (u8 p 5) = some a := (congrArg (actionOf · plan.toNat) hcode).trans (actionOf_num ha)
  have hwild : fieldAt p 6 4 = wild % 256 ^ 4 := fieldAt_append_le_mod _ bytes 4 wild
  have hbytes : p.drop 10 = bytes := rfl
  change patLoadRequest p s = _
  simp only [patLoadRequest, hnode, hindex, hfold, hrep, haction, hwild, hbytes, patternOf_mod fold rep a wild hlen]
  rfl

/-- PAT_LOAD of an allowed length (R196). -/
theorem exec_patLoad {s : State} (h : Ready s) (tag : Byte) {p : List Byte} (hmin : 10 ≤ p.length) (hmax : p.length ≤ 42) :
    exec (.patLoad tag p) s = .next (replyTo 0x17 tag (patLoadRequest p (heard s))) :=
  live_request (k := 0x17) tag h (by decide) (by omega) (congrArg some (lengthRange_eq_true hmin hmax))

/-! ## PAT_ARM -/

/-- PAT_ARM refuses a bad node, index or flag (R70). -/
theorem patArmRequest_refused {p : List Byte} (s : State) (h : 3 < u8 p 0 ∨ 7 < u8 p 1 ∨ 1 < u8 p 2 ∨ 1 < u8 p 3) :
    patArmRequest p s = refused .badArg s := by
  unfold patArmRequest
  split
  · rename_i n i arm zero hn hi harm hzero
    have := le_of_nodeOf hn
    have := lt_of_indexOf hi
    have := le_of_onOff harm
    have := le_of_onOff hzero
    omega
  · rfl

/-- A record that is not empty, changed (R68). -/
theorem updPattern_of_some {s : State} {n : Node} {i : Fin 8} {q : Pattern} (h : (s.node n).patterns[i] = some q)
    (f : Pattern → Pattern) :
    s.updPattern n i f = s.updNode n fun c => { c with patterns := c.patterns.set i (some (f q)) } := by
  have hq : s.nodes[n].patterns[i] = some q := h
  rw [State.updPattern, State.updNode, hq]
  rfl

/-- The payload of a PAT_ARM (section 11.3). -/
def armPayload (n : Node) (i : Fin 8) (arm zero : Bool) : List Byte :=
  [BitVec.ofNat 8 n, BitVec.ofNat 8 i, byteOfBool arm, byteOfBool zero]

/-- PAT_ARM arms no empty record, has no effect where it disarms one, and sets the flag and if asked the count of another (R70). -/
theorem patArmRequest_payload (n : Node) (i : Fin 8) (arm zero : Bool) (s : State) :
    ((s.node n).patterns[i] = none → patArmRequest (armPayload n i arm zero) s =
      if arm then refused .badState s else accepted false [0, 0, 0] s) ∧
    ∀ q, (s.node n).patterns[i] = some q → patArmRequest (armPayload n i arm zero) s =
      accepted false ([byteOfBool arm] ++ le 2 (if zero then 0 else q.hits)) (s.updNode n fun c =>
        { c with patterns := c.patterns.set i (some { q with armed := arm, hits := if zero then 0 else q.hits }) }) := by
  have hnode : nodeOf (u8 (armPayload n i arm zero) 0) = some n := nodeOf_byte n
  have hindex : indexOf 8 (u8 (armPayload n i arm zero) 1) = some i := indexOf_ofNat (by decide) i
  have harm : onOff (u8 (armPayload n i arm zero) 2) = some arm := onOff_byteOfBool arm
  have hzero : onOff (u8 (armPayload n i arm zero) 3) = some zero := onOff_byteOfBool zero
  refine ⟨fun h => ?_, fun q h => ?_⟩
  · simp only [patArmRequest, hnode, hindex, harm, hzero, h]
    rfl
  · simp only [patArmRequest, hnode, hindex, harm, hzero, h, updPattern_of_some h]
    rfl

/-- PAT_ARM of its length (R196). -/
theorem exec_patArm {s : State} (h : Ready s) (tag : Byte) {p : List Byte} (hlen : p.length = 4) :
    exec (.patArm tag p) s = .next (replyTo 0x18 tag (patArmRequest p (heard s))) :=
  live_request (k := 0x18) tag h (by decide) (by omega) (by simp [requestLength, hlen])

/-! ## The obligation of the texts and the pattern records -/

/-- Settles O39: the three requests are carried out in the state `heard` gives, field by field, and an empty text fails its step as
the run of a plan reaches it. -/
theorem textsAndPatternsAreLoaded : Obligations.TextsAndPatternsAreLoaded := by
  refine ⟨fun s tag i text h hlen => ⟨fun hbad => ?_, fun k hk => ⟨fun hwaits => ?_, fun hfree => ?_⟩⟩, fun k => ?_,
    fun s tag p h hlong hp => ?_, fun s tag n k x pl limit h hpl hpulse hidle hsteps hx => ?_,
    fun s tag p h => ⟨fun hlong hp => ?_, fun hmin hmax hbad => ?_, fun hlen hbad => ?_⟩,
    fun s tag n i fold rep a plan wild bytes h hlen ha => ?_, fun s tag n i arm zero h => ?_⟩
  · rw [exec_textLoad h tag i hlen, textLoadRequest_badIndex _ hbad, replyTo_refused]
  · rw [exec_textLoad h tag i hlen, textLoadRequest_index _ hk, heard_sendsText, if_pos (sendsText_iff.2 hwaits),
      replyTo_refused]
  · have hnot : ¬s.sendsText k = true := fun e => (sendsText_iff.1 e).elim hfree
    rw [exec_textLoad h tag i hlen, textLoadRequest_index _ hk, heard_sendsText, if_neg hnot, replyTo_accepted]
    rfl
  · simp [State.reset]
  · exact live_badLength tag h (by decide) hp (congrArg some (lengthRange_eq_false (.inr hlong)))
  · have hrun := exec_planStart_started n k h tag (offerStart_idle (s := heard s) hpl hpulse hidle)
    obtain ⟨hexec, htx⟩ := startExec_emptyText (n := n) pl.priority ((planSteps_of_some (s := heard s) hpl).trans hsteps) rfl rfl hx
    generalize startExec n k pl.priority .host (heard s) = t at *
    exact ⟨_, hrun, hexec, htx⟩
  · exact live_badLength tag h (by decide) hp (congrArg some (lengthRange_eq_false (.inr hlong)))
  · rw [exec_patLoad h tag hmin hmax, patLoadRequest_refused _ hbad, replyTo_refused]
  · rw [exec_patArm h tag hlen, patArmRequest_refused _ hbad, replyTo_refused]
  · have hplen := patternPayload_length n i fold rep a plan wild bytes
    have hrun := exec_patLoad h tag (p := patternPayload n i fold rep a plan wild bytes) (by omega) (by omega)
    rw [patLoadRequest_payload hlen ha, heard_waitsOnPattern] at hrun
    refine ⟨fun hwaits => hrun.trans ?_, fun hfree => hrun.trans ?_⟩
    · rw [if_pos (waitsOnPattern_iff.2 hwaits), replyTo_refused]
    · rw [if_neg (mt waitsOnPattern_iff.1 hfree), replyTo_accepted]
      rfl
  · have hrun := exec_patArm h tag (p := armPayload n i arm zero) rfl
    obtain ⟨hempty, hsome⟩ := patArmRequest_payload n i arm zero (heard s)
    refine ⟨fun hnone harm => hrun.trans ?_, fun hnone harm => hrun.trans ?_, fun q hq => hrun.trans ?_⟩
    · rw [hempty hnone, if_pos harm, replyTo_refused]
    · rw [hempty hnone, if_neg (by simp [harm]), replyTo_accepted]
    · rw [hsome q hq, replyTo_accepted]
      rfl

end Sys2Proof.Machine

/-! # FWD_RESULT and the forward timeout -/

namespace Sys2Proof.Machine

open Sys2Proof

variable {s : State} {n : Node} {k : Command}

/-! ## Answers that arrive while the link is ONLINE -/

/-- An answer of an allowed length goes to the block that owns its ticket, whatever room the queue has (R7). -/
theorem dispose_answer {a t : Byte} {p : List Byte} (ha : 0x60 ≤ a.toNat ∧ a.toNat < 0x64)
    (hl : answerLengthOk a.toNat p = true) (s : State) : dispose a t p s = runAnswer a.toNat p s := by
  rw [dispose, if_neg (by omega), if_pos ha.1, if_pos hl]

/-- An answer that arrives while the link is ONLINE is handed over in the state `heard` gives (R4, R7). -/
theorem live_answer {a : Byte} (t : Byte) {p : List Byte} (h : Fresh s) (ho : s.link.online = .online)
    (ha : 0x60 ≤ a.toNat ∧ a.toNat < 0x64) (hp : p.length ≤ 600) (hl : answerLengthOk a.toNat p = true) :
    live (frameIn a t p) s = .next (runAnswer a.toNat p (heard s)) := by
  obtain ⟨hporst, htxn, hin⟩ := h
  have hne : a ≠ 0 := fun e => absurd (e ▸ ha.1) (by decide)
  rw [live_of_porst_eq_false hporst, frameIn_taken t hne hp htxn hin, takeFrame_online ho, dispose_answer ha hl]

/-! ## Timers that are carried out -/

/-- A timer that is not due does not expire (log entry 3). -/
theorem live_fire_of_not_due {t : Timer} (hporst : s.porst = false) (h : s.isDue t = false) : live (fire t) s = .next s := by
  rw [live_of_porst_eq_false hporst, fire, if_neg (by simp [h])]

/-- A timer that is due expires, and is due no longer (R14). -/
theorem live_fire_of_due {t : Timer} (hporst : s.porst = false) (h : s.isDue t = true) :
    live (fire t) s = .next (onExpiry t { s with due := s.due.erase t }) := by
  rw [live_of_porst_eq_false hporst, fire, if_pos h]

/-! ## The status phase after a change of the context -/

/-- The drives and the context are different parts of a column, so their updates commute. -/
theorem updCtx_updDrive (s : State) (n : Node) (u : Lun) (f : Context → Context) (g : Drive → Drive) :
    (s.updCtx n f).updDrive n u g = (s.updDrive n u g).updCtx n f := by
  simp [State.updCtx, State.updDrive, State.updNode]

/-- STATUS is entered with the effect on the drive and the wrapper of the context as it stands (R162). -/
theorem enterStatus_of_command (h : (s.node n).ctx.command = some k) : enterStatus n s =
    (s.updDrive n k.lun fun d => d.afterStatus k.op (s.node n).ctx.blockSize (s.node n).ctx.moved (s.node n).ctx.result).updCtx n
      fun x => { x with phase := .status, mode := .none,
                        statusBytes := statusWrapper k.tag (k.expected - x.moved) x.result.num } := by
  simp only [enterStatus, h]

/-! ## The end of a forward -/

/-- The result that FWD_RESULT carries (R166). -/
def forwardResult (status key code qualifier : Byte) : CmdResult :=
  if status = 0 then .passed else .failed { key := key, code := code, qualifier := qualifier }

theorem forwardResult_num (status key code qualifier : Byte) :
    byteOf (forwardResult status key code qualifier).num = if status = 0 then 0 else 1 := by
  unfold forwardResult
  split <;> rfl

/-- A command that reads sends the first E of the bytes the host has given it (R166). -/
theorem endForward_data (h : (s.node n).ctx.command = some k) (hdir : k.dirIn = true) (result : CmdResult) {data : List Byte}
    (hdata : data.take k.expected ≠ []) : endForward n result data s =
      s.updCtx n fun x => { x with fwdState := .none, result := result, phase := .dataIn, mode := .forwarded,
                                   fwdBuffer := data.take k.expected, dn := min k.expected data.length } := by
  have hpos : 0 < k.expected := Nat.pos_of_ne_zero fun e => hdata (by rw [e, List.take_zero])
  have htake : data.take (min data.length k.expected) = data.take k.expected := by
    rw [Nat.min_comm, ← List.take_take, List.take_length]
  have hsome : ¬(data.take k.expected).isEmpty = true := mt List.isEmpty_iff.1 hdata
  simp only [endForward, h]
  rw [if_pos ⟨hdir, hpos⟩, htake, if_neg hsome, List.length_take]

/-- Where there are no bytes to send and some are expected, one zero-length packet closes the data (R158). -/
theorem finishIn_of_zero (h : (s.node n).ctx.command = some k) (hpos : 0 < k.expected) (hdn : (s.node n).ctx.dn = 0) :
    finishIn n s = s.updCtx n fun x => { x with mode := .zlp } := by
  have hexpected : (s.node n).ctx.expected = k.expected := by simp only [Context.expected, h]
  simp only [finishIn, hdn, hexpected]
  exact if_pos ⟨hpos, Nat.zero_mod _⟩

/-- A command that reads and is given no byte closes its data phase with a zero-length packet (R166). -/
theorem endForward_noData (h : (s.node n).ctx.command = some k) (hdir : k.dirIn = true) (hpos : 0 < k.expected)
    (result : CmdResult) : endForward n result [] s =
      s.updCtx n fun x =>
        { x with fwdState := .none, result := result, phase := .dataIn, mode := .zlp, fwdBuffer := [], dn := 0 } := by
  simp only [endForward, h]
  rw [if_pos ⟨hdir, hpos⟩, List.take_nil, if_pos List.isEmpty_nil,
    finishIn_of_zero (k := k) (by rw [updCtx_node_self]; exact h) hpos (by rw [updCtx_node_self]; rfl), updCtx_updCtx]
  rfl

/-- A command that reads nothing enters the status phase with the host's result (R166). -/
theorem endForward_status (h : (s.node n).ctx.command = some k) (hno : k.dirIn = false ∨ k.expected = 0) (result : CmdResult)
    (data : List Byte) : endForward n result data s =
      (s.updDrive n k.lun fun d => d.afterStatus k.op (s.node n).ctx.blockSize (s.node n).ctx.moved result).updCtx n fun x =>
        { x with fwdState := .none, result := result, phase := .status, mode := .none,
                 statusBytes := statusWrapper k.tag (k.expected - x.moved) result.num } := by
  have hnot : ¬(k.dirIn = true ∧ 0 < k.expected) := by
    rintro ⟨hdir, hpos⟩
    exact hno.elim (by simp [hdir]) hpos.ne'
  simp only [endForward, h]
  rw [if_neg hnot, enterStatus_of_command (k := k) (by rw [updCtx_node_self]; exact h), updCtx_node_self, updCtx_updDrive,
    updCtx_updCtx]
  rfl

/-! ## FWD_RESULT -/

/-- The payload of a FWD_RESULT (section 11.4). -/
def forwardPayload (node ticket status key code qualifier : Byte) (data : List Byte) : List Byte :=
  [node, ticket, status, key, code, qualifier] ++ data

/-- FWD_RESULT with no more data than a packet, heard while the link is ONLINE (R7). -/
theorem exec_fwdResult (h : Fresh s) (ho : s.link.online = .online) (tag node ticket status key code qualifier : Byte)
    {data : List Byte} (hlen : data.length ≤ 512) :
    exec (.fwdResult tag (forwardPayload node ticket status key code qualifier data)) s =
      .next (fwdResultAnswer (forwardPayload node ticket status key code qualifier data) (heard s)) := by
  have hp : (forwardPayload node ticket status key code qualifier data).length = 6 + data.length := by
    simp [forwardPayload]; omega
  have hl : answerLengthOk 0x63 (forwardPayload node ticket status key code qualifier data) = true := by
    simp only [answerLengthOk, Bool.and_eq_true, decide_eq_true_eq]
    omega
  exact live_answer (a := 0x63) tag h ho (by decide) (by omega) hl

/-- FWD_RESULT of a node that there is not is stale (R166). -/
theorem fwdResultAnswer_badNode {node : Byte} (h : 3 < node.toNat) (ticket status key code qualifier : Byte) (data : List Byte)
    (s : State) : fwdResultAnswer (forwardPayload node ticket status key code qualifier data) s = staleAnswer 0x63 s := by
  have hnode : nodeOf (u8 (forwardPayload node ticket status key code qualifier data) 0) = none := nodeOf_eq_none h
  simp only [fwdResultAnswer, hnode]

/-- FWD_RESULT ends the SENT forward with its ticket, and is stale without one (R166). -/
theorem fwdResultAnswer_node {node : Byte} (h : (n : Nat) = node.toNat) (ticket status key code qualifier : Byte)
    (data : List Byte) (s : State) :
    fwdResultAnswer (forwardPayload node ticket status key code qualifier data) s =
      if (s.node n).ctx.fwdState = .sent ∧ (s.node n).ctx.fwdTicket = ticket then
        endForward n (forwardResult status key code qualifier) data s
      else staleAnswer 0x63 s := by
  let p := forwardPayload node ticket status key code qualifier data
  have hnode : nodeOf (u8 p 0) = some n := (congrArg nodeOf h.symm).trans (nodeOf_val n)
  have hticket : u8 p 1 = ticket.toNat := rfl
  have hstatus : u8 p 2 = 0 ↔ status = 0 := BitVec.toNat_inj (y := 0)
  have hdata : p.drop 6 = data := rfl
  change fwdResultAnswer p s = _
  simp only [fwdResultAnswer, hnode, hticket, hstatus, hdata, BitVec.toNat_inj, forwardResult]
  rfl

/-! ## The forward timeout -/

/-- The forward of a command that reads fails: its waiting FWD_CMD is withdrawn, and a zero-length packet closes its data
(R167). -/
theorem failForward_reads (h : (s.node n).ctx.command = some k) (hdir : k.dirIn = true) (hpos : 0 < k.expected) (sense : Sense) :
    failForward n sense s = (withdraw (.forward n) s).updCtx n fun x =>
      { x with fwdState := .none, result := .failed sense, phase := .dataIn, mode := .zlp } := by
  simp only [failForward, h]
  rw [if_pos ⟨hdir, hpos⟩, updCtx_updCtx]
  rfl

/-- An expired forward of a command that reads fails with 02/04/00 and MEDIA_ERROR (R167). -/
theorem forwardExpires_reads (h : (s.node n).ctx.command = some k) (hdir : k.dirIn = true) (hpos : 0 < k.expected) :
    forwardExpires n s = latch (.node n .mediaError) (3 + 256 * k.lun) ((withdraw (.forward n) s).updCtx n fun x =>
      { x with fwdState := .none, result := .failed senseNotReady, phase := .dataIn, mode := .zlp }) := by
  have hlun : s.cmdLun n = k.lun := by simp only [State.cmdLun, h]
  rw [forwardExpires, mediaError, hlun, failForward_reads h hdir hpos]
  rfl

/-! ## The obligation of the end of a forward -/

/-- Settles O55: FWD_RESULT is taken in the state `heard` gives and ends the forward it names by the command's data phase; an
expiry fails the forward in the state in which its timer is no longer due. -/
theorem forwardsEnd : Obligations.ForwardsEnd := by
  refine ⟨fun s tag node ticket status key code qualifier data hfresh honline hlen => ?_, fun s n hporst => ⟨fun hnot => ?_,
    fun k hdue hk hdir hpos => ?_⟩⟩
  · have hrun := exec_fwdResult hfresh honline tag node ticket status key code qualifier hlen
    refine ⟨fun hbad => hrun.trans ?_, fun n hn => ?_⟩
    · rw [fwdResultAnswer_badNode hbad]
      rfl
    · rw [fwdResultAnswer_node hn, heard_node] at hrun
      refine ⟨fun hstale => hrun.trans ?_, fun k hsent hticket hk => ?_⟩
      · rw [if_neg fun hnamed => hstale.elim (· hnamed.1) (· hnamed.2)]
        rfl
      · rw [if_pos ⟨hsent, hticket⟩] at hrun
        refine ⟨fun hdir hdata => hrun.trans ?_, fun hdir hpos hnil => hrun.trans ?_, fun hno => hrun.trans ?_⟩
        · rw [endForward_data (s := heard s) hk hdir _ hdata]
          rfl
        · rw [hnil, endForward_noData (s := heard s) hk hdir hpos]
          rfl
        · rw [endForward_status (s := heard s) hk hno]
          simp only [statusWrapper, forwardResult_num]
          rfl
  · exact live_fire_of_not_due hporst hnot
  · refine (live_fire_of_due hporst hdue).trans ?_
    exact congrArg Host.Outcome.next (forwardExpires_reads (s := { s with due := s.due.erase (.forward n) }) hk hdir hpos)

end Sys2Proof.Machine

/-! # Latching -/

namespace Sys2Proof.Machine

open Sys2Proof

/-! ## The ids of the sources -/

/-- The number of a kind names it (R190). -/
theorem nodeKind_ofNat_idx (k : NodeKind) : NodeKind.ofNat k.idx = k := by
  cases k <;> rfl

theorem nodeKind_idx_injective : Function.Injective NodeKind.idx :=
  Function.LeftInverse.injective (g := fun i : Fin 12 => NodeKind.ofNat i) (f := NodeKind.idx) nodeKind_ofNat_idx

/-- The id of a source of a node is below those of the part's own (R189). -/
theorem source_id_node_lt (n : Node) (k : NodeKind) : (Source.node n k).id < 48 := by
  simp only [Source.id, Fin.lt_def]
  omega

/-- No two sources share an id: a node has twelve of the first 48, one for each kind, and the part the last four (R189). -/
theorem source_id_injective : Function.Injective Source.id := by
  intro a b h
  cases a with
  | node n k =>
    cases b with
    | node m j =>
      have hval : 12 * (n : Nat) + k.idx = 12 * m + j.idx := congrArg Fin.val h
      have hn : n = m := Fin.ext (by omega)
      have hk : k = j := nodeKind_idx_injective (Fin.ext (by omega))
      rw [hn, hk]
    | _ => exact absurd (h ▸ source_id_node_lt n k) (by decide)
  | _ =>
    cases b with
    | node m j => exact absurd (h ▸ source_id_node_lt m j) (by decide)
    | _ => simp [Source.id] at h ⊢

/-! ## The admission of a summary -/

variable {s : State} {src : Source}

/-- Whether the link admits an EVENT_SUMMARY (R193). -/
abbrev Link.admitsSummary (l : Link) : Prop := l.online = .online ∧ l.held = false ∧ l.summaryRoom

/-- An EVENT_SUMMARY that is owed and admitted is queued with the pending mask (R193). -/
theorem offerSummary_admitted (ho : s.events.owed = true) (h : s.link.admitsSummary) :
    offerSummary s = { s.enqueueNotice 0xE5 (le 8 s.pendingMask) with events := { s.events with owed := false } } := by
  obtain ⟨hon, hheld, hroom⟩ := h
  rcases offerSummary_cases hon hheld with ⟨-, -, e⟩ | ⟨hno, -⟩
  · exact e
  · exact absurd ⟨ho, hroom⟩ hno

/-- A link that is not ONLINE, or whose notices are held, admits nothing (R16, R17). -/
theorem admits_of_not_open (h : ¬(s.link.online = .online ∧ s.link.held = false)) (room : Nat) : s.admits room = false := by
  by_contra hadm
  simp only [State.admits, Bool.not_eq_false, Bool.and_eq_true, decide_eq_true_eq, Bool.not_eq_true'] at hadm
  exact h hadm.1

/-- An EVENT_SUMMARY that is not admitted leaves everything as it is (R193). -/
theorem offerSummary_refused (h : ¬s.link.admitsSummary) : offerSummary s = s := by
  by_cases hopen : s.link.online = .online ∧ s.link.held = false
  · rcases offerSummary_cases hopen.1 hopen.2 with ⟨-, hroom, -⟩ | ⟨-, e⟩
    · exact absurd ⟨hopen.1, hopen.2, hroom⟩ h
    · exact e
  · rw [offerSummary, admits_of_not_open hopen, Bool.and_false, if_neg Bool.false_ne_true]

/-! ## What a latch does -/

/-- The state in which a source is latched and no summary is offered yet (R191). -/
def State.latched (s : State) (src : Source) (d : Nat) : State :=
  { s with events := s.events.latched s.link.threshold s.timebase src d }

theorem latched_recs (hl : s.events.recs[src.id].level ≠ 0) (d : Nat) :
    (s.latched src d).events.recs = s.events.recs.set src.id (s.events.recs[src.id].latched s.timebase d) := by
  rw [State.latched, EventTable.latched, if_neg hl]

/-- A latch makes a summary owed exactly at or above the threshold (R191). -/
theorem latched_owed (hl : s.events.recs[src.id].level ≠ 0) (d : Nat) :
    (s.latched src d).events.owed = (s.events.owed || decide (s.link.threshold ≤ s.events.recs[src.id].level)) := by
  rw [State.latched, EventTable.latched, if_neg hl]

/-- A source of level 0 is not latched (R191). -/
theorem latch_level_zero (hl : s.events.recs[src.id].level = 0) (d : Nat) : latch src d s = s := if_pos hl

/-- A latch below the threshold offers no summary (R191). -/
theorem latch_below (hl : s.events.recs[src.id].level ≠ 0) (hb : s.events.recs[src.id].level < s.link.threshold) (d : Nat) :
    latch src d s = s.latched src d := by
  have hnot : ¬s.link.threshold ≤ s.events.recs[src.id].level := not_le.2 hb
  simp only [latch, State.latched, EventTable.latched, if_neg hl, if_neg hnot, decide_eq_false hnot, Bool.or_false]

/-- A latch at or above the threshold offers a summary (R191). -/
theorem latch_above (hl : s.events.recs[src.id].level ≠ 0) (ha : s.link.threshold ≤ s.events.recs[src.id].level) (d : Nat) :
    latch src d s = offerSummary (s.latched src d) := by
  simp only [latch, State.latched, EventTable.latched, if_neg hl, if_pos ha, decide_eq_true ha, Bool.or_true]

theorem latch_above_admitted (hl : s.events.recs[src.id].level ≠ 0) (ha : s.link.threshold ≤ s.events.recs[src.id].level)
    (h : s.link.admitsSummary) (d : Nat) :
    latch src d s = { (s.latched src d).enqueueNotice 0xE5 (le 8 (s.latched src d).pendingMask) with
      events := { (s.latched src d).events with owed := false } } := by
  have howed : (s.latched src d).events.owed = true := by rw [latched_owed hl, decide_eq_true ha, Bool.or_true]
  rw [latch_above hl ha, offerSummary_admitted howed h]

theorem latch_above_refused (hl : s.events.recs[src.id].level ≠ 0) (ha : s.link.threshold ≤ s.events.recs[src.id].level)
    (h : ¬s.link.admitsSummary) (d : Nat) : latch src d s = s.latched src d := by
  rw [latch_above hl ha]
  exact offerSummary_refused h

/-- A latch changes the link and the event table alone (R191). -/
theorem latch_frame (src : Source) (d : Nat) (s : State) :
    latch src d s = { s with link := (latch src d s).link, events := (latch src d s).events } := by
  by_cases hl : s.events.recs[src.id].level = 0
  · rw [latch_level_zero hl]
  rcases lt_or_ge s.events.recs[src.id].level s.link.threshold with hb | ha
  · rw [latch_below hl hb]
    rfl
  by_cases h : s.link.admitsSummary
  · rw [latch_above_admitted hl ha h]
    rfl
  · rw [latch_above_refused hl ha h]
    rfl

/-! ## The obligation of latching -/

/-- Settles O22: the ids are injective by their ranges, and a latch is `State.latched`, followed at or above the threshold by the
offer of a summary, which the link admits or refuses. -/
theorem latchingCounts : Obligations.LatchingCounts := by
  refine ⟨fun _ _ => rfl, fun _ _ h => source_id_injective h, fun src d s => ⟨fun hl => latch_level_zero hl d, fun hl =>
    ⟨(latch_recs src d s).trans (latched_recs hl d), latch_frame src d s, fun hb => ?_, fun ha => ?_⟩⟩⟩
  · have hnot : ¬s.link.threshold ≤ s.events.recs[src.id].level := not_le.2 hb
    rw [latch_below hl hb, latched_owed hl, decide_eq_false hnot, Bool.or_false]
    exact ⟨rfl, rfl⟩
  · split
    case isTrue h =>
      rw [latch_above_admitted hl ha h]
      exact ⟨rfl, rfl⟩
    case isFalse h =>
      rw [latch_above_refused hl ha h, latched_owed hl, decide_eq_true ha, Bool.or_true]
      exact ⟨rfl, rfl⟩

end Sys2Proof.Machine

/-! # Rings without a hole -/

namespace Sys2Proof.Machine

open Sys2Proof

/-! ## Records with consecutive sequence numbers -/

/-- Records that carry consecutive sequence numbers from `oldest` to `next` less one, with a cursor between the two (R49). -/
structure Chain (oldest next cursor : Word32) (rs : List Rec) : Prop where
  size : (next - oldest).toNat = rs.length
  cursor : (cursor - oldest).toNat ≤ rs.length
  seq : ∀ i r, rs[i]? = some r → r.seq = oldest + BitVec.ofNat 32 i

variable {oldest next cursor : Word32} {rs page : List Rec} {r : Rec}

/-- A chain is shorter than the sequence numbers go round. -/
theorem Chain.length_lt (h : Chain oldest next cursor rs) : rs.length < 2 ^ 32 := h.size ▸ (next - oldest).isLt

theorem Chain.next_eq (h : Chain oldest next cursor rs) : next = oldest + BitVec.ofNat 32 rs.length := by
  have hsize := h.size
  bv_omega

/-- A cursor that lies in the chain may stand anywhere in it (R53, R54). -/
theorem Chain.setCursor (h : Chain oldest next cursor rs) {c : Word32} (hc : (c - oldest).toNat ≤ rs.length) :
    Chain oldest next c rs := ⟨h.size, hc, h.seq⟩

/-- The record that takes next_seq stands behind the others (R45). -/
theorem Chain.snoc (h : Chain oldest next cursor rs) (hlt : rs.length + 1 < 2 ^ 32) (hr : r.seq = next) :
    Chain oldest (next + 1) cursor (rs ++ [r]) := by
  have hsize := h.size
  have hcursor := h.cursor
  refine ⟨?_, ?_, fun i q hq => ?_⟩
  · rw [List.length_append, List.length_singleton]
    bv_omega
  · rw [List.length_append]
    omega
  · rcases Nat.lt_trichotomy i rs.length with hi | hi | hi
    · rw [List.getElem?_append_left hi] at hq
      exact h.seq i q hq
    · subst hi
      rw [List.getElem?_concat_length] at hq
      cases hq
      exact hr.trans h.next_eq
    · rw [List.getElem?_eq_none (by simp; omega)] at hq
      cases hq

/-- The sequence number behind a page's last record is the oldest one that is left without the page (R50). -/
theorem Chain.after_last (h : Chain oldest next cursor (page ++ rs)) (hr : page.getLast? = some r) :
    r.seq + 1 = oldest + BitVec.ofNat 32 page.length := by
  obtain ⟨front, rfl⟩ := List.getLast?_eq_some_iff.1 hr
  have hseq := h.seq front.length r (by simp)
  rw [hseq, List.length_append, List.length_singleton]
  bv_omega

/-- A chain without its first page: a cursor that stood in the page moves behind it (R50). -/
theorem Chain.drop (h : Chain oldest next cursor (page ++ rs)) :
    Chain (oldest + BitVec.ofNat 32 page.length) next
      (if (cursor - oldest).toNat < page.length then oldest + BitVec.ofNat 32 page.length else cursor) rs := by
  have hsize := h.size
  have hcursor := h.cursor
  have hlt := h.length_lt
  rw [List.length_append] at hsize hcursor hlt
  refine ⟨?_, ?_, fun i q hq => ?_⟩
  · bv_omega
  · split
    · simp
    · bv_omega
  · have hi : (page ++ rs)[page.length + i]? = some q := by rw [List.getElem?_append_right (by omega)]; simpa using hq
    rw [h.seq _ _ hi]
    bv_omega

/-! ## The stored sizes of records -/

theorem le_size (r : Rec) : 12 ≤ r.size := by
  unfold Rec.size
  split <;> omega

/-- A record's place in a page takes at least its header (R48). -/
theorem length_le_pageUsed (p : List Rec) : 12 * p.length ≤ pageUsed p := by
  induction p with
  | nil => exact le_rfl
  | cons r p ih =>
    have := le_size r
    rw [pageUsed_cons, List.length_cons]
    omega

/-! ## Rings -/

/-- A ring within its settings whose records are a chain and whose pages hold no more than their bytes (R23, R24, R26, R49). -/
structure History.Sound (h : History) : Prop where
  reserve_low : 4 ≤ h.reserve
  reserve_high : h.reserve ≤ 64
  maximum_high : h.maximum ≤ 256
  reserve_le : h.reserve ≤ h.holding
  le_maximum : h.holding ≤ h.maximum
  chain : Chain h.oldest h.next h.cursor h.records
  pages : ∀ p ∈ h.filled ++ [h.current], pageUsed p ≤ 512

variable {h : History}

/-- The records of a ring whose pages hold no more than their bytes. -/
theorem records_length_le (hp : ∀ p ∈ h.filled ++ [h.current], pageUsed p ≤ 512) : 12 * h.records.length ≤ 512 * h.holding := by
  have hall (ps : List (List Rec)) (hps : ∀ p ∈ ps, pageUsed p ≤ 512) : 12 * ps.flatten.length ≤ 512 * ps.length := by
    induction ps with
    | nil => exact le_rfl
    | cons p ps ih =>
      have hp := hps p (by simp)
      have hlen := length_le_pageUsed p
      have hrest := ih fun q hq => hps q (by simp [hq])
      rw [List.flatten_cons, List.length_append, List.length_cons]
      omega
  have hrecords : h.records = (h.filled ++ [h.current]).flatten := by simp [History.records]
  have hlen := hall _ hp
  rw [hrecords]
  rw [List.length_append, List.length_singleton] at hlen
  unfold History.holding
  omega

theorem History.Sound.setCursor (hs : h.Sound) {c : Word32} (hc : (c - h.oldest).toNat ≤ h.records.length) :
    ({ h with cursor := c } : History).Sound := { hs with chain := hs.chain.setCursor hc }

theorem History.Sound.setStreaming (hs : h.Sound) (b : Bool) : ({ h with streaming := b } : History).Sound := { hs with }

/-- A ring whose first records are evicted: oldest_seq moves past the last of them, and with it a cursor left behind (R50). -/
def History.evict (page : List Rec) (h : History) : History :=
  match page.getLast? with
  | none => h
  | some r =>
    if (h.cursor - h.oldest).toNat < (r.seq + 1 - h.oldest).toNat then { h with oldest := r.seq + 1, cursor := r.seq + 1 }
    else { h with oldest := r.seq + 1 }

theorem evict_eq (page : List Rec) (h : History) :
    h.evict page = { h with oldest := (h.evict page).oldest, cursor := (h.evict page).cursor } := by
  unfold History.evict
  split
  · rfl
  · split <;> rfl

/-- The chain that an evicted page leaves (R50). -/
theorem chain_evict (hc : Chain h.oldest next h.cursor (page ++ rs)) :
    Chain (h.evict page).oldest next (h.evict page).cursor rs := by
  have hdrop := hc.drop
  unfold History.evict
  split
  · rename_i hnone
    obtain rfl : page = [] := by simpa using hnone
    exact hc
  · rename_i r hr
    have hlast := hc.after_last hr
    have hlt := hc.length_lt
    have hplace : (r.seq + 1 - h.oldest).toNat = page.length := by
      rw [hlast]
      rw [List.length_append] at hlt
      bv_omega
    rw [hplace]
    rw [← hlast] at hdrop
    split
    · rwa [if_pos ‹_›] at hdrop
    · rwa [if_neg ‹_›] at hdrop

/-- A ring that has given up a page (R25). -/
def History.giveUp (h : History) : History :=
  if 0 < h.spare then { h with spare := h.spare - 1 }
  else match h.filled with
    | [] => h
    | p :: ps => ({ h with filled := ps } : History).evict p

/-- A ring with a new current page, from a free page if there is one (R24). -/
def History.obtain (free : Prop) [Decidable free] (h : History) : History :=
  if 0 < h.spare then { h with filled := h.filled ++ [h.current], current := [], spare := h.spare - 1 }
  else if h.holding < h.maximum ∧ free then { h with filled := h.filled ++ [h.current], current := [] }
  else match h.filled ++ [h.current] with
    | [] => h
    | p :: ps => ({ h with filled := ps, current := [] } : History).evict p

/-- A ring with a record written at the end of its current page, or of a new one (R45, R48). -/
def History.append (free : Prop) [Decidable free] (r : Rec) (h : History) : History :=
  let g : History := { h with next := h.next + 1 }
  let g := if pageUsed g.current + r.size ≤ Config.pageBytes then g else g.obtain free
  { g with current := g.current ++ [r] }

theorem holding_evict (page : List Rec) (h : History) : (h.evict page).holding = h.holding := by rw [evict_eq]; rfl

/-- A ring that has more than its current page gives one up (R25). -/
theorem holding_giveUp (hone : 1 < h.holding) : h.giveUp.holding + 1 = h.holding := by
  unfold History.giveUp
  split
  · unfold History.holding
    dsimp only
    omega
  · split
    · rename_i hspare hfilled
      rw [History.holding, hfilled] at hone
      simp at hone
      omega
    · rename_i hfilled
      rw [holding_evict]
      unfold History.holding
      rw [hfilled, List.length_cons]
      dsimp only
      omega

/-- What a ring keeps when it gives up a page, whatever its settings: its chain and its pages (R25, R50). -/
theorem giveUp_chain (hc : Chain h.oldest h.next h.cursor h.records) (hp : ∀ p ∈ h.filled ++ [h.current], pageUsed p ≤ 512) :
    Chain h.giveUp.oldest h.giveUp.next h.giveUp.cursor h.giveUp.records ∧
      (∀ p ∈ h.giveUp.filled ++ [h.giveUp.current], pageUsed p ≤ 512) ∧ h.giveUp.reserve = h.reserve ∧ h.giveUp.maximum = h.maximum := by
  unfold History.giveUp
  split
  · exact ⟨hc, hp, rfl, rfl⟩
  · split
    · exact ⟨hc, hp, rfl, rfl⟩
    · rename_i p ps hfilled
      have hrecords : h.records = p ++ (ps.flatten ++ h.current) := by simp [History.records, hfilled]
      rw [hrecords] at hc
      have hev := chain_evict (h := { h with filled := ps }) hc
      rw [evict_eq]
      exact ⟨hev, fun q hq => hp q (by rw [hfilled]; exact List.mem_cons_of_mem _ hq), rfl, rfl⟩

/-- A ring above its reserve may give up a page (R25). -/
theorem History.Sound.giveUp (hs : h.Sound) (habove : h.reserve < h.holding) : h.giveUp.Sound := by
  obtain ⟨hchain, hpages, hreserve, hmaximum⟩ := giveUp_chain hs.chain hs.pages
  have hlow := hs.reserve_low
  have hhigh := hs.reserve_high
  have hmax := hs.maximum_high
  have hle := hs.le_maximum
  have hholding := holding_giveUp (h := h) (by omega)
  exact ⟨by omega, by omega, by omega, by omega, by omega, hchain, hpages⟩

/-- What a ring keeps when it obtains a new current page (R24): its settings, and of its records those not recycled. -/
theorem History.Sound.obtain (hs : h.Sound) (free : Prop) [Decidable free] : (h.obtain free).Sound ∧ (h.obtain free).current = [] := by
  have hempty : pageUsed [] ≤ 512 := by decide
  have hle := hs.reserve_le
  have hmax := hs.le_maximum
  unfold History.obtain
  split
  · refine ⟨{ hs with reserve_le := ?_, le_maximum := ?_, chain := ?_, pages := ?_ }, rfl⟩
    · simp only [History.holding, List.length_append, List.length_singleton] at hle ⊢; omega
    · simp only [History.holding, List.length_append, List.length_singleton] at hmax ⊢; omega
    · simpa [History.records] using hs.chain
    · intro p hmem
      rcases List.mem_append.1 hmem with hp | hp
      · exact hs.pages p hp
      · rw [List.mem_singleton.1 hp]; exact hempty
  · split
    · rename_i hfree
      refine ⟨{ hs with reserve_le := ?_, le_maximum := ?_, chain := ?_, pages := ?_ }, rfl⟩
      · simp only [History.holding, List.length_append, List.length_singleton] at hle ⊢; omega
      · have hroom := hfree.1
        simp only [History.holding, List.length_append, List.length_singleton] at hroom ⊢; omega
      · simpa [History.records] using hs.chain
      · intro p hmem
        rcases List.mem_append.1 hmem with hp | hp
        · exact hs.pages p hp
        · rw [List.mem_singleton.1 hp]; exact hempty
    · split
      · rename_i hnil
        simp at hnil
      · rename_i p ps hsplit
        have hrecords : h.records = p ++ (ps.flatten ++ []) := by
          have := congrArg List.flatten hsplit
          simpa [History.records] using this
        have hlength := congrArg List.length hsplit
        have hchain := hs.chain
        rw [hrecords] at hchain
        have hev := chain_evict (h := { h with filled := ps, current := [] }) hchain
        have hhold : (({ h with filled := ps, current := [] } : History).evict p).holding = h.holding := by
          rw [holding_evict]
          simp only [History.holding, List.length_append, List.length_cons, List.length_nil] at hlength ⊢
          omega
        rw [evict_eq] at hhold ⊢
        refine ⟨{ hs with reserve_le := hle.trans hhold.ge, le_maximum := hhold.le.trans hmax, chain := hev, pages := ?_ }, rfl⟩
        intro q hmem
        rcases List.mem_append.1 hmem with hq | hq
        · exact hs.pages q (by rw [hsplit]; exact List.mem_cons_of_mem _ hq)
        · rw [List.mem_singleton.1 hq]; exact hempty

/-- A record that fits into the current page, or has a new page for itself, is the next of the chain (R45, R48). -/
theorem History.Sound.snoc (hs : h.Sound) (hr : r.seq = h.next) (hfits : pageUsed h.current + r.size ≤ 512) :
    ({ h with next := h.next + 1, current := h.current ++ [r] } : History).Sound := by
  have hlength := records_length_le hs.pages
  have hmax := hs.le_maximum
  have hhigh := hs.maximum_high
  refine { hs with chain := ?_, pages := ?_ }
  · have hsnoc := hs.chain.snoc (r := r) (by omega) hr
    rw [History.records, List.append_assoc] at hsnoc
    exact hsnoc
  · intro p hmem
    rcases List.mem_append.1 hmem with hp | hp
    · exact hs.pages p (List.mem_append_left _ hp)
    · rw [List.mem_singleton.1 hp]
      simpa [pageUsed] using hfits

theorem obtain_next (free : Prop) [Decidable free] (h : History) : (h.obtain free).next = h.next := by
  unfold History.obtain
  split
  · rfl
  · split
    · rfl
    · split
      · rfl
      · rw [evict_eq]

/-- next_seq plays no part in an eviction. -/
theorem evict_setNext (page : List Rec) (h : History) (q : Word32) :
    ({ h with next := q } : History).evict page = { h.evict page with next := q } := by
  unfold History.evict
  split
  · rfl
  · dsimp only
    split <;> rfl

/-- next_seq plays no part in the obtaining of a page. -/
theorem obtain_setNext (free : Prop) [Decidable free] (h : History) (q : Word32) :
    ({ h with next := q } : History).obtain free = { h.obtain free with next := q } := by
  unfold History.obtain
  by_cases hspare : 0 < h.spare
  · rw [if_pos hspare, if_pos hspare]
  · rw [if_neg hspare, if_neg hspare]
    by_cases hfree : h.holding < h.maximum ∧ free
    · rw [if_pos hfree]
      exact if_pos hfree
    · rw [if_neg hfree]
      refine (if_neg hfree).trans ?_
      dsimp only
      cases h.filled ++ [h.current] with
      | nil => rfl
      | cons p ps => exact evict_setNext p { h with filled := ps, current := [] } q

/-- A record of at most a page is written (R45, R48). -/
theorem History.Sound.append (hs : h.Sound) (free : Prop) [Decidable free] (hr : r.seq = h.next) (hsize : r.size ≤ 512) :
    (h.append free r).Sound := by
  unfold History.append
  dsimp only
  split
  · rename_i hfits
    exact hs.snoc hr hfits
  · obtain ⟨hobtained, hcurrent⟩ := hs.obtain free
    rw [obtain_setNext, ← obtain_next free h]
    refine hobtained.snoc (hr.trans (obtain_next free h).symm) ?_
    rw [hcurrent]
    simpa [pageUsed] using hsize

end Sys2Proof.Machine

/-! # What an operation keeps of the invariants -/

namespace Sys2Proof.Machine

open Sys2Proof

/-! ## The invariants of a column -/

/-- A receiver whose record maximum is in range and whose open record is shorter than it (R37, R44). -/
structure Receiver.Sound (r : Receiver) : Prop where
  low : 16 ≤ r.settings.recMax
  high : r.settings.recMax ≤ 240
  opened : ∀ o, r.opened = some o → o.payload.length < r.settings.recMax

/-- A column whose ring and receiver are within their settings (R23, R44, R49). -/
structure NodeState.Captures (c : NodeState) : Prop where
  hist : c.hist.Sound
  rx : c.rx.Sound

/-- A column whose TX queue is within its bounds, and empty with nothing in progress while the node is not RUNNING (R58, R66). -/
structure NodeState.Sends (c : NodeState) : Prop where
  fill : c.tx.queue.length ≤ 256
  dark : c.lines.view ≠ .running → c.tx.queue = [] ∧ c.tx.inProgress = none

/-- The connect conditions of a column (R122). -/
def NodeState.connects (c : NodeState) : Bool :=
  c.port.enabled && c.port.desc.isSome && decide (c.lines.view = .running) &&
    (c.port.always || c.drives[0].image.isSome || c.drives[1].image.isSome)

/-- A column whose port has its pull-up applied, or its connect timer running, only while the connect conditions hold (R122). -/
def NodeState.Attaches (c : NodeState) : Prop := c.port.pullUp = true ∨ c.port.state = .connecting → c.connects = true

/-- An executor whose execution has started at most 64 steps (R98). -/
def Executor.Sound (e : Executor) : Prop := ∀ r, e.run = some r → r.started ≤ 64

/-- A line unit whose view is the one its lines give (R85). -/
def LineUnit.Sound (u : LineUnit) : Prop := u.view = u.computed

theorem connectHolds_eq (s : State) (n : Node) : connectHolds s n = (s.node n).connects := by
  simp [connectHolds, connectConditions, NodeState.connects, Bool.and_assoc]

theorem ringInv_iff (s : State) : RingInv s ↔ ∀ n, (s.node n).Captures := by
  refine forall_congr' fun n => ⟨?_, ?_⟩
  · rintro ⟨h4, h64, h256, hlow, hhigh, hsize, hcursor, hseq, hpages, h16, h240, hopened⟩
    exact ⟨⟨h4, h64, h256, hlow, hhigh, ⟨hsize, hsize ▸ hcursor, hseq⟩, hpages⟩, ⟨h16, h240, hopened⟩⟩
  · rintro ⟨⟨h4, h64, h256, hlow, hhigh, ⟨hsize, hcursor, hseq⟩, hpages⟩, ⟨h16, h240, hopened⟩⟩
    exact ⟨h4, h64, h256, hlow, hhigh, hsize, hcursor.trans hsize.ge, hseq, hpages, h16, h240, hopened⟩

theorem txInv_iff (s : State) : TxInv s ↔ ∀ n, (s.node n).Sends :=
  forall_congr' fun _ => ⟨fun ⟨hfill, hdark⟩ => ⟨hfill, hdark⟩, fun ⟨hfill, hdark⟩ => ⟨hfill, hdark⟩⟩

theorem pullUpInv_iff (s : State) : PullUpInv s ↔ ∀ n, (s.node n).Attaches :=
  forall_congr' fun n => by rw [connectHolds_eq]; exact Iff.rfl

/-- What an operation keeps of the invariants of a column. -/
structure NodeState.Keeps (c d : NodeState) : Prop where
  captures : c.Captures → d.Captures
  sends : c.Sends → d.Sends
  attaches : c.Attaches → d.Attaches
  exec : c.exec.Sound → d.exec.Sound
  lines : c.lines.Sound → d.lines.Sound

theorem NodeState.Keeps.refl (c : NodeState) : c.Keeps c := ⟨id, id, id, id, id⟩

theorem NodeState.Keeps.trans {c d e : NodeState} (h : c.Keeps d) (k : d.Keeps e) : c.Keeps e :=
  ⟨k.captures ∘ h.captures, k.sends ∘ h.sends, k.attaches ∘ h.attaches, k.exec ∘ h.exec, k.lines ∘ h.lines⟩

/-- A further change of only the ring or the receiver of a column. -/
theorem NodeState.Keeps.capture {b c d : NodeState} (h : b.Keeps c) (hc : b.Captures → d.Captures) (ht : d.tx = c.tx)
    (hl : d.lines = c.lines) (hp : d.port = c.port) (hd : d.drives = c.drives) (he : d.exec = c.exec) : b.Keeps d :=
  ⟨hc, fun hs => let ⟨hfill, hdark⟩ := h.sends hs; ⟨ht ▸ hfill, by rw [ht, hl]; exact hdark⟩,
    fun ha => by unfold NodeState.Attaches NodeState.connects; rw [hp, hl, hd]; exact h.attaches ha, fun k => he ▸ h.exec k,
    fun k => hl ▸ h.lines k⟩

/-- What changes only the ring or the receiver of a column. -/
theorem NodeState.Keeps.of_captures {c d : NodeState} (hc : c.Captures → d.Captures) (ht : d.tx = c.tx) (hl : d.lines = c.lines)
    (hp : d.port = c.port) (hd : d.drives = c.drives) (he : d.exec = c.exec) : c.Keeps d := (Keeps.refl c).capture hc ht hl hp hd he

/-! ## The invariants of the whole part -/

/-- An inrush arbiter within its slot count, with every slot held while a node waits (R115). -/
structure Arbiter.Sound (a : Arbiter) : Prop where
  low : 1 ≤ a.count
  high : a.count ≤ 4
  holds : a.holds.length ≤ a.count
  full : a.waiting ≠ [] → a.holds.length = a.count

/-- No frame that is queued, and nothing that a media notice will carry, is longer than a frame allows (R2, R165, R184). -/
structure State.Bounded (s : State) : Prop where
  queue : ∀ f ∈ s.link.queue, f.payload.length ≤ 600
  forwards : ∀ n : Node, (s.node n).ctx.fwdBuffer.length ≤ 512
  writes : ∀ (i : Fin 32) w, s.cache.writes[i].use = some w → w.data.length ≤ 512

/-- What a command keeps of the invariants: those of every column, of the arbiter, and the bounds of what is sent. -/
structure Safe (s t : State) : Prop where
  columns : ∀ n, (s.node n).Keeps (t.node n)
  arbiter : s.arbiter.Sound → t.arbiter.Sound
  bounded : s.Bounded → t.Bounded

theorem Safe.refl (s : State) : Safe s s := ⟨fun _ => .refl _, id, id⟩

theorem Safe.trans {s t u : State} (h : Safe s t) (k : Safe t u) : Safe s u :=
  ⟨fun n => (h.columns n).trans (k.columns n), k.arbiter ∘ h.arbiter, k.bounded ∘ h.bounded⟩

/-- Whatever the source records become. -/
theorem safe_events (s : State) (e : EventTable) : Safe s { s with events := e } :=
  ⟨fun _ => .refl _, id, fun ⟨hframes, hforwards, hwrites⟩ => ⟨hframes, hforwards, hwrites⟩⟩

/-- The count and the last detail of LINK_RESUMED (R17, R189). -/
def State.resumed (s : State) : Nat × Nat := (s.events.recs[49].count, s.events.recs[49].lastDetail)

/-- What an operation below the link keeps: the invariants, and LINK_RESUMED, which only the taking of a frame latches and only
EVENT_TAKE clears. -/
structure Sound (s t : State) : Prop where
  columns : ∀ n, (s.node n).Keeps (t.node n)
  arbiter : s.arbiter.Sound → t.arbiter.Sound
  bounded : s.Bounded → t.Bounded
  resumed : t.resumed = s.resumed

theorem Sound.refl (s : State) : Sound s s := ⟨fun _ => .refl _, id, id, rfl⟩

theorem Sound.trans {s t u : State} (h : Sound s t) (k : Sound t u) : Sound s u :=
  ⟨fun n => (h.columns n).trans (k.columns n), k.arbiter ∘ h.arbiter, k.bounded ∘ h.bounded, k.resumed.trans h.resumed⟩

theorem Sound.safe {s t : State} (h : Sound s t) : Safe s t := ⟨h.columns, h.arbiter, h.bounded⟩

variable {s0 s t : State}

theorem Safe.ringInv (h : Safe s t) (hi : RingInv s) : RingInv t :=
  (ringInv_iff t).2 fun n => (h.columns n).captures ((ringInv_iff s).1 hi n)

theorem Safe.txInv (h : Safe s t) (hi : TxInv s) : TxInv t := (txInv_iff t).2 fun n => (h.columns n).sends ((txInv_iff s).1 hi n)

theorem Safe.pullUpInv (h : Safe s t) (hi : PullUpInv s) : PullUpInv t :=
  (pullUpInv_iff t).2 fun n => (h.columns n).attaches ((pullUpInv_iff s).1 hi n)

theorem Safe.viewInv (h : Safe s t) (hi : ViewInv s) : ViewInv t := fun n => (h.columns n).lines (hi n)

theorem Safe.execInv (h : Safe s t) (hi : ExecInv s) : ExecInv t := by
  obtain ⟨hexec, hlow, hhigh, hholds, hfull⟩ := hi
  obtain ⟨hlow', hhigh', hholds', hfull'⟩ := h.arbiter ⟨hlow, hhigh, hholds, hfull⟩
  exact ⟨fun n => (h.columns n).exec (hexec n), hlow', hhigh', hholds', hfull'⟩

/-! ## The updates -/

/-- A change that touches none of what the invariants speak of. -/
theorem Safe.of_eq (hn : t.nodes = s.nodes) (ha : t.arbiter = s.arbiter) (hq : t.link.queue = s.link.queue)
    (hw : t.cache.writes = s.cache.writes) : Safe s t := by
  have hnode (n : Node) : t.node n = s.node n := congrArg (fun v : Vector NodeState 4 => v[n]) hn
  refine ⟨fun n => hnode n ▸ .refl _, fun k => ha ▸ k, fun ⟨hframes, hforwards, hwrites⟩ => ⟨hq ▸ hframes, fun n => ?_, ?_⟩⟩
  · rw [hnode]; exact hforwards n
  · rw [hw]; exact hwrites

theorem Sound.of_eq (h : Sound s0 s) (hn : t.nodes = s.nodes) (ha : t.arbiter = s.arbiter) (hq : t.link.queue = s.link.queue)
    (hw : t.cache.writes = s.cache.writes) (he : t.resumed = s.resumed) : Sound s0 t :=
  let ⟨hcolumns, harbiter, hbounded⟩ := Safe.of_eq hn ha hq hw
  h.trans ⟨hcolumns, harbiter, hbounded, he⟩

/-- A change of one column that leaves the forward's buffer within its bounds. -/
theorem sound_updNode (h : Sound s0 s) (n : Node) (f : NodeState → NodeState) (hf : (s.node n).Keeps (f (s.node n)))
    (hb : (s.node n).ctx.fwdBuffer.length ≤ 512 → (f (s.node n)).ctx.fwdBuffer.length ≤ 512) : Sound s0 (s.updNode n f) := by
  refine h.trans ⟨fun m => ?_, id, fun ⟨hframes, hforwards, hwrites⟩ => ⟨hframes, fun m => ?_, hwrites⟩, rfl⟩
  · rw [updNode_node]
    split
    · subst_vars; exact hf
    · exact .refl _
  · rw [updNode_node]
    split
    · exact hb (hforwards n)
    · exact hforwards m

@[simp] theorem sound_self : Sound s s := .refl s

@[simp] theorem sound_updCtx (h : Sound s0 s) (n : Node) (f : Context → Context)
    (hf : ∀ x, x.fwdBuffer.length ≤ 512 → (f x).fwdBuffer.length ≤ 512) : Sound s0 (s.updCtx n f) :=
  sound_updNode h n _ (.of_captures (fun ⟨hh, hr⟩ => ⟨hh, hr⟩) rfl rfl rfl rfl rfl) (hf _)

/-- A change of a ring or a receiver that is right for a column that captured as it should at the start. -/
theorem sound_capture (h : Sound s0 s) (n : Node) (f : NodeState → NodeState)
    (hf : (s0.node n).Captures → (s.node n).Captures → (f (s.node n)).Captures)
    (hk : ∀ c, (f c).tx = c.tx ∧ (f c).lines = c.lines ∧ (f c).port = c.port ∧ (f c).drives = c.drives ∧ (f c).exec = c.exec ∧
      (f c).ctx = c.ctx) : Sound s0 (s.updNode n f) := by
  obtain ⟨htx, hlines, hport, hdrives, hexec, hctx⟩ := hk (s.node n)
  refine ⟨fun m => ?_, h.arbiter, fun hb => ⟨(h.bounded hb).queue, fun m => ?_, (h.bounded hb).writes⟩, h.resumed⟩
  · rw [updNode_node]
    split
    · rename_i e
      subst e
      have hcol := h.columns n
      exact hcol.capture (fun hc => hf hc (hcol.captures hc)) htx hlines hport hdrives hexec
    · exact h.columns m
  · rw [updNode_node]
    split
    · rename_i e
      subst e
      rw [hctx]
      exact (h.bounded hb).forwards n
    · exact (h.bounded hb).forwards m

theorem sound_updHist (h : Sound s0 s) (n : Node) (f : History → History)
    (hf : (s0.node n).Captures → (s.node n).hist.Sound → (f (s.node n).hist).Sound) : Sound s0 (s.updHist n f) :=
  sound_capture h n _ (fun h0 hc => ⟨hf h0 hc.hist, hc.rx⟩) fun _ => ⟨rfl, rfl, rfl, rfl, rfl, rfl⟩

theorem sound_updRx (h : Sound s0 s) (n : Node) (f : Receiver → Receiver) (hf : (s.node n).rx.Sound → (f (s.node n).rx).Sound) :
    Sound s0 (s.updRx n f) :=
  sound_capture h n _ (fun _ hc => ⟨hc.hist, hf hc.rx⟩) fun _ => ⟨rfl, rfl, rfl, rfl, rfl, rfl⟩

/-- A change of what a column matches with. -/
theorem sound_matching (h : Sound s0 s) (n : Node) (f : NodeState → NodeState)
    (hk : ∀ c, (f c).rx = c.rx ∧ (f c).hist = c.hist ∧ (f c).tx = c.tx ∧ (f c).lines = c.lines ∧ (f c).port = c.port ∧
      (f c).drives = c.drives ∧ (f c).exec = c.exec ∧ (f c).ctx = c.ctx) : Sound s0 (s.updNode n f) := by
  refine sound_capture h n f (fun _ hc => ⟨?_, ?_⟩) fun c => (hk c).2.2
  · rw [(hk _).2.1]
    exact hc.hist
  · rw [(hk _).1]
    exact hc.rx

/-- A change of a transmitter that adds nothing to its queue and begins nothing where nothing is queued. -/
@[simp] theorem sound_updTx (h : Sound s0 s) (n : Node) (f : Transmitter → Transmitter)
    (hf : ∀ x, (f x).queue.length ≤ x.queue.length ∧ (x.queue = [] → x.inProgress = none → (f x).inProgress = none)) :
    Sound s0 (s.updTx n f) := by
  refine sound_updNode h n _ ⟨fun ⟨hh, hr⟩ => ⟨hh, hr⟩, fun ⟨hfill, hdark⟩ => ⟨(hf _).1.trans hfill, fun hv => ?_⟩, id, id, id⟩ id
  obtain ⟨hempty, hnone⟩ := hdark hv
  have hlength := (hf (s.node n).tx).1
  rw [hempty, List.length_nil, Nat.le_zero, List.length_eq_zero_iff] at hlength
  exact ⟨hlength, (hf _).2 hempty hnone⟩

/-- A change of lines that leaves the view and what the lines give. -/
theorem sound_lines_at (h : Sound s0 s) (n : Node) (f : LineUnit → LineUnit) (hview : (f (s.node n).lines).view = (s.node n).lines.view)
    (hcomputed : (f (s.node n).lines).computed = (s.node n).lines.computed) : Sound s0 (s.updLines n f) := by
  refine sound_updNode h n _ ⟨fun ⟨hh, hr⟩ => ⟨hh, hr⟩, fun ⟨hfill, hdark⟩ => ⟨hfill, ?_⟩, fun ha => ?_, id, fun hl => ?_⟩ id
  · dsimp only; rw [hview]; exact hdark
  · unfold NodeState.Attaches NodeState.connects; dsimp only; rw [hview]; exact ha
  · unfold LineUnit.Sound; rw [hview, hcomputed]; exact hl

@[simp] theorem sound_updLines (h : Sound s0 s) (n : Node) (f : LineUnit → LineUnit)
    (hf : ∀ x, (f x).view = x.view ∧ (f x).computed = x.computed) : Sound s0 (s.updLines n f) :=
  sound_lines_at h n f (hf _).1 (hf _).2

theorem sound_updExec (h : Sound s0 s) (n : Node) (f : Executor → Executor)
    (hf : (s.node n).exec.Sound → (f (s.node n).exec).Sound) : Sound s0 (s.updExec n f) :=
  sound_updNode h n _ ⟨fun ⟨hh, hr⟩ => ⟨hh, hr⟩, fun ⟨hfill, hdark⟩ => ⟨hfill, hdark⟩, id, hf, id⟩ id

@[simp] theorem sound_updRun (h : Sound s0 s) (n : Node) (f : Run → Run) (hf : ∀ x, (f x).started = x.started) :
    Sound s0 (s.updRun n f) :=
  sound_updExec h n _ fun hx r hr => by
    obtain ⟨q, hq, rfl⟩ := Option.map_eq_some_iff.1 hr
    rw [hf]
    exact hx q hq

/-- A change of a port that leaves its connection and the conditions of it alone (R122). -/
@[simp] theorem sound_updPort (h : Sound s0 s) (n : Node) (f : Port → Port)
    (hf : ∀ x, (f x).state = x.state ∧ (f x).enabled = x.enabled ∧ (f x).desc = x.desc ∧ (f x).always = x.always) :
    Sound s0 (s.updPort n f) := by
  obtain ⟨hstate, henabled, hdesc, halways⟩ := hf (s.node n).port
  refine sound_updNode h n _ ⟨fun ⟨hh, hr⟩ => ⟨hh, hr⟩, fun ⟨hfill, hdark⟩ => ⟨hfill, hdark⟩, fun ha => ?_, id, id⟩ id
  unfold NodeState.Attaches NodeState.connects Port.pullUp
  dsimp only
  rw [hstate, henabled, hdesc, halways]
  exact ha

@[simp] theorem sound_updDrive (h : Sound s0 s) (n : Node) (u : Lun) (f : Drive → Drive) (hf : ∀ x, (f x).image = x.image) :
    Sound s0 (s.updDrive n u f) := by
  refine sound_updNode h n _ ⟨fun ⟨hh, hr⟩ => ⟨hh, hr⟩, fun ⟨hfill, hdark⟩ => ⟨hfill, hdark⟩, fun ha => ?_, id, id⟩ id
  have hdrive (i : Nat) (hi : i < 2) : ((s.node n).drives.set u (f (s.node n).drives[u]))[i].image = (s.node n).drives[i].image := by
    rw [Vector.getElem_set]
    split
    · subst_vars; exact hf _
    · rfl
  unfold NodeState.Attaches NodeState.connects
  dsimp only
  rw [hdrive, hdrive]
  exact ha

@[simp] theorem sound_updPool (h : Sound s0 s) (f : Pool → Pool) : Sound s0 (s.updPool f) := h.of_eq rfl rfl rfl rfl rfl

@[simp] theorem sound_updCache (h : Sound s0 s) (f : Cache → Cache) (hf : ∀ c, (f c).writes = c.writes) : Sound s0 (s.updCache f) :=
  h.of_eq rfl rfl rfl (hf _) rfl

@[simp] theorem sound_updLink (h : Sound s0 s) (f : Link → Link) (hf : ∀ l, (f l).queue = l.queue) : Sound s0 (s.updLink f) :=
  h.of_eq rfl rfl (hf _) rfl rfl

theorem sound_updArbiter (h : Sound s0 s) (f : Arbiter → Arbiter) (hf : s.arbiter.Sound → (f s.arbiter).Sound) :
    Sound s0 (s.updArbiter f) := h.trans ⟨fun _ => .refl _, hf, fun ⟨hq, hf, hw⟩ => ⟨hq, hf, hw⟩, rfl⟩

@[simp] theorem sound_updSlot (h : Sound s0 s) (i : Fin 16) (f : FetchSlot → FetchSlot) : Sound s0 (s.updSlot i f) :=
  h.of_eq rfl rfl rfl rfl rfl

@[simp] theorem sound_setSlotUse (h : Sound s0 s) (i : Fin 16) (v : SlotUse) : Sound s0 (s.setSlotUse i v) := h.of_eq rfl rfl rfl rfl rfl

@[simp] theorem sound_withdraw (h : Sound s0 s) (o : MediaOwner) : Sound s0 (withdraw o s) := h.of_eq rfl rfl rfl rfl rfl

theorem updEntry_entry (s : State) (i j : Fin 32) (f : WriteEntry → WriteEntry) :
    (s.updEntry i f).cache.writes[j] = if i = j then f s.cache.writes[i] else s.cache.writes[j] := by
  simp [State.updEntry, Vector.getElem_set, Fin.ext_iff]

/-- A write-table entry that stages no more than it may (R184). -/
theorem sound_updEntry (h : Sound s0 s) (i : Fin 32) (f : WriteEntry → WriteEntry)
    (hf : s.Bounded → ∀ w, (f s.cache.writes[i]).use = some w → w.data.length ≤ 512) : Sound s0 (s.updEntry i f) := by
  refine h.trans ⟨fun _ => .refl _, id, fun hb => ⟨hb.queue, hb.forwards, fun j w hw => ?_⟩, rfl⟩
  rw [updEntry_entry] at hw
  split at hw
  · exact hf hb w hw
  · exact hb.writes j w hw

@[simp] theorem sound_freeEntry (h : Sound s0 s) (i : Fin 32) : Sound s0 (s.updEntry i fun e => { e with use := none }) :=
  sound_updEntry h i _ fun _ w hw => by simp at hw

/-- A notice whose payload fits a frame (R2). -/
theorem sound_enqueueNotice (h : Sound s0 s) (k : Byte) (p : List Byte) (hp : s.Bounded → p.length ≤ 600) :
    Sound s0 (s.enqueueNotice k p) := by
  refine h.trans ⟨fun _ => .refl _, id, fun hb => ⟨fun f hf => ?_, hb.forwards, hb.writes⟩, rfl⟩
  rcases List.mem_append.1 hf with hf | hf
  · exact hb.queue f hf
  · obtain rfl := List.mem_singleton.1 hf
    exact hp hb

@[simp] theorem sound_setAnswer (h : Sound s0 s) (n : Node) (a : UsbAnswer) : Sound s0 (setAnswer n a s) := by simp [setAnswer, h]

@[simp] theorem sound_setControl (h : Sound s0 s) (n : Node) (c : Control) : Sound s0 (setControl n c s) := by simp [setControl, h]

@[simp] theorem sound_clearDue (h : Sound s0 s) (x : Timer) : Sound s0 (s.clearDue x) := h.of_eq rfl rfl rfl rfl rfl

@[simp] theorem sound_due (h : Sound s0 s) (l : List Timer) : Sound s0 { s with due := l } := h.of_eq rfl rfl rfl rfl rfl

@[simp] theorem sound_texts (h : Sound s0 s) (v : Vector (List Byte) 16) : Sound s0 { s with texts := v } := h.of_eq rfl rfl rfl rfl rfl

@[simp] theorem sound_plans (h : Sound s0 s) (v : Vector (Option Plan) 16) : Sound s0 { s with plans := v } := h.of_eq rfl rfl rfl rfl rfl

theorem sound_events (h : Sound s0 s) (e : EventTable) (he : ({ s with events := e } : State).resumed = s.resumed) :
    Sound s0 { s with events := e } := h.of_eq rfl rfl rfl rfl he

theorem sound_lastServed (h : Sound s0 s) (n : Node) : Sound s0 { s with lastServed := n } := h.of_eq rfl rfl rfl rfl rfl

theorem sound_foldl {α : Type} (f : State → α → State) (hf : ∀ t a, Sound s0 t → Sound s0 (f t a)) (l : List α) (h : Sound s0 s) :
    Sound s0 (l.foldl f s) := by
  induction l generalizing s with
  | nil => exact h
  | cons a l ih => exact ih (hf s a h)

end Sys2Proof.Machine

/-! # The ring operations keep the rings sound -/

namespace Sys2Proof.Machine

open Sys2Proof

variable {s0 s t : State}

/-! ## What differs outside the columns alone -/

/-- A state with the same columns and arbiter that has kept its bounds. -/
structure Beside (s t : State) : Prop where
  nodes : t.nodes = s.nodes
  arbiter : t.arbiter = s.arbiter
  bounded : s.Bounded → t.Bounded
  resumed : t.resumed = s.resumed

theorem Beside.refl (s : State) : Beside s s := ⟨rfl, rfl, id, rfl⟩

theorem Beside.node (h : Beside s t) (n : Node) : t.node n = s.node n := congrArg (fun v : Vector NodeState 4 => v[n]) h.nodes

theorem Beside.sound (h : Beside s t) (k : Sound s0 s) : Sound s0 t :=
  k.trans ⟨fun n => h.node n ▸ .refl _, fun ha => h.arbiter ▸ ha, h.bounded, h.resumed⟩

/-- The same change of one column, but for its context, made to both. -/
theorem Beside.updNode (h : Beside s t) (n : Node) (f : NodeState → NodeState) (hf : ∀ c, (f c).ctx = c.ctx) :
    Beside (s.updNode n f) (t.updNode n f) := by
  have hctx (u : State) (m : Node) : ((u.updNode n f).node m).ctx = (u.node m).ctx := by
    rw [updNode_node]
    split
    · subst_vars; exact hf _
    · rfl
  refine ⟨by rw [updNode_nodes, updNode_nodes, h.nodes], h.arbiter, fun ⟨hframes, hforwards, hwrites⟩ => ?_, h.resumed⟩
  obtain ⟨hframes', hforwards', hwrites'⟩ := h.bounded ⟨hframes, fun m => by rw [← hctx]; exact hforwards m, hwrites⟩
  exact ⟨hframes', fun m => by rw [hctx]; exact hforwards' m, hwrites'⟩

theorem beside_updPool (h : Beside s t) (f : Pool → Pool) : Beside s (t.updPool f) :=
  ⟨h.nodes, h.arbiter, fun hb => let ⟨hframes, hforwards, hwrites⟩ := h.bounded hb; ⟨hframes, hforwards, hwrites⟩, h.resumed⟩

/-- A notice whose payload fits a frame is queued (R2). -/
theorem beside_enqueueNotice (h : Beside s t) (k : Byte) (p : List Byte) (hp : p.length ≤ 600) : Beside s (t.enqueueNotice k p) := by
  refine ⟨h.nodes, h.arbiter, fun hb => ?_, h.resumed⟩
  obtain ⟨hframes, hforwards, hwrites⟩ := h.bounded hb
  refine ⟨fun f hf => ?_, hforwards, hwrites⟩
  rcases List.mem_append.1 hf with hf | hf
  · exact hframes f hf
  · obtain rfl := List.mem_singleton.1 hf
    exact hp

theorem beside_events (h : Beside s t) (e : EventTable) (he : ({ t with events := e } : State).resumed = t.resumed) :
    Beside s { t with events := e } :=
  ⟨h.nodes, h.arbiter, fun hb => let ⟨hframes, hforwards, hwrites⟩ := h.bounded hb; ⟨hframes, hforwards, hwrites⟩, he.trans h.resumed⟩

theorem beside_offerSummary (h : Beside s t) : Beside s (offerSummary t) := by
  unfold offerSummary
  split
  · exact beside_events (beside_enqueueNotice h _ _ (by simp [le_length])) _ rfl
  · exact h

/-- Latching another source leaves LINK_RESUMED (R189). -/
theorem resumed_set {src : Source} (hsrc : src ≠ .linkResumed) (t : State) (r : EventRec) (b : Bool) :
    ({ t with events := { recs := t.events.recs.set src.id r, owed := b } } : State).resumed = t.resumed := by
  have hne : (src.id : Nat) ≠ 49 := fun h => hsrc (source_id_injective (Fin.ext h : src.id = Source.linkResumed.id))
  simp [State.resumed, Vector.getElem_set_ne _ _ hne]

theorem beside_latch (h : Beside s t) (src : Source) (d : Nat) (hsrc : src ≠ .linkResumed) : Beside s (latch src d t) := by
  unfold latch
  dsimp only
  split
  · exact h
  · split
    · exact beside_offerSummary (beside_events h _ (resumed_set hsrc ..))
    · exact beside_events h _ (resumed_set hsrc ..)

@[simp] theorem sound_latch (h : Sound s0 s) (src : Source) (d : Nat) (hsrc : src ≠ .linkResumed) : Sound s0 (latch src d s) :=
  (beside_latch (.refl s) src d hsrc).sound h

@[simp] theorem sound_offerSummary (h : Sound s0 s) : Sound s0 (offerSummary s) := (beside_offerSummary (.refl s)).sound h

/-! ## Rings as the pure functions of the ring -/

theorem updHist_of_eq {s : State} {n : Node} {f : History → History} (h : f (s.node n).hist = (s.node n).hist) : s.updHist n f = s :=
  (updHist_congr (g := fun h => h) h).trans (updHist_id s n)

theorem updHist_updHist (s : State) (n : Node) (f g : History → History) :
    (s.updHist n f).updHist n g = s.updHist n fun h => g (f h) := by
  simp [State.updHist, State.updNode]

theorem Beside.updHist (h : Beside s t) (n : Node) (f : History → History) : Beside (s.updHist n f) (t.updHist n f) :=
  h.updNode n _ fun _ => rfl

theorem beside_evictRecords (n : Node) (page : List Rec) (s : State) :
    Beside (s.updHist n (History.evict page)) (evictRecords n page s) := by
  unfold evictRecords
  split
  · rename_i hnone
    rw [updHist_of_eq (by rw [History.evict, hnone])]
    exact .refl s
  · rename_i r hr
    dsimp only
    split
    · rename_i hbehind
      rw [updHist_congr (g := fun h => { h with oldest := r.seq + 1, cursor := r.seq + 1 })
        (by simp only [History.evict, hr, if_pos hbehind])]
      split
      · exact beside_latch (.refl _) _ _ nofun
      · exact .refl _
    · rename_i hahead
      rw [updHist_congr (g := fun h => { h with oldest := r.seq + 1 }) (by simp only [History.evict, hr, if_neg hahead])]
      exact .refl _

theorem beside_giveUpPage (n : Node) (s : State) : Beside (s.updHist n History.giveUp) (giveUpPage n s) := by
  unfold giveUpPage
  dsimp only
  split
  · rename_i hspare
    rw [updHist_congr (g := fun h => { h with spare := h.spare - 1 }) (by simp only [History.giveUp, if_pos hspare])]
    exact .refl _
  · rename_i hspare
    split
    · rename_i hnil
      rw [updHist_of_eq (by simp only [History.giveUp, if_neg hspare, hnil])]
      exact .refl s
    · rename_i p ps hcons
      rw [updHist_congr (g := fun h => History.evict p { h with filled := ps })
        (by simp only [History.giveUp, if_neg hspare, hcons]), ← updHist_updHist]
      exact beside_evictRecords n p _

theorem beside_obtainPage (n : Node) (s : State) :
    Beside (s.updHist n (History.obtain (0 < s.pool.free))) (obtainPage n s) := by
  unfold obtainPage
  dsimp only
  split
  · rename_i hspare
    rw [updHist_congr (g := fun h => { h with filled := h.filled ++ [h.current], current := [], spare := h.spare - 1 })
      (by simp only [History.obtain, if_pos hspare])]
    exact .refl _
  · rename_i hspare
    split
    · rename_i hfree
      rw [updHist_congr (g := fun h => { h with filled := h.filled ++ [h.current], current := [] })
        (by simp only [History.obtain, if_neg hspare, if_pos hfree])]
      exact beside_updPool (.refl _) _
    · rename_i hfree
      split
      · rename_i hnil
        simp at hnil
      · rename_i p ps hcons
        rw [updHist_congr (g := fun h => History.evict p { h with filled := ps, current := [] })
          (by simp only [History.obtain, if_neg hspare, if_neg hfree, hcons]), ← updHist_updHist]
        exact beside_evictRecords n p _

/-- A record is written, before the offer of the stream arbiter (R45). -/
def writeRec (n : Node) (timestamp : Word32) (body : RecBody) (s : State) : State :=
  let r : Rec := { seq := (s.node n).hist.next, timestamp := timestamp, body := body }
  let s1 := s.updHist n fun h => { h with next := h.next + 1 }
  let s2 := if pageUsed (s1.node n).hist.current + r.size ≤ Config.pageBytes then s1 else obtainPage n s1
  s2.updHist n fun h => { h with current := h.current ++ [r] }

theorem appendRec_eq (n : Node) (timestamp : Word32) (body : RecBody) (s : State) :
    appendRec n timestamp body s = streamOffer (writeRec n timestamp body s) := rfl

theorem beside_writeRec (n : Node) (timestamp : Word32) (body : RecBody) (s : State) :
    Beside (s.updHist n (History.append (0 < s.pool.free) { seq := (s.node n).hist.next, timestamp := timestamp, body := body }))
      (writeRec n timestamp body s) := by
  unfold writeRec
  dsimp only
  rw [updHist_node_self]
  split
  · rename_i hfits
    rw [updHist_updHist, updHist_congr]
    · exact .refl _
    · simp only [History.append, if_pos hfits]
  · rename_i hfull
    have hobtain := (beside_obtainPage n (s.updHist n fun h => { h with next := h.next + 1 })).updHist n fun h =>
      { h with current := h.current ++ [{ seq := (s.node n).hist.next, timestamp := timestamp, body := body }] }
    rw [updHist_updHist, updHist_updHist] at hobtain
    rw [updHist_congr]
    · exact hobtain
    · simp only [History.append, if_neg hfull]
      rfl

/-! ## The offers of the stream arbiter -/

/-- The stored size of a record is the number of its bytes (R48). -/
theorem bytes_length (r : Rec) : r.bytes.length = r.size := by
  unfold Rec.bytes Rec.size
  cases r.body with
  | text f p => simp [le_length]; omega
  | marker code detail => simp [le_length]

theorem flatten_bytes_length (rs : List Rec) : (rs.map Rec.bytes).flatten.length = pageUsed rs := by
  induction rs with
  | nil => rfl
  | cons r rs ih => rw [List.map_cons, List.flatten_cons, List.length_append, ih, bytes_length, pageUsed_cons]

theorem pageUsed_takeRecords_le (room : Nat) (rs : List Rec) : pageUsed (takeRecords room rs) ≤ room := by
  obtain ⟨rest, _, hfits, _⟩ := takeRecords_longest room rs
  exact hfits

theorem length_takeRecords_le (room : Nat) (rs : List Rec) : (takeRecords room rs).length ≤ rs.length := by
  obtain ⟨rest, hall, _⟩ := takeRecords_longest room rs
  rw [hall, List.length_append, ← hall]
  omega

theorem conData_length (n : Node) (q : Word32) (rs : List Rec) : (conData n q (takeRecords 512 rs)).length ≤ 600 := by
  have := pageUsed_takeRecords_le 512 rs
  simp only [conData, List.length_append, List.length_singleton, le_length, flatten_bytes_length]
  omega

/-- A cursor that moves past records from it on stays in its ring (R54). -/
theorem History.Sound.pass {h : History} (hs : h.Sound) (room : Nat) :
    ({ h with cursor := h.cursor + BitVec.ofNat 32 (takeRecords room (h.from h.cursor)).length } : History).Sound := by
  refine hs.setCursor ?_
  have hle := length_takeRecords_le room (h.from h.cursor)
  have hlt := hs.chain.length_lt
  have hcursor := hs.chain.cursor
  rw [History.from, List.length_drop] at hle
  rw [History.from]
  generalize (takeRecords room (List.drop (h.cursor - h.oldest).toNat h.records)).length = k at *
  generalize h.records.length = m at *
  bv_omega

@[simp] theorem sound_streamOffer (h : Sound s0 s) : Sound s0 (streamOffer s) := by
  unfold streamOffer
  split
  · exact h
  · split
    · dsimp only
      refine sound_lastServed (sound_updHist (sound_enqueueNotice h _ _ fun _ => conData_length _ _ _) _ _ fun _ hs => ?_) _
      rw [enqueueNotice_node] at hs ⊢
      exact hs.pass 512
    · exact h

/-! ## Records and markers -/

/-- A record of at most a page is written (R45, R48). -/
theorem sound_appendRec (h : Sound s0 s) (n : Node) (timestamp : Word32) (body : RecBody)
    (hsize : (s0.node n).Captures → (⟨(s.node n).hist.next, timestamp, body⟩ : Rec).size ≤ 512) : Sound s0 (appendRec n timestamp body s) := by
  rw [appendRec_eq]
  refine sound_streamOffer ((beside_writeRec n timestamp body s).sound (sound_updHist h n _ fun h0 hs => ?_))
  exact hs.append _ rfl (hsize h0)

/-- A text of at most the longest record fits a page (R37, R48). -/
theorem text_size_le (q ts : Word32) (f : RecFlags) (p : List Byte) (hp : p.length ≤ 240) : (⟨q, ts, .text f p⟩ : Rec).size ≤ 512 := by
  unfold Rec.size
  dsimp only
  omega

@[simp] theorem sound_appendRec_marker (h : Sound s0 s) (n : Node) (ts : Word32) (c d : Nat) :
    Sound s0 (appendRec n ts (.marker c d) s) := sound_appendRec h n ts _ fun _ => by simp [Rec.size]

/-- An open record closes whose payload is not too long (R44, R45). -/
theorem sound_closes (h : Sound s0 s) (n : Node) (o : OpenRec) (f : RecFlags) (ho : (s0.node n).Captures → o.payload.length ≤ 240) :
    Sound s0 (appendRec n o.timestamp (.text (o.flags.or f) o.payload) (s.updRx n fun r => { r with opened := none })) := by
  refine sound_appendRec (sound_updRx h n _ fun hr => ?_) n _ _ fun h0 => text_size_le _ _ _ _ (ho h0)
  exact ⟨hr.low, hr.high, fun o ho => by simp at ho⟩

@[simp] theorem sound_closeOpen (h : Sound s0 s) (n : Node) (f : RecFlags) : Sound s0 (closeOpen n f s) := by
  unfold closeOpen
  split
  · exact h
  · rename_i o hopen
    refine sound_closes h n o f fun h0 => ?_
    have hrx := ((h.columns n).captures h0).rx
    have := hrx.opened o hopen
    have := hrx.high
    omega

@[simp] theorem sound_appendMarker (h : Sound s0 s) (n : Node) (c d : Nat) : Sound s0 (appendMarker n c d s) := by
  simp [appendMarker, h]

end Sys2Proof.Machine

/-! # The cache, the contexts and the ports keep the invariants -/

namespace Sys2Proof.Machine

open Sys2Proof

variable {s0 s t : State}

/-! ## Events and notices -/

@[simp] theorem sound_mediaError (h : Sound s0 s) (n : Node) (c : MediaCause) (l : Lun) : Sound s0 (mediaError n c l s) := by
  simp (maxDischargeDepth := 10) [mediaError, h]

@[simp] theorem sound_discardFrame (h : Sound s0 s) (c : LinkCause) : Sound s0 (discardFrame c s) := by simp (maxDischargeDepth := 10) [discardFrame, h]

@[simp] theorem sound_portChange (h : Sound s0 s) (n : Node) (c : PortCause) : Sound s0 (portChange n c s) := by simp (maxDischargeDepth := 10) [portChange, h]

@[simp] theorem sound_pressureTrim (h : Sound s0 s) : Sound s0 (pressureTrim s) := by simp (maxDischargeDepth := 10) [pressureTrim, h]

@[simp] theorem sound_pressureWait (h : Sound s0 s) (n : Node) : Sound s0 (pressureWait n s) := by simp (maxDischargeDepth := 10) [pressureWait, h]

@[simp] theorem sound_pressureStage (h : Sound s0 s) (n : Node) : Sound s0 (pressureStage n s) := by simp (maxDischargeDepth := 10) [pressureStage, h]

@[simp] theorem sound_staleAnswer (h : Sound s0 s) (k : Byte) : Sound s0 (staleAnswer k s) := by simp (maxDischargeDepth := 10) [staleAnswer, h]

theorem fetchReq_length (s : State) (i : Fin 16) (l : Line) : (fetchReq s i l).length = 17 := by simp [fetchReq, le_length]

theorem writeThru_length (i : Fin 32) (ticket : Byte) (w : WriteUse) : (writeThru i ticket w).length = 14 + w.data.length := by
  simp [writeThru, le_length]
  omega

theorem fwdCmd_length (n : Node) (ticket : Byte) (c : Command) (buffer : List Byte) :
    (fwdCmd n ticket c buffer).length = 27 + buffer.length := by
  simp [fwdCmd, le_length]
  omega

/-- A media notice is composed within the bounds of what its owner holds (R165, R177, R184). -/
@[simp] theorem sound_sendMedia (h : Sound s0 s) (o : MediaOwner) : Sound s0 (sendMedia o s) := by
  cases o with
  | fetch i =>
    unfold sendMedia
    dsimp only
    split
    · exact sound_updSlot (sound_enqueueNotice h _ _ fun _ => by rw [fetchReq_length]; decide) _ _
    · exact h
  | write i =>
    unfold sendMedia
    dsimp only
    split
    · rename_i w hw
      refine sound_updEntry (sound_enqueueNotice h _ _ fun hb => ?_) i _ fun hb v hv => ?_
      · have := hb.writes i w hw
        rw [writeThru_length]
        omega
      · obtain rfl := Option.some.inj hv
        exact hb.writes i w hw
    · exact h
  | forward n =>
    unfold sendMedia
    dsimp only
    split
    · refine sound_updCtx (sound_enqueueNotice h _ _ fun hb => ?_) n _ fun _ hx => hx
      have := hb.forwards n
      rw [fwdCmd_length]
      omega
    · exact h

@[simp] theorem sound_offerMedia (h : Sound s0 s) (o : MediaOwner) : Sound s0 (offerMedia o s) := by
  unfold offerMedia
  split <;> simp (maxDischargeDepth := 10) [h]

@[simp] theorem sound_offerWaiting (os : List MediaOwner) (h : Sound s0 s) : Sound s0 (offerWaiting os s) := by
  induction os generalizing s with
  | nil => exact h
  | cons o os ih =>
    unfold offerWaiting
    split
    · exact ih (by simp (maxDischargeDepth := 10) [h])
    · exact h

/-! ## Pages given up -/

theorem holding_le_giveUp (h : History) : h.holding ≤ h.giveUp.holding + 1 := by
  by_cases hone : 1 < h.holding
  · exact (holding_giveUp hone).ge
  · omega

theorem reserve_giveUp (h : History) : h.giveUp.reserve = h.reserve := by
  unfold History.giveUp
  split
  · rfl
  · split
    · rfl
    · rw [evict_eq]

/-- A page that is given up lowers the surplus of all rings by no more than one (R29). -/
theorem totalSurplus_giveUpPage (n : Node) (s : State) : s.totalSurplus ≤ (giveUpPage n s).totalSurplus + 1 := by
  have hcolumn (m : Node) : (giveUpPage n s).node m = (s.updHist n History.giveUp).node m := (beside_giveUpPage n s).node m
  have hsum := sum_nodes_of_ne (f := fun m => ((giveUpPage n s).node m).hist.surplus) (g := fun m => (s.node m).hist.surplus) n
    fun m hm => by rw [hcolumn, updHist_node_ne s _ hm.symm]
  have hself : (s.node n).hist.surplus ≤ ((giveUpPage n s).node n).hist.surplus + 1 := by
    rw [hcolumn, updHist_node_self]
    have hholding := holding_le_giveUp (s.node n).hist
    have hreserve := reserve_giveUp (s.node n).hist
    simp only [History.surplus, hreserve]
    omega
  unfold State.totalSurplus
  omega

/-- A ring above its reserve gives up a page (R25). -/
theorem sound_giveUpPage (h : Sound s0 s) (n : Node) (hn : 0 < (s.node n).hist.surplus) : Sound s0 (giveUpPage n s) :=
  (beside_giveUpPage n s).sound (sound_updHist h n _ fun _ hs => hs.giveUp (by unfold History.surplus at hn; omega))

/-- Trimming takes no more than the rings hold above their reserves (R30). -/
theorem sound_trimPages (k : Nat) (h : Sound s0 s) (hk : k ≤ s.totalSurplus) : Sound s0 (trimPages k s) := by
  induction k generalizing s with
  | zero => exact h
  | succ k ih =>
    refine ih (sound_giveUpPage h _ (surplus_richest_pos (by omega))) ?_
    have := totalSurplus_giveUpPage s.richest s
    omega

/-! ## The end of a command -/

@[simp] theorem afterStatus_image (d : Drive) (op : Byte) (b m : Nat) (r : CmdResult) : (d.afterStatus op b m r).image = d.image := rfl

@[simp] theorem idle_fwdBuffer (x : Context) : x.idle.fwdBuffer = [] := rfl

@[simp] theorem sound_enterStatus (h : Sound s0 s) (n : Node) : Sound s0 (enterStatus n s) := by
  unfold enterStatus
  dsimp only
  split
  · exact h
  · refine sound_updCtx (sound_updDrive h n _ _ fun _ => ?_) n _ fun _ hx => ?_
    · rfl
    · exact hx

@[simp] theorem sound_closeFailed (h : Sound s0 s) (n : Node) : Sound s0 (closeFailed n s) := by
  unfold closeFailed
  dsimp only
  split <;> simp (maxDischargeDepth := 10) [h]

@[simp] theorem sound_closeAtStart (h : Sound s0 s) (n : Node) (c : Command) : Sound s0 (closeAtStart n c s) := by
  unfold closeAtStart
  repeat' split
  all_goals simp (maxDischargeDepth := 10) [h]

@[simp] theorem sound_refuseAtStart (h : Sound s0 s) (n : Node) (c : Command) (x : Sense) : Sound s0 (refuseAtStart n c x s) := by
  simp (maxDischargeDepth := 10) [refuseAtStart, h]

@[simp] theorem sound_readFails (h : Sound s0 s) (n : Node) (x : Sense) : Sound s0 (readFails n x s) := by
  unfold readFails
  dsimp only
  repeat' split
  all_goals simp (maxDischargeDepth := 10) [h]

/-! ## Pages and lines -/

theorem sound_evictLine (h : Sound s0 s) (e : evictLine s = some t) : Sound s0 t := by
  unfold evictLine at e
  split at e
  · cases e; simp (maxDischargeDepth := 10) [h]
  · cases e

theorem sound_demandAlloc (h : Sound s0 s) (e : demandAlloc s = .got t) : Sound s0 t := by
  unfold demandAlloc at e
  split at e
  · cases e; simp (maxDischargeDepth := 10) [h]
  · split at e
    · cases e; exact sound_evictLine h ‹_›
    · split at e
      · rename_i hroom
        cases e
        refine sound_pressureTrim (sound_trimPages _ (sound_updPool h _) ?_)
        change _ ≤ s.totalSurplus
        omega
      · split at e <;> cases e

theorem sound_prefetchAlloc (h : Sound s0 s) (e : prefetchAlloc s = some t) : Sound s0 t := by
  unfold prefetchAlloc at e
  split at e
  · cases e; simp (maxDischargeDepth := 10) [h]
  · exact sound_evictLine h e

@[simp] theorem sound_createLine (h : Sound s0 s) (n : Node) (u : Lun) (j p : Nat) (i : Fin 16) : Sound s0 (createLine n u j p i s) := by
  simp (maxDischargeDepth := 10) [createLine, h]

@[simp] theorem sound_attachNew (h : Sound s0 s) (n : Node) (i : Fin 16) : Sound s0 (attachNew n i s) := by
  simp (maxDischargeDepth := 10) [attachNew, h]

@[simp] theorem sound_grantPages (h : Sound s0 s) (n : Node) : Sound s0 (grantPages n s) := by
  unfold grantPages
  split <;> simp (maxDischargeDepth := 10) [h]

@[simp] theorem sound_retryList (ws : List Waiter) (h : Sound s0 s) : Sound s0 (retryList ws s) := by
  induction ws generalizing s with
  | nil => exact h
  | cons w ws ih =>
    unfold retryList
    split
    · exact ih (sound_grantPages (sound_updPool (sound_demandAlloc h ‹_›) _) _)
    · exact h

@[simp] theorem sound_retryWaiting (h : Sound s0 s) : Sound s0 (retryWaiting s) := by simp (maxDischargeDepth := 10) [retryWaiting, h]

@[simp] theorem sound_pagesJoin (h : Sound s0 s) (k : Nat) : Sound s0 (pagesJoin k s) := by simp (maxDischargeDepth := 10) [pagesJoin, h]

@[simp] theorem sound_detach (h : Sound s0 s) (n : Node) : Sound s0 (detach n s) := by
  unfold detach
  dsimp only
  repeat' split
  all_goals simp (maxDischargeDepth := 10) [h]

@[simp] theorem sound_failRead (h : Sound s0 s) (n : Node) (x : Sense) : Sound s0 (failRead n x s) := by
  simp (maxDischargeDepth := 10) [failRead, h]

@[simp] theorem sound_allocateFor (h : Sound s0 s) (n : Node) (i : Fin 16) : Sound s0 (allocateFor n i s) := by
  unfold allocateFor
  split
  · exact sound_attachNew (sound_demandAlloc h ‹_›) ..
  · simp (maxDischargeDepth := 10) [h]
  · simp (maxDischargeDepth := 10) [h]

@[simp] theorem sound_grantList (ws : List Waiter) (h : Sound s0 s) : Sound s0 (grantList ws s) := by
  induction ws generalizing s with
  | nil => exact h
  | cons w ws ih =>
    unfold grantList
    split
    · exact h
    · exact ih (by simp (maxDischargeDepth := 10) [h])

@[simp] theorem sound_grantSlots (h : Sound s0 s) : Sound s0 (grantSlots s) := by simp (maxDischargeDepth := 10) [grantSlots, h]

@[simp] theorem sound_demandMiss (h : Sound s0 s) (n : Node) : Sound s0 (demandMiss n s) := by
  unfold demandMiss
  repeat' split
  all_goals simp (maxDischargeDepth := 10) [h]

@[simp] theorem sound_dropWaits (h : Sound s0 s) (n : Node) : Sound s0 (dropWaits n s) := by
  unfold dropWaits
  dsimp only
  split <;> simp (maxDischargeDepth := 10) [h]

@[simp] theorem sound_leaveLists (h : Sound s0 s) (n : Node) : Sound s0 (leaveLists n s) := by
  unfold leaveLists
  split <;> simp (maxDischargeDepth := 10) [h]

@[simp] theorem sound_prefetchRun (n : Node) (u : Lun) (k j : Nat) (h : Sound s0 s) : Sound s0 (prefetchRun n u k j s) := by
  induction k generalizing j s with
  | zero => exact h
  | succ k ih =>
    unfold prefetchRun
    dsimp only
    split
    · exact h
    · split
      · exact ih _ h
      · split
        · exact h
        · split
          · exact ih _ (sound_createLine (sound_prefetchAlloc h ‹_›) ..)
          · exact h

@[simp] theorem sound_askLine (h : Sound s0 s) (n : Node) (j : Nat) : Sound s0 (askLine n j s) := by
  unfold askLine
  dsimp only
  repeat' split
  all_goals simp (maxDischargeDepth := 10) [h]

/-! ## Fetches -/

@[simp] theorem sound_freeSlotLine (h : Sound s0 s) (i : Fin 16) : Sound s0 (freeSlotLine i s) := by simp (maxDischargeDepth := 10) [freeSlotLine, h]

@[simp] theorem sound_fetchFails (h : Sound s0 s) (i : Fin 16) (c : MediaCause) (x : Sense) : Sound s0 (fetchFails i c x s) := by
  unfold fetchFails
  dsimp only
  repeat' split
  all_goals simp (maxDischargeDepth := 10) [h]

@[simp] theorem sound_fetchCompletes (h : Sound s0 s) (i : Fin 16) (l : Line) : Sound s0 (fetchCompletes i l s) := by
  unfold fetchCompletes
  dsimp only
  repeat' split
  all_goals simp (maxDischargeDepth := 10) [h]

@[simp] theorem sound_storeChunk (h : Sound s0 s) (i : Fin 16) (k : Fin 8) (d : List Byte) : Sound s0 (storeChunk i k d s) := by
  unfold storeChunk
  dsimp only
  repeat' split
  all_goals simp (maxDischargeDepth := 10) [h]

/-! ## Generations -/

@[simp] theorem sound_cacheEject (h : Sound s0 s) (n : Node) (u : Lun) : Sound s0 (cacheEject n u s) := by
  have hslots (l : List (Fin 16)) : Sound s0 (l.foldl (fun t i => (withdraw (.fetch i) t).setSlotUse i .free) s) :=
    sound_foldl _ (fun t a ht => by simp (maxDischargeDepth := 10) [ht]) l h
  unfold cacheEject
  dsimp only
  split <;> simp (maxDischargeDepth := 10) [hslots]

@[simp] theorem sound_doomLines (h : Sound s0 s) (p : Line → Bool) : Sound s0 (doomLines p s) := by
  unfold doomLines
  dsimp only
  split <;> simp (maxDischargeDepth := 10) [h]

@[simp] theorem sound_cacheDropOp (h : Sound s0 s) (n : Node) (u : Lun) : Sound s0 (cacheDropOp n u s) := by
  unfold cacheDropOp
  dsimp only
  repeat' split
  all_goals simp (maxDischargeDepth := 10) [h]

@[simp] theorem sound_cacheOverlap (h : Sound s0 s) (n : Node) (u : Lun) (a b : Nat) : Sound s0 (cacheOverlap n u a b s) := by
  simp (maxDischargeDepth := 10) [cacheOverlap, h]

/-! ## Staging pages and the write table -/

@[simp] theorem sound_requestStaging (h : Sound s0 s) (n : Node) : Sound s0 (requestStaging n s).2 := by
  unfold requestStaging
  split
  · exact h
  · split
    · simp (maxDischargeDepth := 10) [h]
    · split
      · rename_i u hu
        have hline := sound_evictLine h hu
        simp (maxDischargeDepth := 10) [hline]
      · dsimp only
        split <;> simp (maxDischargeDepth := 10) [h]

@[simp] theorem sound_discardUnit (h : Sound s0 s) (n : Node) : Sound s0 (discardUnit n s) := by
  unfold discardUnit
  split <;> simp (maxDischargeDepth := 10) [h]

@[simp] theorem sound_endEntry (h : Sound s0 s) (i : Fin 32) : Sound s0 (endEntry i s) := by simp (maxDischargeDepth := 10) [endEntry, h]

@[simp] theorem sound_checkAwait (h : Sound s0 s) (n : Node) : Sound s0 (checkAwait n s) := by
  unfold checkAwait
  split <;> simp (maxDischargeDepth := 10) [h]

@[simp] theorem sound_failWrite (h : Sound s0 s) (n : Node) (x : Sense) : Sound s0 (failWrite n x s) := by
  unfold failWrite
  dsimp only
  split
  · exact sound_checkAwait (sound_discardUnit (sound_foldl _ (fun t a ht => sound_endEntry ht a) _ (by simp (maxDischargeDepth := 10) [h])) _) _
  · exact h

/-- A unit that is handed over fills its staging page (R184). -/
theorem sound_handOver (h : Sound s0 s) (n : Node) (k : Nat) {d : List Byte} (hd : d.length ≤ 512) : Sound s0 (handOver n k d s) := by
  unfold handOver
  split
  · exact h
  · rename_i i _
    have hown (w : WriteUse) (hw : w.data = d) : Sound s0 ((s.updCtx n fun x => { x with filling := none }).updEntry i fun e =>
        { ticket := e.ticket + 1, use := some w }) := by
      refine sound_updEntry (by simp [h]) i _ fun _ v hv => ?_
      obtain rfl := Option.some.inj hv
      rw [hw]
      exact hd
    dsimp only
    split
    · exact sound_failWrite (sound_mediaError (sound_endEntry (hown _ (by rfl)) i) _ _ _) _ _
    · exact sound_offerMedia (hown _ (by rfl)) _

end Sys2Proof.Machine

/-! # The contexts, the ports and the drives keep the invariants -/

namespace Sys2Proof.Machine

open Sys2Proof

variable {s0 s t : State}

/-! ## The command context -/

@[simp] theorem sound_idle (h : Sound s0 s) (n : Node) : Sound s0 (s.updCtx n Context.idle) := by
  refine sound_updCtx h n _ fun x _ => ?_
  rw [idle_fwdBuffer]
  decide

@[simp] theorem sound_failForward (h : Sound s0 s) (n : Node) (x : Sense) : Sound s0 (failForward n x s) := by
  unfold failForward
  dsimp only
  repeat' split
  all_goals simp (maxDischargeDepth := 10) [h]

@[simp] theorem sound_beginForward (h : Sound s0 s) (n : Node) : Sound s0 (beginForward n s) := by
  unfold beginForward
  dsimp only
  split <;> simp (maxDischargeDepth := 10) [h]

@[simp] theorem sound_startForward (h : Sound s0 s) (n : Node) (c : Command) : Sound s0 (startForward n c s) := by
  unfold startForward
  split <;> simp (maxDischargeDepth := 10) [h]

@[simp] theorem sound_finishIn (h : Sound s0 s) (n : Node) : Sound s0 (finishIn n s) := by
  unfold finishIn
  dsimp only
  split <;> simp (maxDischargeDepth := 10) [h]

/-- A forward's data of at most 512 bytes stays within the buffer (R165, R166). -/
theorem sound_endForward (h : Sound s0 s) (n : Node) (r : CmdResult) {d : List Byte} (hd : d.length ≤ 512) :
    Sound s0 (endForward n r d s) := by
  unfold endForward
  dsimp only
  split
  · exact h
  · split
    · have htake (x : Context) (c : Command) (hx : x.fwdBuffer = d.take (min d.length c.expected)) : x.fwdBuffer.length ≤ 512 := by
        rw [hx, List.length_take]
        omega
      split
      · exact sound_finishIn (sound_updCtx h n _ fun _ _ => htake _ _ rfl) n
      · exact sound_updCtx h n _ fun _ _ => htake _ _ rfl
    · simp (maxDischargeDepth := 10) [h]

@[simp] theorem sound_runEmpty (h : Sound s0 s) (n : Node) (c : Command) : Sound s0 (runEmpty n c s) := by
  unfold runEmpty
  split <;> simp (maxDischargeDepth := 10) [h]

@[simp] theorem sound_runComposed (h : Sound s0 s) (n : Node) (d : List Byte) : Sound s0 (runComposed n d s) := by
  simp (maxDischargeDepth := 10) [runComposed, h]

@[simp] theorem sound_runRequestSense (h : Sound s0 s) (n : Node) (c : Command) : Sound s0 (runRequestSense n c s) := by
  simp (maxDischargeDepth := 10) [runRequestSense, h]

@[simp] theorem sound_runInquiry (h : Sound s0 s) (n : Node) (c : Command) : Sound s0 (runInquiry n c s) := by
  simp (maxDischargeDepth := 10) [runInquiry, h]

@[simp] theorem sound_runReadCapacity (h : Sound s0 s) (n : Node) (c : Command) : Sound s0 (runReadCapacity n c s) := by
  simp (maxDischargeDepth := 10) [runReadCapacity, h]

@[simp] theorem sound_runRead (h : Sound s0 s) (n : Node) (c : Command) : Sound s0 (runRead n c s) := by
  simp (maxDischargeDepth := 10) [runRead, h]

@[simp] theorem sound_runWrite (h : Sound s0 s) (n : Node) (c : Command) : Sound s0 (runWrite n c s) := by
  simp (maxDischargeDepth := 10) [runWrite, h]

@[simp] theorem sound_decideRead (h : Sound s0 s) (n : Node) (c : Command) : Sound s0 (decideRead n c s) := by
  unfold decideRead
  split <;> simp (maxDischargeDepth := 10) [h]

@[simp] theorem sound_decideWrite (h : Sound s0 s) (n : Node) (c : Command) : Sound s0 (decideWrite n c s) := by
  unfold decideWrite
  repeat' split
  all_goals simp (maxDischargeDepth := 10) [h]

@[simp] theorem sound_runExecuted (h : Sound s0 s) (n : Node) (c : Command) : Sound s0 (runExecuted n c s) := by
  unfold runExecuted
  repeat' split
  all_goals simp (maxDischargeDepth := 10) [h]

@[simp] theorem sound_setHalt (h : Sound s0 s) (n : Node) (e : Endpoint) (v : Bool) : Sound s0 (setHalt n e v s) := by
  cases e <;> simp (maxDischargeDepth := 10) [setHalt, h]

@[simp] theorem sound_decideTransfer (h : Sound s0 s) (n : Node) (c : Command) : Sound s0 (decideTransfer n c s) := by
  unfold decideTransfer
  dsimp only
  repeat' split
  all_goals simp (maxDischargeDepth := 10) [h]

@[simp] theorem sound_dispatch (h : Sound s0 s) (n : Node) (c : Command) : Sound s0 (dispatch n c s) := by
  unfold dispatch
  dsimp only
  repeat' split
  all_goals simp (maxDischargeDepth := 10) [h]

@[simp] theorem sound_takeWrapper (h : Sound s0 s) (n : Node) (d : List Byte) : Sound s0 (takeWrapper n d s) := by
  unfold takeWrapper
  split <;> simp (maxDischargeDepth := 10) [h]

@[simp] theorem sound_letGo (h : Sound s0 s) (n : Node) : Sound s0 (letGo n s) := by
  simp (maxDischargeDepth := 10) [letGo, h]

@[simp] theorem sound_askForPacket (h : Sound s0 s) (n : Node) : Sound s0 (askForPacket n s) := by
  unfold askForPacket
  dsimp only
  repeat' split
  all_goals simp (maxDischargeDepth := 10) [h]

@[simp] theorem sound_delivered (h : Sound s0 s) (n : Node) (k : Nat) : Sound s0 (delivered n k s) := by
  unfold delivered
  dsimp only
  repeat' split
  all_goals simp (maxDischargeDepth := 10) [h]

@[simp] theorem sound_handedBack (h : Sound s0 s) (n : Node) : Sound s0 (handedBack n s) := by
  unfold handedBack
  dsimp only
  split <;> simp (maxDischargeDepth := 10) [h]

@[simp] theorem sound_endWriteData (h : Sound s0 s) (n : Node) : Sound s0 (endWriteData n s) := by
  simp (maxDischargeDepth := 10) [endWriteData, h]

theorem sound_unitTaken (h : Sound s0 s) (n : Node) (useful bytes : List Byte) (k moved : Nat) (short ends : Prop) [Decidable short]
    [Decidable ends] : Sound s0 (unitTaken n useful bytes k moved short ends s) := by
  have hfill : Sound s0 (fillUnit n useful s).2 := by
    unfold fillUnit
    split <;> simp [h]
  have hunit : Sound s0 ((fillUnit n useful s).2.updCtx n (Context.fill useful moved (k, bytes))) := sound_updCtx hfill n _ fun _ hx => hx
  unfold unitTaken
  dsimp only
  generalize (fillUnit n useful s).2.updCtx n (Context.fill useful moved (k, bytes)) = t at *
  have hhanded : Sound s0 (if useful ≠ [] ∧ bytes.length = Config.chunkBytes then handOver n k bytes t else t) := by
    split
    · rename_i hfull
      exact sound_handOver hunit n k hfull.2.le
    · exact hunit
  split <;> split <;> simp (maxDischargeDepth := 10) [hhanded]

@[simp] theorem sound_takeWriteData (h : Sound s0 s) (n : Node) (d : List Byte) : Sound s0 (takeWriteData n d s).2 := by
  obtain ⟨useful, bytes, k, moved, short, ends, _, _, e⟩ := takeWriteData_eq n d s
  rw [e]
  split
  · exact sound_unitTaken h ..
  · unfold fillUnit
    split <;> simp [h]

@[simp] theorem sound_takeOut (h : Sound s0 s) (n : Node) (d : List Byte) : Sound s0 (takeOut n d s).2 := by
  unfold takeOut
  dsimp only
  repeat' split
  all_goals simp (maxDischargeDepth := 10) [h]

@[simp] theorem sound_cancelEntries (h : Sound s0 s) (n : Node) : Sound s0 (cancelEntries n s) := by
  refine h.trans ⟨fun _ => .refl _, id, fun hb => ⟨hb.queue, hb.forwards, fun i v hv => ?_⟩, rfl⟩
  unfold cancelEntries at hv
  rw [updCache_cache, Fin.getElem_fin, Vector.getElem_map] at hv
  obtain ⟨w, hw, rfl⟩ := Option.map_eq_some_iff.1 hv
  have := hb.writes i w hw
  split <;> exact this

@[simp] theorem sound_clearContext (h : Sound s0 s) (n : Node) : Sound s0 (clearContext n s) := by
  simp (maxDischargeDepth := 10) [clearContext, h]

@[simp] theorem sound_haltCleared (h : Sound s0 s) (n : Node) (e : Endpoint) : Sound s0 (haltCleared n e s) := by
  unfold haltCleared
  dsimp only
  split <;> simp (maxDischargeDepth := 10) [h]

@[simp] theorem sound_ejectCommand (h : Sound s0 s) (n : Node) (u : Lun) : Sound s0 (ejectCommand n u s) := by
  unfold ejectCommand
  dsimp only
  repeat' split
  all_goals simp (maxDischargeDepth := 10) [h]

end Sys2Proof.Machine

/-! # The ports and the drives keep the invariants -/

namespace Sys2Proof.Machine

open Sys2Proof

variable {s0 s t : State} {n : Node}

/-! ## Connections -/

theorem port_of_still (h : t.still = s.still) (n : Node) : (t.node n).port.still = (s.node n).port.still := by
  have e := congrArg (fun x : State => x.nodes[n]) h
  simp only [State.still, Fin.getElem_fin, Vector.getElem_map] at e
  exact congrArg (·.port) e

theorem connects_port (c : NodeState) {p : Port} (he : p.enabled = c.port.enabled) (hd : p.desc = c.port.desc)
    (ha : p.always = c.port.always) : ({ c with port := p } : NodeState).connects = c.connects := by
  unfold NodeState.connects
  rw [he, hd, ha]

theorem attaches_of_connects {c : NodeState} (h : c.connects = true) : c.Attaches := fun _ => h

/-- A port that rests is neither pulled up nor about to be (R122, R124). -/
theorem attaches_of_rest {c : NodeState} {p : Port} (h : c.port.state = p.restState) : c.Attaches := by
  unfold NodeState.Attaches Port.pullUp
  rw [h, Port.restState]
  cases p.enabled <;> simp

/-- A change of a port whose connect conditions hold wherever it attaches. -/
theorem sound_plug (h : Sound s0 s) (f : Port → Port) (hc : (s.node n).Attaches → (s.node n).connects = true)
    (hf : ∀ p, (f p).enabled = p.enabled ∧ (f p).desc = p.desc ∧ (f p).always = p.always) : Sound s0 (s.updPort n f) := by
  obtain ⟨he, hd, ha⟩ := hf (s.node n).port
  refine sound_updNode h n _ ⟨fun ⟨hh, hr⟩ => ⟨hh, hr⟩, fun ⟨hfill, hdark⟩ => ⟨hfill, hdark⟩, fun k => ?_, id, id⟩ id
  exact attaches_of_connects ((connects_port _ he hd ha).trans (hc k))

/-- A port that is pulled up may move on to any state (R122). -/
theorem sound_pulled (h : Sound s0 s) (f : Port → Port) (hp : (s.node n).port.pullUp = true)
    (hf : ∀ p, (f p).enabled = p.enabled ∧ (f p).desc = p.desc ∧ (f p).always = p.always) : Sound s0 (s.updPort n f) :=
  sound_plug h f (fun ha => ha (.inl hp)) hf

/-- A port that comes to rest (R124). -/
theorem sound_rest (h : Sound s0 s) (f : Port → Port) (hf : ∀ p, (f p).state = p.restState) : Sound s0 (s.updPort n f) :=
  sound_updNode h n _ ⟨fun ⟨hh, hr⟩ => ⟨hh, hr⟩, fun ⟨hfill, hdark⟩ => ⟨hfill, hdark⟩, fun _ => attaches_of_rest (hf _), id, id⟩ id

theorem sound_attach (h : Sound s0 s) (hc : (s.node n).Attaches → (s.node n).connects = true) : Sound s0 (attach n s) := by
  refine sound_portChange (sound_plug h _ hc ?_) n _
  exact fun _ => ⟨rfl, rfl, rfl⟩

theorem sound_startConnect (h : Sound s0 s) (hc : (s.node n).Attaches → (s.node n).connects = true) : Sound s0 (startConnect n s) := by
  unfold startConnect
  split
  · exact sound_attach h hc
  · refine sound_plug h _ hc ?_
    exact fun _ => ⟨rfl, rfl, rfl⟩

/-- A session is cleared from a port that changes its state next: its context first (R124, R127). -/
theorem pullUp_clearContext (n : Node) (s : State) : ((clearContext n s).node n).port.pullUp = (s.node n).port.pullUp := by
  have hstill := congrArg Port.state (port_of_still (still_clearContext n s) n)
  dsimp only at hstill
  unfold Port.pullUp
  rw [hstill]

@[simp] theorem sound_disconnect (h : Sound s0 s) (n : Node) : Sound s0 (disconnect n s) := by
  have hcleared : Sound s0 (clearContext n (s.updPort n fun p => { p with control := none, pendingIn := none, pendingAddress := none })) := by
    simp (maxDischargeDepth := 10) [h]
  exact sound_portChange (sound_rest hcleared (fun p => p.fresh p.restState) fun _ => rfl) n _

/-- What an operation keeps but for the connection of one node's port. -/
structure Unplugged (n : Node) (s t : State) : Prop where
  others : ∀ m, m ≠ n → (s.node m).Keeps (t.node m)
  captures : (s.node n).Captures → (t.node n).Captures
  sends : (s.node n).Sends → (t.node n).Sends
  exec : (s.node n).exec.Sound → (t.node n).exec.Sound
  lines : (s.node n).lines.Sound → (t.node n).lines.Sound
  arbiter : s.arbiter.Sound → t.arbiter.Sound
  bounded : s.Bounded → t.Bounded
  resumed : t.resumed = s.resumed

theorem Sound.unplugged (h : Sound s t) : Unplugged n s t :=
  ⟨fun m _ => h.columns m, (h.columns n).captures, (h.columns n).sends, (h.columns n).exec, (h.columns n).lines, h.arbiter,
    h.bounded, h.resumed⟩

theorem Unplugged.trans {u : State} (h : Unplugged n s t) (k : Unplugged n t u) : Unplugged n s u :=
  ⟨fun m hm => (h.others m hm).trans (k.others m hm), k.captures ∘ h.captures, k.sends ∘ h.sends, k.exec ∘ h.exec,
    k.lines ∘ h.lines, k.arbiter ∘ h.arbiter, k.bounded ∘ h.bounded, k.resumed.trans h.resumed⟩

/-- The connection is as it should be in the end. -/
theorem Unplugged.sound (k : Unplugged n s t) (ha : (s.node n).Attaches → (t.node n).Attaches) (h : Sound s0 s) : Sound s0 t := by
  refine h.trans ⟨fun m => ?_, k.arbiter, k.bounded, k.resumed⟩
  rcases eq_or_ne m n with rfl | hm
  · exact ⟨k.captures, k.sends, ha, k.exec, k.lines⟩
  · exact k.others m hm

/-- Any change of the port and the drives of the node. -/
theorem unplugged_updNode (s : State) (n : Node) (f : NodeState → NodeState)
    (hf : ∀ c, (f c).rx = c.rx ∧ (f c).hist = c.hist ∧ (f c).tx = c.tx ∧ (f c).lines = c.lines ∧ (f c).exec = c.exec ∧
      (f c).ctx = c.ctx) : Unplugged n s (s.updNode n f) := by
  obtain ⟨hrx, hhist, htx, hlines, hexec, hctx⟩ := hf (s.node n)
  refine ⟨fun m hm => ?_, ?_, ?_, ?_, ?_, id, fun ⟨hframes, hforwards, hwrites⟩ => ⟨hframes, fun m => ?_, hwrites⟩, rfl⟩
  · rw [updNode_node_ne s f hm.symm]
    exact .refl _
  · rw [updNode_node_self]
    exact fun ⟨hh, hr⟩ => ⟨hhist ▸ hh, hrx ▸ hr⟩
  · rw [updNode_node_self]
    exact fun ⟨hfill, hdark⟩ => ⟨htx ▸ hfill, by rw [htx, hlines]; exact hdark⟩
  · rw [updNode_node_self, hexec]
    exact id
  · rw [updNode_node_self, hlines]
    exact id
  · rw [updNode_node]
    split
    · rw [hctx]; exact hforwards n
    · exact hforwards m

theorem unplugged_updPort (s : State) (n : Node) (f : Port → Port) : Unplugged n s (s.updPort n f) :=
  unplugged_updNode s n _ fun _ => ⟨rfl, rfl, rfl, rfl, rfl, rfl⟩

theorem unplugged_updDrive (s : State) (n : Node) (u : Lun) (f : Drive → Drive) : Unplugged n s (s.updDrive n u f) :=
  unplugged_updNode s n _ fun _ => ⟨rfl, rfl, rfl, rfl, rfl, rfl⟩

theorem portChange_node (n : Node) (c : PortCause) (s : State) (m : Node) : (portChange n c s).node m = s.node m := latch_node ..

/-- A test of the connect conditions leaves the port as they allow, whatever it was before (R122 to R124). -/
theorem attaches_connectTest (n : Node) (s : State) : ((connectTest n s).node n).Attaches := by
  have hrest (u : State) (f : Port → Port) (hf : ∀ p, (f p).state = p.restState) : ((u.updPort n f).node n).Attaches :=
    attaches_of_rest (p := (u.node n).port) (by rw [updPort_node_self]; exact hf _)
  have hplug (u : State) (f : Port → Port) (hc : (u.node n).connects = true)
      (hf : ∀ p, (f p).enabled = p.enabled ∧ (f p).desc = p.desc ∧ (f p).always = p.always) : ((u.updPort n f).node n).Attaches := by
    obtain ⟨he, hd, ha⟩ := hf (u.node n).port
    rw [updPort_node_self]
    exact attaches_of_connects ((connects_port _ he hd ha).trans hc)
  unfold connectTest
  dsimp only
  rw [connectHolds_eq]
  split
  · split
    · exact attaches_of_connects ‹_›
    · unfold disconnect
      rw [portChange_node]
      exact hrest _ _ fun _ => rfl
  · split
    · split
      · exact attaches_of_connects ‹_›
      · exact hrest _ _ fun _ => rfl
    · split
      · unfold startConnect
        split
        · unfold attach
          rw [portChange_node]
          exact hplug _ _ ‹_› fun _ => ⟨rfl, rfl, rfl⟩
        · exact hplug _ _ ‹_› fun _ => ⟨rfl, rfl, rfl⟩
      · exact hrest _ _ fun _ => rfl

/-- A test of the connect conditions. -/
@[simp] theorem sound_connectTest (h : Sound s0 s) (n : Node) : Sound s0 (connectTest n s) := by
  refine Unplugged.sound (n := n) ?_ (fun _ => attaches_connectTest n s) h
  unfold connectTest
  dsimp only
  rw [connectHolds_eq]
  split
  · split <;> exact Sound.unplugged (by simp)
  · split
    · split
      · exact Sound.unplugged (.refl s)
      · exact unplugged_updPort ..
    · split
      · exact Sound.unplugged (sound_startConnect (.refl s) fun _ => ‹_›)
      · exact unplugged_updPort ..

/-- Whatever became of the port and the drives, the test of the connect conditions puts right (R122). -/
theorem Unplugged.connectTest (k : Unplugged n s t) (h : Sound s0 s) : Sound s0 (connectTest n t) :=
  (k.trans (Sound.unplugged (sound_connectTest (.refl t) n))).sound (fun _ => attaches_connectTest n t) h

/-! ## The bus -/

theorem sound_connectExpires (h : Sound s0 s) (hc : (s.node n).port.state = .connecting) : Sound s0 (connectExpires n s) :=
  sound_attach h fun ha => ha (.inr hc)

@[simp] theorem sound_busResetOp (h : Sound s0 s) (n : Node) (b : Bool) : Sound s0 (busResetOp n b s) := by
  unfold busResetOp
  split
  · rename_i hp
    dsimp only
    refine sound_portChange (sound_pulled ?_ _ ?_ ?_) n _
    · simp (maxDischargeDepth := 10) [h]
    · rw [pullUp_clearContext, updPort_node_self]
      exact hp
    · exact fun _ => ⟨rfl, rfl, rfl⟩
  · exact h

theorem sound_suspendExpires (h : Sound s0 s) (hp : (s.node n).port.pullUp = true) : Sound s0 (suspendExpires n s) := by
  refine sound_portChange (sound_pulled h _ hp ?_) n _
  exact fun _ => ⟨rfl, rfl, rfl⟩

@[simp] theorem sound_busActivityOp (h : Sound s0 s) (n : Node) : Sound s0 (busActivityOp n s) := by
  unfold busActivityOp
  dsimp only
  split
  · rename_i hp
    split
    · refine sound_portChange (sound_pulled ?_ _ ?_ ?_) n _
      · simp [h]
      · rw [updPort_node_self]
        exact hp
      · exact fun _ => ⟨rfl, rfl, rfl⟩
    · simp [h]
  · exact h

theorem pullUp_of_hears {addr : BitVec 7} (h : s.hears n addr = true) : (s.node n).port.pullUp = true := by
  unfold State.hears at h
  unfold Port.pullUp
  dsimp only at h
  split at h <;> simp_all

/-- What a port does with a packet it answers keeps what a pulled-up port may do (R131). -/
theorem sound_onPacket (h : Sound s0 s) (n : Node) (addr : BitVec 7) (f : State → State)
    (hf : ∀ t, Sound s0 t → (t.node n).port.pullUp = true → Sound s0 (f t)) : Sound s0 (onPacket n addr f s) := by
  unfold onPacket
  dsimp only
  split
  · have hheard : Sound s0 (setAnswer n .silent (busActivityOp n s)) := by simp (maxDischargeDepth := 10) [h]
    split
    · exact hf _ hheard (pullUp_of_hears ‹_›)
    · exact hheard
  · exact h

theorem sound_onSetup (h : Sound s0 s) (n : Node) (addr : BitVec 7) (f : State → State)
    (hf : ∀ t, Sound s0 t → (t.node n).port.pullUp = true → Sound s0 (f t)) : Sound s0 (onSetup n addr f s) := by
  refine sound_onPacket h n addr _ fun t ht hp => hf _ (by simp (maxDischargeDepth := 10) [ht]) ?_
  rw [setAnswer, updPort_node_self, updPort_node_self]
  exact hp

@[simp] theorem sound_answerBulkIn (h : Sound s0 s) (n : Node) : Sound s0 (answerBulkIn n s) := by
  unfold answerBulkIn
  dsimp only
  repeat' split
  all_goals simp (maxDischargeDepth := 10) [h]

@[simp] theorem sound_ackBulkIn (h : Sound s0 s) (n : Node) : Sound s0 (ackBulkIn n s) := by
  unfold ackBulkIn
  split <;> simp (maxDischargeDepth := 10) [h]

@[simp] theorem sound_answerBulkOut (h : Sound s0 s) (n : Node) (b : Bool) (d : List Byte) : Sound s0 (answerBulkOut n b d s) := by
  unfold answerBulkOut
  dsimp only
  repeat' split
  all_goals simp (maxDischargeDepth := 10) [h]

@[simp] theorem sound_answerPing (h : Sound s0 s) (n : Node) : Sound s0 (answerPing n s) := by
  unfold answerPing
  dsimp only
  repeat' split
  all_goals simp (maxDischargeDepth := 10) [h]

/-! ## Control requests -/

@[simp] theorem sound_stallRequest (h : Sound s0 s) (n : Node) (u : Setup) : Sound s0 (stallRequest n u s) := by simp [stallRequest, h]

@[simp] theorem sound_answerRequest (h : Sound s0 s) (n : Node) (u : Setup) (bs : List Byte) : Sound s0 (answerRequest n u bs s) := by
  simp [answerRequest, h]

@[simp] theorem sound_decideGetDescriptor (h : Sound s0 s) (n : Node) (u : Setup) : Sound s0 (decideGetDescriptor n u s) := by
  unfold decideGetDescriptor
  split <;> simp [h]

@[simp] theorem sound_decideSetAddress (h : Sound s0 s) (n : Node) (u : Setup) : Sound s0 (decideSetAddress n u s) := by
  unfold decideSetAddress
  split <;> simp (maxDischargeDepth := 10) [h]

theorem sound_configure (h : Sound s0 s) (hp : (s.node n).port.pullUp = true) : Sound s0 (configure n s) := by
  refine sound_portChange (sound_clearContext (sound_pulled h _ hp ?_) n) n _
  exact fun _ => ⟨rfl, rfl, rfl⟩

theorem sound_unconfigure (h : Sound s0 s) (hp : (s.node n).port.pullUp = true) : Sound s0 (unconfigure n s) := by
  refine sound_portChange (sound_clearContext (sound_pulled h _ hp ?_) n) n _
  exact fun _ => ⟨rfl, rfl, rfl⟩

theorem sound_decideSetConfiguration (h : Sound s0 s) (hp : (s.node n).port.pullUp = true) (u : Setup) :
    Sound s0 (decideSetConfiguration n u s) := by
  unfold decideSetConfiguration
  repeat' split
  · simp [h]
  · exact sound_answerRequest (sound_configure h hp) n u _
  · exact sound_answerRequest (sound_unconfigure h hp) n u _
  · simp [h]

@[simp] theorem sound_decideGetConfiguration (h : Sound s0 s) (n : Node) (u : Setup) : Sound s0 (decideGetConfiguration n u s) := by
  unfold decideGetConfiguration
  split <;> simp [h]

@[simp] theorem sound_decideGetStatus (h : Sound s0 s) (n : Node) (u : Setup) : Sound s0 (decideGetStatus n u s) := by
  unfold decideGetStatus
  split <;> simp [h]

@[simp] theorem sound_decideSetFeature (h : Sound s0 s) (n : Node) (u : Setup) : Sound s0 (decideSetFeature n u s) := by
  unfold decideSetFeature
  split <;> simp [h]

@[simp] theorem sound_clearHalt (h : Sound s0 s) (n : Node) (e : Endpoint) : Sound s0 (clearHalt n e s) := by
  unfold clearHalt
  dsimp only
  repeat' split
  all_goals simp (maxDischargeDepth := 10) [h]

@[simp] theorem sound_decideClearFeature (h : Sound s0 s) (n : Node) (u : Setup) : Sound s0 (decideClearFeature n u s) := by
  unfold decideClearFeature
  repeat' split
  all_goals simp (maxDischargeDepth := 10) [h]

@[simp] theorem sound_decideBulkReset (h : Sound s0 s) (n : Node) (u : Setup) : Sound s0 (decideBulkReset n u s) := by
  unfold decideBulkReset
  split <;> simp (maxDischargeDepth := 10) [h]

@[simp] theorem sound_decideGetMaxLun (h : Sound s0 s) (n : Node) (u : Setup) : Sound s0 (decideGetMaxLun n u s) := by
  unfold decideGetMaxLun
  split <;> simp [h]

@[simp] theorem sound_answerControlIn (h : Sound s0 s) (n : Node) : Sound s0 (answerControlIn n s) := by
  unfold answerControlIn
  repeat' split
  all_goals simp [h]

@[simp] theorem sound_answerControlOut (h : Sound s0 s) (n : Node) : Sound s0 (answerControlOut n s) := by
  unfold answerControlOut
  repeat' split
  all_goals simp [h]

/-- A pending address takes effect in DEFAULT and ADDRESSED alone, which are pulled up (R138). -/
theorem takeAddress_state (p : Port) : p.takeAddress.state = p.state ∨ p.pullUp = true := by
  unfold Port.takeAddress Port.pullUp
  split
  · exact .inl rfl
  · cases p.state <;> simp

theorem takeAddress_rest (p : Port) : p.takeAddress.enabled = p.enabled ∧ p.takeAddress.desc = p.desc ∧
    p.takeAddress.always = p.always := by
  unfold Port.takeAddress
  split <;> exact ⟨rfl, rfl, rfl⟩

theorem sound_takeAddress (h : Sound s0 s) (n : Node) : Sound s0 (s.updPort n fun p => { p.takeAddress with control := none }) := by
  rcases takeAddress_state (s.node n).port with hstate | hp
  · obtain ⟨he, hd, ha⟩ := takeAddress_rest (s.node n).port
    refine sound_updNode h n _ ⟨fun ⟨hh, hr⟩ => ⟨hh, hr⟩, fun ⟨hfill, hdark⟩ => ⟨hfill, hdark⟩, fun k => ?_, id, id⟩ id
    unfold NodeState.Attaches NodeState.connects Port.pullUp
    dsimp only
    rw [hstate, he, hd, ha]
    exact k
  · exact sound_pulled h _ hp takeAddress_rest

@[simp] theorem sound_ackControlIn (h : Sound s0 s) (n : Node) : Sound s0 (ackControlIn n s) := by
  have hheard : Sound s0 (setAnswer n .silent (busActivityOp n s)) := by simp (maxDischargeDepth := 10) [h]
  unfold ackControlIn
  split
  · exact h
  · split
    · exact h
    · dsimp only
      split
      · exact sound_takeAddress hheard n
      · simp [hheard]
      · exact hheard

/-! ## Drives -/

theorem unplugged_ejectSteps (n : Node) (u : Lun) (s : State) : Unplugged n s (ejectSteps n u s) :=
  (unplugged_updDrive s n u Drive.ejected).trans (Sound.unplugged (by simp [ejectSteps]))

@[simp] theorem sound_ejectOp (h : Sound s0 s) (n : Node) (u : Lun) : Sound s0 (ejectOp n u s) := by
  unfold ejectOp
  split
  · exact (unplugged_ejectSteps n u s).connectTest h
  · exact h

@[simp] theorem sound_insertOp (h : Sound s0 s) (n : Node) (u : Lun) (i : Image) : Sound s0 (insertOp n u i s) := by
  unfold insertOp
  dsimp only
  refine Unplugged.connectTest (Unplugged.trans ?_ (unplugged_updDrive ..)) h
  split
  · exact unplugged_ejectSteps n u s
  · exact Sound.unplugged (.refl s)

end Sys2Proof.Machine

/-! # The consoles, the lines and the plans keep the invariants -/

namespace Sys2Proof.Machine

open Sys2Proof

variable {s0 s t : State} {n : Node}

/-! ## The transmitters -/

/-- Items join a queue that has room for them while its node is RUNNING (R58, R62, R64). -/
theorem sound_appendItems (h : Sound s0 s) {items : List TxItem} (hview : (s.node n).lines.view = .running)
    (hroom : items.length ≤ (s.node n).tx.freeItems) : Sound s0 (appendItems n items s) := by
  refine sound_updNode h n (fun c => { c with tx := { c.tx with queue := c.tx.queue ++ items } }) ⟨fun ⟨hh, hr⟩ => ⟨hh, hr⟩, fun hs => ⟨?_, fun hdark => absurd hview hdark⟩, id, id, id⟩ fun hb => hb
  have hfill := hs.fill
  rw [Transmitter.freeItems, Transmitter.fill, Config.txItems] at hroom
  rw [List.length_append]
  omega

@[simp] theorem sound_takeHead (h : Sound s0 s) (n : Node) : Sound s0 (takeHead n s) := by
  refine sound_updTx h n _ fun x => ?_
  cases hq : x.queue with
  | nil => simp [hq]
  | cons i is => simp

@[simp] theorem sound_byteEnds (h : Sound s0 s) (n : Node) : Sound s0 (byteEnds n s) := by
  unfold byteEnds
  dsimp only
  repeat' split
  all_goals simp (maxDischargeDepth := 10) [h]

@[simp] theorem sound_breakEnds (h : Sound s0 s) (n : Node) (k : Nat) : Sound s0 (breakEnds n k s) := by
  simp (maxDischargeDepth := 10) [breakEnds, h]

@[simp] theorem sound_breakExpires (h : Sound s0 s) (n : Node) : Sound s0 (breakExpires n s) := by
  unfold breakExpires
  split <;> simp [h]

@[simp] theorem sound_flushItems (h : Sound s0 s) (n : Node) : Sound s0 (flushItems n s) := by
  unfold flushItems
  dsimp only
  split <;> simp (maxDischargeDepth := 10) [h]

/-! ## The power view -/

@[simp] theorem sound_viewMarker (h : Sound s0 s) (n : Node) (a b : View) : Sound s0 (viewMarker n a b s) := by
  unfold viewMarker
  repeat' split
  all_goals simp [h]

theorem sends_dark (c : NodeState) (now : Word32) : ({ c with tx := c.tx.dark now, window := [] } : NodeState).Sends :=
  ⟨Nat.zero_le _, fun _ => ⟨rfl, rfl⟩⟩

@[simp] theorem sound_goDark (h : Sound s0 s) (n : Node) : Sound s0 (goDark n s) :=
  sound_updNode h n _ ⟨fun ⟨hh, hr⟩ => ⟨hh, hr⟩, fun _ => sends_dark _ _, id, id, id⟩ id

/-- The transmitter of a node whose view changes: what was not RUNNING sent nothing, and what was RUNNING goes dark (R66). -/
theorem sends_deliverView {old new : View} (hs : old ≠ .running → (s.node n).tx.queue = [] ∧ (s.node n).tx.inProgress = none)
    (hfill : (s.node n).tx.queue.length ≤ 256) : ((deliverView n old new s).node n).Sends := by
  have hkeeps (t : State) (ht : (t.node n).Sends) : ((latch (.node n .powerChange) (new.num + 256 * old.num) (connectTest n t)).node n).Sends :=
    ((sound_latch (sound_connectTest (.refl t) n) (.node n .powerChange) _ nofun).columns n).sends ht
  unfold deliverView
  dsimp only
  refine hkeeps _ ?_
  split
  · rw [goDark, updNode_node_self]
    exact sends_dark _ _
  · rename_i hold
    obtain ⟨hqueue, hprogress⟩ := hs hold
    refine ((sound_viewMarker (.refl s) n old new).columns n).sends ⟨hfill, fun _ => ⟨hqueue, hprogress⟩⟩

theorem sound_deliverView (n : Node) (old new : View) (s : State) : Sound s (deliverView n old new s) := by
  unfold deliverView
  dsimp only
  split <;> simp (maxDischargeDepth := 10)

theorem attaches_deliverView (n : Node) (old new : View) (s : State) : ((deliverView n old new s).node n).Attaches := by
  unfold deliverView
  rw [latch_node]
  exact attaches_connectTest n _

/-- The view that the lines give is in force after it has been recomputed (R85). -/
theorem lines_recomputeView (n : Node) (s : State) : ((recomputeView n s).node n).lines.Sound := by
  unfold recomputeView
  dsimp only
  split
  · rename_i hsame
    exact hsame.symm
  · refine ((sound_deliverView ..).columns n).lines ?_
    rw [updLines_node_self]
    rfl

@[simp] theorem sound_recomputeView (h : Sound s0 s) (n : Node) : Sound s0 (recomputeView n s) := by
  have hlines := lines_recomputeView n s
  refine h.trans ?_
  unfold recomputeView at hlines ⊢
  dsimp only at hlines ⊢
  split
  · exact .refl s
  · rename_i hnew
    rw [if_neg hnew] at hlines
    have hk := sound_deliverView n (s.node n).lines.view (s.node n).lines.computed
      (s.updLines n fun v => { v with view := (s.node n).lines.computed })
    refine ⟨fun m => ?_, hk.arbiter, fun ⟨hframes, hforwards, hwrites⟩ => hk.bounded ⟨hframes, fun m => ?_, hwrites⟩, hk.resumed⟩
    · rcases eq_or_ne m n with rfl | hm
      · have hcol := hk.columns m
        rw [updLines_node_self] at hcol
        refine ⟨fun ⟨hh, hr⟩ => hcol.captures ⟨hh, hr⟩, fun ⟨hfill, hdark⟩ => sends_deliverView ?_ ?_,
          fun _ => attaches_deliverView _ _ _ _, hcol.exec, fun _ => hlines⟩
        · simpa using hdark
        · simpa using hfill
      · have hcol := hk.columns m
        rwa [updLines_node_ne s _ hm.symm] at hcol
    · rw [updLines_ctx]
      exact hforwards m

/-- A change of lines that leaves the view, and what made it right in the end. -/
theorem sound_lines (h : Sound s0 s) (f : LineUnit → LineUnit) (hf : ∀ u, (f u).view = u.view) (k : Sound (s.updLines n f) t)
    (hl : (t.node n).lines.Sound) : Sound s0 t := by
  refine h.trans ⟨fun m => ?_, k.arbiter, fun ⟨hframes, hforwards, hwrites⟩ => k.bounded ⟨hframes, fun m => ?_, hwrites⟩, k.resumed⟩
  · have hcol := k.columns m
    rcases eq_or_ne m n with rfl | hm
    · rw [updLines_node_self] at hcol
      refine ⟨fun ⟨hh, hr⟩ => hcol.captures ⟨hh, hr⟩, fun ⟨hfill, hdark⟩ => hcol.sends ⟨hfill, ?_⟩, fun ha => hcol.attaches ?_, hcol.exec,
        fun _ => hl⟩
      · rw [hf]; exact hdark
      · unfold NodeState.Attaches NodeState.connects
        dsimp only
        rw [hf]
        exact ha
    · rwa [updLines_node_ne s _ hm.symm] at hcol
  · rw [updLines_ctx]
    exact hforwards m

/-! ## Outputs -/

/-- The CUT output alone of the four has a part in the view (R85). -/
theorem computed_output {u : LineUnit} {o : Output} {f : OutLine → OutLine}
    (h : o = .cut → (f u.outputs[outIdx o]).active = u.outputs[outIdx o].active) :
    ({ u with outputs := u.outputs.set (outIdx o) (f u.outputs[outIdx o]) } : LineUnit).computed = u.computed := by
  have hcut : (u.outputs.set (outIdx o) (f u.outputs[outIdx o]))[outIdx .cut].active = u.outputs[outIdx .cut].active := by
    cases o with
    | cut => rw [Fin.getElem_fin, Vector.getElem_set_self]; exact h rfl
    | pwrbtn => rw [Fin.getElem_fin, Vector.getElem_set_ne _ _ (by decide)]; rfl
    | rstbtn => rw [Fin.getElem_fin, Vector.getElem_set_ne _ _ (by decide)]; rfl
    | nmi => rw [Fin.getElem_fin, Vector.getElem_set_ne _ _ (by decide)]; rfl
  unfold LineUnit.computed
  dsimp only
  rw [hcut]

/-- A change of an output that leaves the level of CUT. -/
theorem sound_updOutput (h : Sound s0 s) (n : Node) (o : Output) (f : OutLine → OutLine)
    (hf : o = .cut → (f (s.output n o)).active = (s.output n o).active) : Sound s0 (s.updOutput n o f) :=
  sound_lines_at h n _ rfl (computed_output hf)

/-- A change of an output that what follows puts right (R85). -/
theorem sound_of_output (h : Sound s0 s) {o : Output} {f : OutLine → OutLine} (k : Sound (s.updOutput n o f) t)
    (hl : (t.node n).lines.Sound) : Sound s0 t :=
  sound_lines h (fun u => { u with outputs := u.outputs.set (outIdx o) (f u.outputs[outIdx o]) }) (fun _ => rfl) k hl

@[simp] theorem sound_cutChanged (h : Sound s0 s) (n : Node) (b : Bool) : Sound s0 (cutChanged n b s) := by
  unfold cutChanged
  refine sound_updLines (by simp [h]) n _ fun x => ?_
  split <;> exact ⟨rfl, rfl⟩

theorem lines_cutChanged (n : Node) (b : Bool) (s : State) : ((cutChanged n b s).node n).lines.Sound := by
  have hk : Sound (recomputeView n s) (cutChanged n b s) := by
    unfold cutChanged
    refine sound_updLines (.refl _) n _ fun x => ?_
    split <;> exact ⟨rfl, rfl⟩
  exact (hk.columns n).lines (lines_recomputeView n s)

@[simp] theorem sound_driveLine (h : Sound s0 s) (n : Node) (o : Output) (b : Bool) (p : Option Pulse) :
    Sound s0 (driveLine n o b p s) := by
  unfold driveLine
  dsimp only
  split
  · exact sound_of_output h (sound_cutChanged (.refl _) n b) (lines_cutChanged n b _)
  · rename_i hsame
    refine sound_updOutput h n o _ fun ho => ?_
    by_contra hne
    exact hsame ⟨ho, fun e => hne e.symm⟩

@[simp] theorem sound_setLine (h : Sound s0 s) (n : Node) (o : Output) (b : Bool) : Sound s0 (setLine n o b s) := by simp [setLine, h]

@[simp] theorem sound_pulseLine (h : Sound s0 s) (n : Node) (o : Output) (x : PulseSource) (k : Nat) :
    Sound s0 (pulseLine n o x k s) := by simp [pulseLine, h]

@[simp] theorem sound_releaseLine (h : Sound s0 s) (n : Node) (o : Output) : Sound s0 (releaseLine n o s) := by simp [releaseLine, h]

theorem sound_settle (h : Sound s0 s) (n : Node) (x : Option Word32) (b : LineUnit → Bool) :
    Sound s0 (s.updLines n fun u => { u with settleStart := x, cutFault := b u }) := sound_updLines h n _ fun _ => ⟨rfl, rfl⟩

@[simp] theorem sound_cutSettleExpires (h : Sound s0 s) (n : Node) : Sound s0 (cutSettleExpires n s) := by
  unfold cutSettleExpires
  dsimp only
  split
  · exact sound_latch (sound_settle h n none fun _ => true) _ _ nofun
  · exact sound_settle h n none fun u => u.cutFault

/-! ## The executor -/

@[simp] theorem sound_enterState (h : Sound s0 s) (n : Node) (x : ExecState) : Sound s0 (enterState n x s) := by simp [enterState, h]

@[simp] theorem sound_touch (h : Sound s0 s) (n : Node) (o : Output) : Sound s0 (touch n o s) := by simp [touch, h]

@[simp] theorem sound_releaseTouched (h : Sound s0 s) (n : Node) (v : Vector Bool 4) : Sound s0 (releaseTouched n v s) :=
  sound_foldl _ (fun t o ht => by split <;> simp [ht]) _ h

/-- A node that leaves the waiting list (R116). -/
@[simp] theorem sound_leaveWaiting (h : Sound s0 s) (n : Node) :
    Sound s0 (s.updArbiter fun a => { a with waiting := a.waiting.filter fun w => decide (w.node ≠ n) }) :=
  sound_updArbiter h _ fun ⟨hlow, hhigh, hholds, hfull⟩ => ⟨hlow, hhigh, hholds, fun hne => hfull fun e => hne (by
    dsimp only
    rw [e]
    rfl)⟩

@[simp] theorem sound_endExec (h : Sound s0 s) (n : Node) (r : PlanResult) (k : Nat) : Sound s0 (endExec n r k s) := by
  unfold endExec
  dsimp only
  split
  · exact h
  · have hleft := sound_leaveWaiting h n
    refine sound_updExec (sound_latch (sound_appendMarker ?_ n 4 _) (.node n .planEnd) _ nofun) n _ fun _ r hr => by cases hr
    split
    · exact hleft
    · exact sound_releaseTouched hleft n _

@[simp] theorem sound_sendStep (h : Sound s0 s) (n : Node) (x : List TxItem) : Sound s0 (sendStep n x s).2 := by
  unfold sendStep
  split
  · exact h
  · rename_i hsend
    split
    · exact sound_appendItems h (by by_contra hview; exact hsend (.inl hview)) ‹_›
    · simp [h]

/-- A slot is held by one more node, or one more node waits while all are held (R116). -/
@[simp] theorem sound_takeSlotStep (h : Sound s0 s) (n : Node) (k : Nat) : Sound s0 (takeSlotStep n k s).2 := by
  unfold takeSlotStep
  split
  · rename_i hroom
    dsimp only
    refine sound_updArbiter h _ ?_
    intro ⟨hlow, hhigh, hholds, hfull⟩
    refine ⟨hlow, hhigh, ?_, fun hne => absurd (hfull hne) hroom.ne⟩
    rw [List.length_append]
    exact hroom
  · rename_i hall
    have hwaits : Sound s0 (s.updArbiter fun a => { a with waiting := a.waiting ++ [{ node := n, hold := k }] }) :=
      sound_updArbiter h _ fun ⟨hlow, hhigh, hholds, _⟩ => ⟨hlow, hhigh, hholds, fun _ => by dsimp only; omega⟩
    exact sound_enterState hwaits n _

@[simp] theorem sound_mediaStep (h : Sound s0 s) (n : Node) (l : Lun) (b : Bool) : Sound s0 (mediaStep n l b s).2 := by
  unfold mediaStep
  repeat' split
  all_goals simp [h]

@[simp] theorem sound_doStep (h : Sound s0 s) (n : Node) (k : StepKind) : Sound s0 (doStep n k s).2 := by
  cases k <;> unfold doStep <;> dsimp only <;> repeat' split
  all_goals simp (maxDischargeDepth := 10) [h]

/-- No execution begins a step beyond the sixty-fourth (R98). -/
@[simp] theorem sound_runFrom (k : Nat) (n : Node) (j : Nat) (h : Sound s0 s) : Sound s0 (runFrom k n j s) := by
  induction k generalizing j s with
  | zero => exact h
  | succ k ih =>
    unfold runFrom
    split
    · exact h
    · rename_i r hr
      split
      · simp [h]
      · rename_i hbudget
        split
        · simp [h]
        · rename_i st _
          dsimp only
          have hbegun : Sound s0 (s.updRun n fun r =>
              { r with state := .runningStep, step := j, stepStart := s.timebase, started := r.started + 1 }) := by
            refine sound_updExec h n _ fun _ q hq => ?_
            rw [hr] at hq
            obtain rfl := Option.some.inj hq
            rw [Config.stepBudget] at hbudget
            dsimp only
            omega
          have hdone := sound_doStep hbegun n st.kind
          split
          · rename_i e; rw [e] at hdone; exact hdone
          · rename_i e
            rw [e] at hdone
            split
            · exact ih _ hdone
            · exact sound_endExec hdone n _ _
          · rename_i e
            rw [e] at hdone
            split
            · exact sound_endExec hdone n _ _
            · exact ih _ hdone

@[simp] theorem sound_completeStep (h : Sound s0 s) (n : Node) : Sound s0 (completeStep n s) := by
  unfold completeStep
  repeat' split
  all_goals simp [h]

@[simp] theorem sound_failStep (h : Sound s0 s) (n : Node) : Sound s0 (failStep n s) := by
  unfold failStep
  dsimp only
  split
  · have hleft := sound_leaveWaiting h n
    split
    · exact sound_endExec hleft n _ _
    · exact sound_runFrom _ n _ hleft
  · exact h

@[simp] theorem sound_startExec (h : Sound s0 s) (n : Node) (p : Fin 16) (k : Nat) (o : Origin) : Sound s0 (startExec n p k o s) := by
  refine sound_runFrom _ n 0 (sound_appendMarker (sound_updExec h n _ fun _ r hr => ?_) n 3 _)
  obtain rfl := Option.some.inj hr
  exact Nat.zero_le _

theorem sound_offerStart (h : Sound s0 s) {p : Fin 16} {o : Origin} {q : Option (Fin 16)} (e : offerStart n p o s = .started t q) :
    Sound s0 t := by
  unfold offerStart at e
  split at e
  · cases e
  · split at e
    · cases e
    · split at e
      · injection e with e1 _; subst e1; simp [h]
      · split at e
        · injection e with e1 _; subst e1; simp (maxDischargeDepth := 10) [h]
        · cases e

@[simp] theorem sound_execOnView (h : Sound s0 s) (n : Node) (v : View) : Sound s0 (execOnView n v s) := by
  unfold execOnView
  dsimp only
  repeat' split
  all_goals simp [h]

theorem sound_withView (n : Node) (f : State → State) (hf : Sound s0 (f s)) : Sound s0 (withView n f s) := sound_execOnView hf n _

@[simp] theorem sound_execOnInput (h : Sound s0 s) (n : Node) (i : Input) : Sound s0 (execOnInput n i s) := by
  unfold execOnInput
  repeat' split
  all_goals simp [h]

/-! ## Inputs -/

theorem sound_cutFault (h : Sound s0 s) (n : Node) (b : Bool) : Sound s0 (s.updLines n fun u => { u with cutFault := b }) :=
  sound_updLines h n _ fun _ => ⟨rfl, rfl⟩

@[simp] theorem sound_acceptedChange (h : Sound s0 s) (n : Node) (i : Input) : Sound s0 (acceptedChange n i s) := by
  unfold acceptedChange
  dsimp only
  cases i with
  | pgood =>
    have hview : Sound s0 (withView n (recomputeView n) s) := sound_withView n _ (by simp [h])
    dsimp only
    split
    · exact sound_execOnInput hview n _
    · exact sound_execOnInput (sound_cutFault hview n false) n _
  | auxin => simp [h]

/-- PGOOD's accepted change is followed by a view that its lines give (R80, R85). -/
theorem lines_acceptedChange (n : Node) (s : State) : ((acceptedChange n .pgood s).node n).lines.Sound := by
  have hk : Sound (recomputeView n s) (acceptedChange n .pgood s) := by
    unfold acceptedChange
    dsimp only
    have hview : Sound (recomputeView n s) (withView n (recomputeView n) s) := sound_withView n _ (.refl _)
    split
    · exact sound_execOnInput hview n _
    · exact sound_execOnInput (sound_cutFault hview n false) n _
  exact (hk.columns n).lines (lines_recomputeView n s)

/-- A change of an input that leaves its logical level. -/
theorem sound_updInput (h : Sound s0 s) (n : Node) (i : Input) (f : InLine → InLine) (hf : ∀ l, (f l).active = l.active) :
    Sound s0 (s.updInput n i f) := by
  refine sound_updLines h n _ fun u => ?_
  cases i with
  | pgood =>
    refine ⟨rfl, ?_⟩
    unfold LineUnit.computed
    dsimp only
    rw [hf]
  | auxin => exact ⟨rfl, rfl⟩

/-- A change of an input whose change of level is delivered (R80). -/
theorem sound_accepts (h : Sound s0 s) (n : Node) (i : Input) (f : InLine → InLine) (g : State → State)
    (hg : Sound (s.updInput n i f) (g (s.updInput n i f))) : Sound s0 (acceptedChange n i (g (s.updInput n i f))) := by
  have hk := sound_acceptedChange hg n i
  cases i with
  | pgood => exact sound_lines h (fun u => { u with pgood := f u.pgood }) (fun _ => rfl) hk (lines_acceptedChange n _)
  | auxin => exact Sound.trans (sound_updLines h n (fun u => { u with auxin := f u.auxin }) fun _ => ⟨rfl, rfl⟩) hk

@[simp] theorem sound_acceptLevel (h : Sound s0 s) (n : Node) (i : Input) (b : Bool) : Sound s0 (acceptLevel n i b s) :=
  sound_accepts h n i _ id (.refl _)

@[simp] theorem sound_pinChanges (h : Sound s0 s) (n : Node) (i : Input) (b : Bool) : Sound s0 (pinChanges n i b s) := by
  have hpin : Sound s0 (s.updInput n i fun l => { l with pin := b }) := sound_updInput h n i _ fun _ => rfl
  unfold pinChanges
  dsimp only
  repeat' split
  · exact sound_updInput hpin n i _ fun _ => rfl
  · exact hpin
  · exact sound_acceptLevel hpin n i b
  · exact sound_updInput hpin n i _ fun _ => rfl

@[simp] theorem sound_debounceExpires (h : Sound s0 s) (n : Node) (i : Input) : Sound s0 (debounceExpires n i s) := by
  simp [debounceExpires, h]

/-! ## What the other blocks hand the executor -/

@[simp] theorem sound_pulseExpires (h : Sound s0 s) (n : Node) (o : Output) : Sound s0 (pulseExpires n o s) := by
  have hview : Sound s0 (withView n (releaseLine n o) s) := sound_withView n _ (by simp [h])
  unfold pulseExpires
  dsimp only
  repeat' split
  all_goals simp [hview]

@[simp] theorem sound_retryQueue (h : Sound s0 s) (n : Node) : Sound s0 (retryQueue n s) := by
  unfold retryQueue
  dsimp only
  split
  · exact h
  · split
    · rename_i hroom
      exact sound_completeStep (sound_appendItems h hroom.1 hroom.2.2) n
    · exact h

@[simp] theorem sound_beginItem (h : Sound s0 s) (n : Node) : Sound s0 (beginItem n s) := by
  unfold beginItem
  split <;> simp [h]

@[simp] theorem sound_flushOp (h : Sound s0 s) (n : Node) : Sound s0 (flushOp n s) := by simp [flushOp, h]

/-- The arbiter after a hold that is over has been given up (R117). -/
def Arbiter.passOn (a : Arbiter) (done : Hold → Bool) (now : Word32) : Arbiter :=
  match a.waiting with
  | [] => { a with holds := a.holds.eraseP done }
  | w :: ws => { a with holds := a.holds.eraseP done ++ [{ node := w.node, start := now, ms := w.hold }], waiting := ws }

theorem Arbiter.Sound.passOn {a : Arbiter} (ha : a.Sound) {done : Hold → Bool} (hover : a.holds.any done = true) (now : Word32) :
    (a.passOn done now).Sound := by
  obtain ⟨hlow, hhigh, hholds, hfull⟩ := ha
  obtain ⟨x, hx, hxover⟩ := List.any_eq_true.1 hover
  have hlength := List.length_eraseP_of_mem hx hxover
  have hpos := List.length_pos_of_mem hx
  unfold Arbiter.passOn
  split
  · rename_i hnone
    exact ⟨hlow, hhigh, by dsimp only; omega, fun hne => absurd hnone hne⟩
  · rename_i w ws hcons
    have hall := hfull (by rw [hcons]; simp)
    have hnew : (a.holds.eraseP done ++ [(⟨w.node, now, w.hold⟩ : Hold)]).length = a.holds.length := by
      rw [List.length_append, List.length_singleton]
      omega
    exact ⟨hlow, hhigh, hnew.le.trans hholds, fun _ => hnew.trans hall⟩

/-- The slot of a hold that is over passes on or becomes free (R117). -/
theorem holdExpires_eq (n : Node) (s : State) : holdExpires n s =
    match s.arbiter.waiting with
    | [] => s.updArbiter fun a => a.passOn (fun x : Hold => Hold.over x s n) s.timebase
    | w :: _ => completeStep w.node (s.updArbiter fun a => a.passOn (fun x : Hold => Hold.over x s n) s.timebase) := by
  unfold holdExpires Arbiter.passOn
  dsimp only [State.updArbiter]
  cases s.arbiter.waiting <;> rfl

theorem sound_holdExpires (h : Sound s0 s) (hover : s.arbiter.holds.any (fun x : Hold => Hold.over x s n) = true) : Sound s0 (holdExpires n s) := by
  have hpassed := sound_updArbiter h (fun a => a.passOn (fun x : Hold => Hold.over x s n) s.timebase) fun ha => ha.passOn hover _
  rw [holdExpires_eq]
  split
  · exact hpassed
  · exact sound_completeStep hpassed _

end Sys2Proof.Machine

/-! # Matching, receiving, requests and answers keep the invariants -/

namespace Sys2Proof.Machine

open Sys2Proof

variable {s0 s t : State} {n : Node}

/-! ## Matching -/

@[simp] theorem sound_updPattern (h : Sound s0 s) (n : Node) (i : Fin 8) (f : Pattern → Pattern) : Sound s0 (s.updPattern n i f) :=
  sound_matching h n _ fun _ => ⟨rfl, rfl, rfl, rfl, rfl, rfl, rfl, rfl⟩

@[simp] theorem sound_offerPlan (h : Sound s0 s) (n : Node) (i : Fin 8) (p : Fin 16) : Sound s0 (offerPlan n i p s).2 := by
  unfold offerPlan
  split
  · exact sound_offerStart h ‹_›
  · simp [h]

@[simp] theorem sound_hitAction (h : Sound s0 s) (n : Node) (i : Fin 8) (a : PatAction) : Sound s0 (hitAction n i a s).2 := by
  cases a <;> simp [hitAction, h]

@[simp] theorem sound_armedHit (h : Sound s0 s) (n : Node) (i : Fin 8) : Sound s0 (armedHit n i s).2 := by
  unfold armedHit
  dsimp only
  repeat' split
  all_goals simp (maxDischargeDepth := 10) [h]

theorem sound_handleHit {x : Bool × State} (h : Sound s0 x.2) (n : Node) (y : Hit) : Sound s0 (handleHit n x y).2 := by
  unfold handleHit
  dsimp only
  repeat' split
  all_goals simp (maxDischargeDepth := 10) [h]

@[simp] theorem sound_testWindow (h : Sound s0 s) (n : Node) : Sound s0 (testWindow n s) := by
  have hfold (l : List Hit) (x : Bool × State) (hx : Sound s0 x.2) : Sound s0 (l.foldl (handleHit n) x).2 := by
    induction l generalizing x with
    | nil => exact hx
    | cons y l ih => exact ih _ (sound_handleHit hx n y)
  exact hfold _ _ h

@[simp] theorem sound_windowByte (h : Sound s0 s) (n : Node) (b : Byte) : Sound s0 (windowByte n b s) := by
  refine sound_testWindow (sound_matching h n _ ?_) n
  exact fun _ => ⟨rfl, rfl, rfl, rfl, rfl, rfl, rfl, rfl⟩

/-! ## Receiving -/

theorem place_length (o : Option OpenRec) (b : Byte) (f p : Bool) (now : Word32) :
    (OpenRec.place o b f p now).payload.length = (o.map fun o => o.payload.length).getD 0 + 1 := by
  cases o <;> simp [OpenRec.place]

/-- A record that a byte is added to is at most as long as the record maximum (R44). -/
theorem place_length_le {r : Receiver} (hr : r.Sound) (b : Byte) (f p : Bool) (now : Word32) :
    (OpenRec.place r.opened b f p now).payload.length ≤ r.settings.recMax := by
  rw [place_length]
  have hlow := hr.low
  cases ho : r.opened with
  | none => dsimp only [Option.map, Option.getD]; omega
  | some o => exact hr.opened o ho

/-- A byte that closes the open record leaves none that is too long (R44). -/
theorem length_lt_of_closeFlags {c : Settings} {o : OpenRec} {b : Byte} (h : closeFlags c o b = none) : o.payload.length < c.recMax := by
  unfold closeFlags at h
  dsimp only at h
  split at h
  · cases h
  · rename_i hopen
    simp only [Bool.or_eq_true, decide_eq_true_eq, not_or, Nat.not_le] at hopen
    exact hopen.2

/-- Whatever a change of the receiver does to the open record, that it closes puts right, if it is not too long (R44). -/
theorem sound_closeOpen_of (h : Sound s0 s) {f : Receiver → Receiver} {u : State} (hu : Beside (s.updRx n f) u) (c : RecFlags)
    (hset : (s0.node n).Captures → 16 ≤ (f (s.node n).rx).settings.recMax ∧ (f (s.node n).rx).settings.recMax ≤ 240)
    (hlen : (s0.node n).Captures → ∀ o, (f (s.node n).rx).opened = some o → o.payload.length ≤ 240) : Sound s0 (closeOpen n c u) := by
  have hrx : (u.node n).rx = f (s.node n).rx := by rw [hu.node n, updRx_node_self]
  have hwithout : Sound s0 (s.updRx n fun r => { f r with opened := none }) :=
    sound_capture h n (fun d => { d with rx := { f d.rx with opened := none } })
      (fun h0 hc => ⟨hc.hist, ⟨(hset h0).1, (hset h0).2, fun q hq => by cases hq⟩⟩) fun _ => ⟨rfl, rfl, rfl, rfl, rfl, rfl⟩
  have hbeside := hu.updNode n (fun d => { d with rx := { d.rx with opened := none } }) fun _ => rfl
  have htwice : (s.updRx n f).updNode n (fun d => { d with rx := { d.rx with opened := none } }) =
      s.updRx n fun r => { f r with opened := none } := by
    simp [State.updRx, State.updNode]
  rw [htwice] at hbeside
  cases ho : (u.node n).rx.opened with
  | none =>
    rw [closeOpen_none ho]
    have hsame : u.updNode n (fun d => { d with rx := { d.rx with opened := none } }) = u := by
      rw [← ho]
      exact updHist_id u n
    rw [hsame] at hbeside
    exact hbeside.sound hwithout
  | some o =>
    rw [closeOpen_some ho]
    exact sound_appendRec (hbeside.sound hwithout) n _ _ fun h0 => text_size_le _ _ _ _ (hlen h0 o (hrx ▸ ho))

/-- The record that a byte is placed in, which stays open or closes (R41, R44). -/
theorem sound_place (h : Sound s0 s) (n : Node) (b : Byte) (f p : Bool) {u : State}
    (hu : Beside (s.updRx n fun r => { r with opened := some (OpenRec.place (s.node n).rx.opened b f p s.timebase) }) u) :
    Sound s0 (match closeFlags (s.node n).rx.settings (OpenRec.place (s.node n).rx.opened b f p s.timebase) b with
      | none => u
      | some c => closeOpen n c u) := by
  have hrx (h0 : (s0.node n).Captures) := ((h.columns n).captures h0).rx
  have hlen (h0 : (s0.node n).Captures) := place_length_le (hrx h0) b f p s.timebase
  generalize OpenRec.place (s.node n).rx.opened b f p s.timebase = o at *
  split
  · rename_i hopen
    refine hu.sound (sound_updRx h n _ fun hr => ⟨hr.low, hr.high, fun q hq => ?_⟩)
    obtain rfl := Option.some.inj hq
    exact length_lt_of_closeFlags hopen
  · refine sound_closeOpen_of h hu _ (fun h0 => ⟨(hrx h0).low, (hrx h0).high⟩) fun h0 q hq => ?_
    obtain rfl := Option.some.inj hq
    exact (hlen h0).trans (hrx h0).high

@[simp] theorem sound_deliverByte (h : Sound s0 s) (n : Node) (b : Byte) (f p : Bool) : Sound s0 (deliverByte n b f p s) := by
  unfold deliverByte
  refine sound_windowByte (sound_place h n b f p ?_) n b
  split
  · exact beside_latch (.refl _) _ _ nofun
  · exact .refl _

@[simp] theorem sound_breakStarts (h : Sound s0 s) (n : Node) : Sound s0 (breakStarts n s) := by
  have hbreak : Sound s0 (s.updRx n fun r => { r with inBreak := true }) := sound_updRx h n _ fun hr => ⟨hr.low, hr.high, hr.opened⟩
  unfold breakStarts
  refine sound_matching (sound_latch (sound_closeOpen hbreak n _) (.node n .conBreakIn) _ nofun) n _ ?_
  exact fun _ => ⟨rfl, rfl, rfl, rfl, rfl, rfl, rfl, rfl⟩

@[simp] theorem sound_breakEnd (h : Sound s0 s) (n : Node) : Sound s0 (s.updRx n fun r => { r with inBreak := false }) :=
  sound_updRx h n _ fun hr => ⟨hr.low, hr.high, hr.opened⟩

@[simp] theorem sound_receiveChar (h : Sound s0 s) (n : Node) (b : Byte) (f p : Bool) : Sound s0 (receiveChar n b f p s) := by
  unfold receiveChar
  dsimp only
  repeat' split
  all_goals simp [h]

@[simp] theorem sound_idleGapExpires (h : Sound s0 s) (n : Node) : Sound s0 (idleGapExpires n s) := by simp [idleGapExpires, h]

/-- Other settings come into force: the record maximum is in range, and a record that it makes too long closes (R39). -/
theorem sound_setConsole (h : Sound s0 s) (n : Node) {c : Settings} (hlow : 16 ≤ c.recMax) (hhigh : c.recMax ≤ 240) :
    Sound s0 (setConsole n c s) := by
  have hcloses {u : State} (hu : Beside (s.updRx n fun r => { r with settings := c }) u) (f : RecFlags) : Sound s0 (closeOpen n f u) := by
    refine sound_closeOpen_of h hu f (fun _ => ⟨hlow, hhigh⟩) fun h0 o ho => ?_
    have hrx := ((h.columns n).captures h0).rx
    exact (hrx.opened o ho).le.trans hrx.high
  have hstays {u : State} (hu : Beside (s.updRx n fun r => { r with settings := c }) u)
      (ho : ∀ o, (u.node n).rx.opened = some o → o.payload.length < c.recMax) : Sound s0 u := by
    refine hu.sound (sound_updRx h n _ fun _ => ⟨hlow, hhigh, fun o hq => ho o ?_⟩)
    rw [hu.node n, updRx_node_self]
    exact hq
  unfold setConsole
  dsimp only
  have hset : Beside (s.updRx n fun r => { r with settings := c }) (if c.idleGap ≠ (s.node n).rx.settings.idleGap then
      (s.updRx n fun r => { r with settings := c }).clearDue (.idleGap n) else s.updRx n fun r => { r with settings := c }) := by
    split
    · exact ⟨rfl, rfl, fun ⟨hframes, hforwards, hwrites⟩ => ⟨hframes, hforwards, hwrites⟩, rfl⟩
    · exact .refl _
  generalize (if c.idleGap ≠ (s.node n).rx.settings.idleGap then (s.updRx n fun r => { r with settings := c }).clearDue (.idleGap n)
    else s.updRx n fun r => { r with settings := c }) = u at *
  by_cases hnew : c.rate ≠ (s.node n).rx.settings.rate ∨ c.parity ≠ (s.node n).rx.settings.parity
  · rw [if_pos hnew]
    have hmarked : Sound s0 (appendMarker n 7 (c.rate + 256 * c.parity.num) u) := by
      unfold appendMarker
      exact sound_appendRec_marker (hcloses hset _) n _ _ _
    split
    · exact hmarked
    · split
      · exact sound_closeOpen hmarked n _
      · exact hmarked
  · rw [if_neg hnew]
    split
    · rename_i hnone
      exact hstays hset fun o ho => by rw [hnone] at ho; cases ho
    · rename_i o hopen
      split
      · exact hcloses hset _
      · rename_i hshort
        refine hstays hset fun q hq => ?_
        rw [hopen] at hq
        obtain rfl := Option.some.inj hq
        omega

/-! ## Answers -/

@[simp] theorem sound_fetchDataAnswer (h : Sound s0 s) (p : List Byte) : Sound s0 (fetchDataAnswer p s) := by
  unfold fetchDataAnswer
  dsimp only
  repeat' split
  all_goals simp [h]

@[simp] theorem sound_fetchFailAnswer (h : Sound s0 s) (p : List Byte) : Sound s0 (fetchFailAnswer p s) := by
  unfold fetchFailAnswer
  repeat' split
  all_goals simp [h]

@[simp] theorem sound_fetchExpires (h : Sound s0 s) (i : Fin 16) : Sound s0 (fetchExpires i s) := by simp [fetchExpires, h]

@[simp] theorem sound_slotWaitExpires (h : Sound s0 s) (n : Node) : Sound s0 (slotWaitExpires n s) := by
  simp (maxDischargeDepth := 10) [slotWaitExpires, h]

@[simp] theorem sound_allocationExpires (h : Sound s0 s) (n : Node) : Sound s0 (allocationExpires n s) := by
  simp (maxDischargeDepth := 10) [allocationExpires, h]

@[simp] theorem sound_entryFails (h : Sound s0 s) (i : Fin 32) (w : WriteUse) (c : MediaCause) : Sound s0 (entryFails i w c s) := by
  unfold entryFails
  dsimp only
  split <;> simp (maxDischargeDepth := 10) [h]

@[simp] theorem sound_entryPasses (h : Sound s0 s) (i : Fin 32) (w : WriteUse) : Sound s0 (entryPasses i w s) := by
  unfold entryPasses
  split <;> simp [h]

@[simp] theorem sound_writeDoneAnswer (h : Sound s0 s) (p : List Byte) : Sound s0 (writeDoneAnswer p s) := by
  unfold writeDoneAnswer
  repeat' split
  all_goals simp [h]

@[simp] theorem sound_entryExpires (h : Sound s0 s) (i : Fin 32) : Sound s0 (entryExpires i s) := by
  unfold entryExpires
  split <;> simp [h]

theorem sound_fwdResultAnswer (h : Sound s0 s) {p : List Byte} (hp : p.length ≤ 518) : Sound s0 (fwdResultAnswer p s) := by
  unfold fwdResultAnswer
  dsimp only
  split
  · simp [h]
  · split
    · refine sound_endForward h _ _ ?_
      rw [List.length_drop]
      omega
    · simp [h]

@[simp] theorem sound_forwardExpires (h : Sound s0 s) (n : Node) : Sound s0 (forwardExpires n s) := by
  simp (maxDischargeDepth := 10) [forwardExpires, h]

theorem sound_runAnswer (h : Sound s0 s) {k : Nat} {p : List Byte} (hk : answerLengthOk k p = true) : Sound s0 (runAnswer k p s) := by
  unfold runAnswer
  split
  · simp [h]
  · simp [h]
  · simp [h]
  · rename_i h60 h61 h62
    refine sound_fwdResultAnswer h ?_
    unfold answerLengthOk at hk
    split at hk
    · exact absurd rfl h60
    · exact absurd rfl h61
    · exact absurd rfl h62
    · simp at hk
      exact hk.2

@[simp] theorem sound_offersInOrder (h : Sound s0 s) : Sound s0 (offersInOrder s) := by simp (maxDischargeDepth := 10) [offersInOrder, h]

end Sys2Proof.Machine

/-! # Requests keep the invariants and answer within a frame -/

namespace Sys2Proof.Machine

open Sys2Proof

variable {s0 s t : State} {n : Node}

/-! ## Rings that change their settings -/

/-- A ring whose settings become others: it gains the spare pages its reserve asks for and gives up those beyond its maximum
(R27, R28). -/
def History.resized (reserve maximum : Nat) (h : History) : History :=
  let g : History := { h with spare := h.spare + (reserve - h.holding), reserve := reserve, maximum := maximum }
  History.giveUp^[g.holding - maximum] g

theorem iterate_giveUp_chain {h : History} (k : Nat) (hc : Chain h.oldest h.next h.cursor h.records)
    (hp : ∀ p ∈ h.filled ++ [h.current], pageUsed p ≤ 512) (hk : k < h.holding) :
    Chain (History.giveUp^[k] h).oldest (History.giveUp^[k] h).next (History.giveUp^[k] h).cursor (History.giveUp^[k] h).records ∧
      (∀ p ∈ (History.giveUp^[k] h).filled ++ [(History.giveUp^[k] h).current], pageUsed p ≤ 512) ∧
      (History.giveUp^[k] h).reserve = h.reserve ∧ (History.giveUp^[k] h).maximum = h.maximum ∧
      (History.giveUp^[k] h).holding + k = h.holding := by
  induction k generalizing h with
  | zero => exact ⟨hc, hp, rfl, rfl, rfl⟩
  | succ k ih =>
    obtain ⟨hchain, hpages, hreserve, hmaximum⟩ := giveUp_chain hc hp
    have hholding := holding_giveUp (h := h) (by omega)
    obtain ⟨hchain', hpages', hreserve', hmaximum', hholding'⟩ := ih hchain hpages (by omega)
    exact ⟨hchain', hpages', hreserve'.trans hreserve, hmaximum'.trans hmaximum, by rw [Function.iterate_succ_apply]; omega⟩

theorem History.Sound.resized {h : History} (hs : h.Sound) {reserve maximum : Nat} (h4 : 4 ≤ reserve) (h64 : reserve ≤ 64)
    (hle : reserve ≤ maximum) (h256 : maximum ≤ 256) : (h.resized reserve maximum).Sound := by
  have hholding : ({ h with spare := h.spare + (reserve - h.holding), reserve := reserve, maximum := maximum } : History).holding =
      h.holding + (reserve - h.holding) := by
    simp only [History.holding]
    omega
  obtain ⟨hchain, hpages, hreserve, hmaximum, hlost⟩ := iterate_giveUp_chain
    (h := { h with spare := h.spare + (reserve - h.holding), reserve := reserve, maximum := maximum })
    (h.holding + (reserve - h.holding) - maximum) hs.chain hs.pages (by omega)
  unfold History.resized
  dsimp only at hreserve hmaximum ⊢
  rw [hholding] at hlost ⊢
  exact ⟨by omega, by omega, by omega, by omega, by omega, hchain, hpages⟩

theorem beside_updCache (h : Beside s t) (f : Cache → Cache) (hf : ∀ c, (f c).writes = c.writes) : Beside s (t.updCache f) :=
  ⟨h.nodes, h.arbiter, fun hb => let ⟨hframes, hforwards, hwrites⟩ := h.bounded hb; ⟨hframes, hforwards, (hf t.cache) ▸ hwrites⟩, h.resumed⟩

theorem beside_evictLine (h : Beside s t) {u : State} (e : evictLine t = some u) : Beside s u := by
  unfold evictLine at e
  split at e
  · cases e
    exact beside_updCache h _ fun _ => rfl
  · cases e

theorem Beside.trans {u : State} (h : Beside s t) (k : Beside t u) : Beside s u :=
  ⟨k.nodes.trans h.nodes, k.arbiter.trans h.arbiter, k.bounded ∘ h.bounded, k.resumed.trans h.resumed⟩

/-- One spare page and `k` more. -/
theorem beside_spare {u v : State} {n : Node} {k : Nat} (hu : Beside s u)
    (hv : Beside ((u.updHist n fun h => { h with spare := h.spare + 1 }).updHist n fun h => { h with spare := h.spare + k }) v) :
    Beside (s.updHist n fun h => { h with spare := h.spare + (k + 1) }) v := by
  refine (hu.updHist n fun h => { h with spare := h.spare + (k + 1) }).trans ?_
  rw [updHist_updHist] at hv
  simpa only [Nat.add_assoc, Nat.add_comm 1 k] using hv

/-- The pages a ring gains are spare ones, as many as it asks for where the supply covers them (R27). -/
theorem beside_gainPages (n : Node) {k : Nat} (hk : k ≤ s.supply) :
    Beside (s.updHist n fun h => { h with spare := h.spare + k }) (gainPages n k s) := by
  induction k generalizing s with
  | zero => exact (updHist_id s n).symm ▸ Beside.refl s
  | succ k ih =>
    unfold gainPages
    split
    · refine beside_spare (beside_updPool (.refl s) _) (ih ?_)
      simp only [State.supply, updHist_pool, updHist_cache, updPool_pool, updPool_cache] at hk ⊢
      omega
    · split
      · rename_i hfree hnone
        have hall := evictLine_eq_none.1 hnone
        have hfilter : s.cache.lines.filter Line.evictable = [] := List.filter_eq_nil_iff.2 fun l hl => by simp [hall l hl]
        simp only [State.supply, hfilter, List.length_nil] at hk
        omega
      · rename_i t ht
        have hsupply := supply_evictLine ht
        refine beside_spare (beside_updPool (beside_evictLine (.refl s) ht) _) (ih ?_)
        simp only [State.supply, updHist_pool, updHist_cache, updPool_pool, updPool_cache, Config.linePages] at hsupply hk ⊢
        omega

theorem beside_losePages (n : Node) (k : Nat) (s : State) : Beside (s.updHist n History.giveUp^[k]) (losePages n k s) := by
  induction k generalizing s with
  | zero => exact (updHist_id s n).symm ▸ Beside.refl s
  | succ k ih =>
    have hone := (beside_updPool (beside_giveUpPage n s) fun p => { p with free := p.free + 1 }).updHist n History.giveUp^[k]
    rw [updHist_updHist] at hone
    exact hone.trans (ih _)

/-- The settings come into force where the supply covers what the reserve asks for (R26 to R28). -/
theorem sound_setRing (h : Sound s0 s) (n : Node) {reserve maximum : Nat} (h4 : 4 ≤ reserve) (h64 : reserve ≤ 64)
    (hle : reserve ≤ maximum) (h256 : maximum ≤ 256) (hk : reserve - (s.node n).hist.holding ≤ s.supply) :
    Sound s0 (setRing n reserve maximum s) := by
  have hgain := (beside_gainPages n hk).updHist n fun h => { h with reserve := reserve, maximum := maximum }
  have hcolumn := hgain.node n
  unfold setRing
  dsimp only
  generalize (gainPages n (reserve - (s.node n).hist.holding) s).updHist n (fun h => { h with reserve := reserve, maximum := maximum }) = g at *
  have hlose := (hgain.updHist n History.giveUp^[(g.node n).hist.holding - maximum]).trans (beside_losePages n _ g)
  rw [updHist_updHist, updHist_updHist, updHist_congr (g := History.resized reserve maximum)] at hlose
  · have hset := hlose.sound (sound_updHist h n _ fun _ hs => hs.resized h4 h64 hle h256)
    split
    · exact sound_retryWaiting hset
    · exact hset
  · rw [hcolumn, updHist_updHist, updHist_node_self]
    rfl

end Sys2Proof.Machine

/-! # Requests keep the invariants and answer within a frame -/

namespace Sys2Proof.Machine

open Sys2Proof

variable {s0 s t : State} {n : Node}

/-! ## The lengths of fields -/

@[simp] theorem length_byte1 (v : Nat) : (byte1 v).length = 1 := rfl
@[simp] theorem length_flag1 (b : Bool) : (flag1 b).length = 1 := rfl
@[simp] theorem length_orFF (v : Option Nat) : (orFF v).length = 1 := rfl
@[simp] theorem length_left2 (v : Option Nat) : (left2 v).length = 2 := le_length ..
@[simp] theorem length_left4 (v : Option Nat) : (left4 v).length = 4 := le_length ..

theorem length_padded (k : Nat) (bs : List Byte) : (padded k bs).length = k := by simp [padded]

/-- Fields of one length, one after another. -/
theorem length_flatten_map {α : Type} (l : List α) (f : α → List Byte) (k : Nat) (hf : ∀ a, (f a).length = k) :
    (l.map f).flatten.length = l.length * k := by
  induction l with
  | nil => simp
  | cons a l ih => rw [List.map_cons, List.flatten_cons, List.length_append, ih, hf, List.length_cons, Nat.succ_mul, Nat.add_comm]

theorem length_imageFields (i : Option Image) : (imageFields i).length = 13 := by cases i <;> simp [imageFields]

theorem length_senseFields (x : Option Sense) : (senseFields x).length = 3 := by cases x <;> rfl

theorem length_outputFields (s : State) (n : Node) (o : Output) : (outputFields s n o).length = 6 := by simp [outputFields]

theorem length_inputFields (l : InLine) : (inputFields l).length = 5 := by simp [inputFields]

theorem length_runFields (s : State) (n : Node) : (runFields s n).length = 16 := by
  unfold runFields
  split <;> simp

theorem length_arbiterFields (s : State) : (arbiterFields s).length = 35 := by simp [arbiterFields, length_padded]

theorem length_slotFields (s : State) (i : Fin 16) : (slotFields s i).length = 10 := by
  unfold slotFields
  dsimp only
  split <;> simp

theorem length_entryFields (s : State) (e : WriteEntry) : (entryFields s e).length = 10 := by
  unfold entryFields
  split <;> simp

theorem length_patternFields (s : State) (n : Node) (i : Fin 8) : (patternFields s n i).length = 8 := by
  unfold patternFields
  split <;> simp

theorem length_planStartFields (s : State) (n : Node) (p : Fin 16) (q : Option (Fin 16)) : (planStartFields s n p q).length = 14 := by
  simp [planStartFields, length_endingFields]

theorem length_takeEntry (r : EventRec) (id : Nat) : (takeEntry r id).length = 9 := by simp [takeEntry]

/-- Each pending source is taken at its own level alone (R195). -/
theorem length_entries_le (e : EventTable) (mask : Nat) : (e.entries mask).length ≤ 52 := by
  have hlevels (l : List (EventRec × Nat)) : (([3, 2, 1, 0].map fun level =>
      l.filter fun x => mask.testBit x.2 && decide (0 < x.1.count) && x.1.level == level).flatten).length ≤ l.length := by
    induction l with
    | nil => simp
    | cons x l ih =>
      simp only [List.map_cons, List.map_nil, List.flatten_cons, List.flatten_nil, List.length_append, List.length_nil,
        List.filter_cons, List.length_cons] at ih ⊢
      by_cases hsel : (mask.testBit x.2 && decide (0 < x.1.count)) = true
      · simp only [hsel, Bool.true_and, beq_iff_eq]
        repeat' split
        all_goals (try simp only [List.length_cons]); omega
      · simp only [Bool.not_eq_true] at hsel
        simp only [hsel, Bool.false_and, Bool.false_eq_true, if_false]
        omega
  have hnumbered : e.numbered.length = 52 := by simp [EventTable.numbered]
  exact hnumbered ▸ hlevels e.numbered

/-! ## What requests come to -/

/-- A request that keeps the invariants and whose reply fits a frame (R2). -/
structure Answers (s0 : State) (x : State × Option Reply) : Prop where
  sound : Sound s0 x.1
  fits : ∀ r, x.2 = some r → r.fields.length ≤ 598

@[simp] theorem answers_refused (h : Sound s0 s) (st : Status) : Answers s0 (refused st s) :=
  ⟨h, fun r hr => by obtain rfl := Option.some.inj hr; exact Nat.zero_le _⟩

theorem answers_accepted (h : Sound s0 s) (b : Bool) {fs : List Byte} (hf : fs.length ≤ 598) : Answers s0 (accepted b fs s) :=
  ⟨h, fun r hr => by obtain rfl := Option.some.inj hr; exact hf⟩

/-! ## Link, pool and events -/

theorem answers_nop (h : Sound s0 s) : Answers s0 (nopRequest s) := answers_accepted h _ (by simp)

theorem answers_partInfo (h : Sound s0 s) : Answers s0 (partInfoRequest s) := answers_accepted h _ (by simp [LinkErrors.fields])

theorem answers_linkConfig (h : Sound s0 s) (p : List Byte) : Answers s0 (linkConfigRequest p s) := by
  unfold linkConfigRequest
  refine answers_accepted (sound_updLink h _ ?_) _ (by simp)
  exact fun _ => rfl

theorem answers_partReset (h : Sound s0 s) (tag : Byte) : Answers s0 (partResetRequest tag s) := by
  unfold partResetRequest
  split
  · exact answers_refused h _
  · refine ⟨?_, fun r hr => by cases hr⟩
    simp [h]

theorem answers_poolConfig (h : Sound s0 s) (p : List Byte) : Answers s0 (poolConfigRequest p s) := by
  unfold poolConfigRequest
  split
  · exact answers_refused h _
  · rename_i n _
    dsimp only
    split
    · exact answers_refused h _
    · split
      · exact answers_refused h _
      · rename_i hsupply
        have h64 := clamp_le 4 64 (u16 p 1) (by decide)
        have h4 := le_clamp (lo := 4) (hi := 64) (by decide) (u16 p 1)
        refine answers_accepted (sound_setRing h n h4 h64 (le_clamp (by omega) _) (clamp_le _ 256 _ (by omega)) (by omega)) _ ?_
        simp

theorem answers_poolState (h : Sound s0 s) : Answers s0 (poolStateRequest s) := by
  refine answers_accepted h _ ?_
  simp only [List.length_append, le_length, length_byte1]
  rw [length_flatten_map _ _ 8 fun n => by simp]
  simp [allNodes]

theorem answers_eventConfig (h : Sound s0 s) (p : List Byte) : Answers s0 (eventConfigRequest p s) := by
  unfold eventConfigRequest
  dsimp only
  split
  · exact answers_refused h _
  · refine answers_accepted (sound_events h _ ?_) _ (by simp)
    simp only [State.resumed, EventTable.setLevels, Vector.getElem_mapFinIdx]
    split <;> rfl

theorem sound_afterTake (h : Sound s0 s) : Sound s0 (afterTake s) := by
  unfold afterTake
  split
  · exact sound_offerSummary h
  · exact sound_events h _ rfl

/-- EVENT_TAKE clears source records, LINK_RESUMED with them, and nothing else that counts here (R195). -/
theorem safe_eventTake (p : List Byte) (s : State) : Safe s (eventTakeRequest p s).1 := by
  unfold eventTakeRequest
  dsimp only
  split
  · exact .refl s
  · exact (safe_events s _).trans (sound_afterTake (.refl _)).safe

theorem fits_eventTake {p : List Byte} {r : Reply} (hr : (eventTakeRequest p s).2 = some r) : r.fields.length ≤ 598 := by
  unfold eventTakeRequest at hr
  dsimp only at hr
  split at hr
  · obtain rfl := Option.some.inj hr
    exact Nat.zero_le _
  · obtain rfl := Option.some.inj hr
    have hentries := length_entries_le s.events (fieldAt p 0 8)
    dsimp only [Reply.okay]
    rw [List.length_append, List.length_append, length_byte1, le_length, length_flatten_map _ _ 9 fun x => length_takeEntry ..]
    omega

/-! ## Consoles -/

theorem answers_conConfig (h : Sound s0 s) (p : List Byte) : Answers s0 (conConfigRequest p s) := by
  unfold conConfigRequest
  repeat' split
  all_goals try exact answers_refused h _
  exact answers_accepted (sound_setConsole h _ (le_clamp (by decide) _) (clamp_le 16 240 _ (by decide))) _ (by simp [Settings.fields])

theorem answers_histRead (h : Sound s0 s) (p : List Byte) : Answers s0 (histReadRequest p s) := by
  unfold histReadRequest
  split
  · exact answers_refused h _
  · rename_i n _
    refine answers_accepted h _ ?_
    have hroom := clamp_le 0 512 (u16 p 5) (by decide)
    simp only [List.length_append, length_byte1, le_length, flatten_bytes_length]
    split
    · simp [pageUsed]
    · have := pageUsed_takeRecords_le (clamp 0 512 (u16 p 5)) ((s.node n).hist.from ((s.node n).hist.startAt (w32 p 1)))
      omega

/-- The place a STREAM_SET gives the cursor lies in the ring (R53). -/
theorem History.Sound.startAt {h : History} (hs : h.Sound) (q : Word32) : ({ h with streaming := true, cursor := h.startAt q } : History).Sound := by
  have hsize := hs.chain.size
  refine History.Sound.setStreaming (h := { h with cursor := h.startAt q }) (hs.setCursor ?_) true
  unfold History.startAt History.classify History.size
  split
  · rename_i hclass
    split at hclass
    · omega
    · split at hclass <;> cases hclass
  · simp
  · omega

theorem answers_streamSet (h : Sound s0 s) (p : List Byte) : Answers s0 (streamSetRequest p s) := by
  unfold streamSetRequest
  dsimp only
  split
  · exact answers_accepted (sound_streamOffer (sound_updHist h _ _ fun _ hs => hs.startAt _)) _ (by simp [streamFields])
  · exact answers_accepted (sound_updHist h _ _ fun _ hs => hs.setStreaming _) _ (by simp [streamFields])
  · exact answers_refused h _

theorem answers_injectItems (h : Sound s0 s) (n : Node) (b : Bool) (items : List TxItem) : Answers s0 (injectItems n b items s) := by
  unfold injectItems
  split
  · exact answers_refused h _
  · rename_i hview
    split
    · exact answers_refused h _
    · rename_i hroom
      exact answers_accepted (sound_appendItems h (not_not.1 hview) (Nat.not_lt.1 hroom)) _ (by simp)

theorem answers_conInject (h : Sound s0 s) (p : List Byte) : Answers s0 (conInjectRequest p s) := by
  unfold conInjectRequest
  split
  · exact answers_refused h _
  · exact answers_injectItems h ..

theorem answers_conBreak (h : Sound s0 s) (p : List Byte) : Answers s0 (conBreakRequest p s) := by
  unfold conBreakRequest
  split
  · exact answers_refused h _
  · exact answers_injectItems h ..

theorem answers_conFlush (h : Sound s0 s) (p : List Byte) : Answers s0 (conFlushRequest p s) := by
  unfold conFlushRequest
  split
  · exact answers_refused h _
  · exact answers_accepted (by simp [h]) _ (by simp)

theorem answers_textLoad (h : Sound s0 s) (p : List Byte) : Answers s0 (textLoadRequest p s) := by
  unfold textLoadRequest
  repeat' split
  · exact answers_refused h _
  · exact answers_refused h _
  · exact answers_accepted (sound_texts h _) _ (by simp)

theorem answers_patLoad (h : Sound s0 s) (p : List Byte) : Answers s0 (patLoadRequest p s) := by
  unfold patLoadRequest
  repeat' split
  all_goals try exact answers_refused h _
  refine answers_accepted (sound_matching h _ _ ?_) _ (by simp)
  exact fun _ => ⟨rfl, rfl, rfl, rfl, rfl, rfl, rfl, rfl⟩

theorem answers_patArm (h : Sound s0 s) (p : List Byte) : Answers s0 (patArmRequest p s) := by
  unfold patArmRequest
  dsimp only
  repeat' split
  all_goals try exact answers_refused h _
  all_goals exact answers_accepted (by simp [h]) _ (by simp)

theorem answers_patState (h : Sound s0 s) (p : List Byte) : Answers s0 (patStateRequest p s) := by
  unfold patStateRequest
  split
  · exact answers_refused h _
  · refine answers_accepted h _ ?_
    rw [List.length_append, length_flatten_map _ _ 8 fun i => length_patternFields ..]
    simp

/-! ## Lines and plans -/

/-- An output that is not ACTIVE takes another configuration (R81). -/
theorem answers_configOutput (h : Sound s0 s) (n : Node) (o : Output) (a b : Bool) (k : Nat) : Answers s0 (configOutput n o a b k s) := by
  have hset : Sound s0 (s.updOutput n o fun l => { l with openDrain := a, activeHigh := b }) := sound_updOutput h n o _ fun _ => rfl
  unfold configOutput
  dsimp only
  split
  · exact answers_refused h _
  · refine answers_accepted ?_ _ (by simp)
    have hsettle := sound_updLines hset n (fun u => { u with cutSettle := clamp 500 10000 k }) fun _ => ⟨rfl, rfl⟩
    repeat' split
    · exact sound_clearDue hsettle _
    · exact hsettle
    · exact hset

/-- An input takes another configuration, and a change of its logical level is delivered (R82). -/
theorem sound_setInput (h : Sound s0 s) (n : Node) (i : Input) (b : Bool) (k : Nat) : Sound s0 (setInput n i b k s) := by
  have hclear (u : State) : Sound u (if k ≠ ((s.node n).lines.input i).debounce then u.clearDue (.debounce n i) else u) := by
    split
    · exact sound_clearDue (.refl u) _
    · exact .refl u
  unfold setInput
  dsimp only
  split
  · exact sound_accepts h n i (fun l => { l with activeHigh := b, debounce := k })
      (fun u => if k ≠ ((s.node n).lines.input i).debounce then u.clearDue (.debounce n i) else u) (hclear _)
  · rename_i hsame
    rw [ne_eq, not_not] at hsame
    refine Sound.trans (sound_lines_at h n _ ?_ ?_) (hclear _)
    · cases i <;> rfl
    · cases i with
      | pgood =>
        rw [hsame]
        rfl
      | auxin => rfl

theorem answers_lineConfig (h : Sound s0 s) (p : List Byte) : Answers s0 (lineConfigRequest p s) := by
  unfold lineConfigRequest
  repeat' split
  all_goals try exact answers_refused h _
  · exact answers_configOutput h ..
  · exact answers_accepted (sound_setInput h ..) _ (by simp)

theorem answers_lineSet (h : Sound s0 s) (p : List Byte) : Answers s0 (lineSetRequest p s) := by
  unfold lineSetRequest
  repeat' split
  all_goals try exact answers_refused h _
  dsimp only
  refine answers_accepted (sound_withView _ _ ?_) _ (by simp [lineSetFields])
  split <;> simp [h]

theorem answers_nodeState (h : Sound s0 s) (p : List Byte) : Answers s0 (nodeStateRequest p s) := by
  unfold nodeStateRequest
  split
  · exact answers_refused h _
  · refine answers_accepted h _ ?_
    simp only [List.length_append, length_byte1, length_flag1, le_length, length_left2, length_orFF, length_inputFields]
    rw [length_flatten_map _ _ 6 fun o => length_outputFields ..]
    simp [allOutputs]

theorem answers_planLoad (h : Sound s0 s) (p : List Byte) : Answers s0 (planLoadRequest p s) := by
  unfold planLoadRequest
  dsimp only
  repeat' split
  all_goals try exact answers_refused h _
  exact answers_accepted (sound_plans h _) _ (by simp)

theorem answers_planStart (h : Sound s0 s) (p : List Byte) : Answers s0 (planStartRequest p s) := by
  unfold planStartRequest
  split
  · split
    · exact answers_refused h _
    · exact answers_accepted (sound_offerStart h ‹_›) _ (by simp [length_planStartFields])
  · exact answers_refused h _

@[simp] theorem sound_abortOp (h : Sound s0 s) (n : Node) : Sound s0 (abortOp n s) := by
  unfold abortOp
  split <;> simp [h]

theorem answers_planAbort (h : Sound s0 s) (p : List Byte) : Answers s0 (planAbortRequest p s) := by
  unfold planAbortRequest
  split
  · exact answers_refused h _
  · exact answers_accepted (by simp [h]) _ (by simp [length_endingFields])

theorem answers_planState (h : Sound s0 s) (p : List Byte) : Answers s0 (planStateRequest p s) := by
  unfold planStateRequest
  split
  · exact answers_refused h _
  · exact answers_accepted h _ (by simp [length_runFields, length_endingFields, length_arbiterFields])

/-- The slot count changes while no slot is held and no node waits (R118). -/
theorem answers_inrushConfig (h : Sound s0 s) (p : List Byte) : Answers s0 (inrushConfigRequest p s) := by
  unfold inrushConfigRequest
  split
  · exact answers_refused h _
  · rename_i hidle
    rw [not_or, not_not, not_not] at hidle
    obtain ⟨hholds, hwaiting⟩ := hidle
    refine answers_accepted (sound_updArbiter h _ fun _ => ⟨le_clamp (by decide) _, clamp_le 1 4 _ (by decide), ?_, fun hne =>
      absurd hwaiting hne⟩) _ (by simp)
    rw [hholds]
    exact Nat.zero_le _

/-! ## Ports, drives and the cache -/

theorem sound_setPort (h : Sound s0 s) (n : Node) (a b : Bool) (k : Nat) (c : Bool) : Sound s0 (setPort n a b k c s) := by
  unfold setPort
  dsimp only
  split
  · exact ((unplugged_updPort ..).trans (Sound.unplugged (sound_clearDue (.refl _) _))).connectTest h
  · exact (unplugged_updPort ..).connectTest h

theorem answers_portConfig (h : Sound s0 s) (p : List Byte) : Answers s0 (portConfigRequest p s) := by
  unfold portConfigRequest
  split
  · exact answers_accepted (sound_setPort h ..) _ (by simp)
  · exact answers_refused h _

theorem sound_obtainDescPage (h : Sound s0 s) (e : obtainDescPage n s = some t) : Sound s0 t := by
  unfold obtainDescPage at e
  split at e
  · cases e; exact h
  · split at e
    · cases e; simp [h]
    · obtain ⟨u, hu, rfl⟩ := Option.map_eq_some_iff.1 e
      exact sound_pagesJoin (sound_evictLine h hu) _

theorem answers_descLoad (h : Sound s0 s) (p : List Byte) : Answers s0 (descLoadRequest p s) := by
  unfold descLoadRequest
  repeat' split
  all_goals try exact answers_refused h _
  rename_i e
  exact answers_accepted ((unplugged_updPort ..).connectTest (sound_obtainDescPage h e)) _ (by simp)

theorem answers_portState (h : Sound s0 s) (p : List Byte) : Answers s0 (portStateRequest p s) := by
  unfold portStateRequest
  split
  · exact answers_refused h _
  · exact answers_accepted h _ (by simp)

theorem answers_driveInsert (h : Sound s0 s) (p : List Byte) : Answers s0 (driveInsertRequest p s) := by
  unfold driveInsertRequest
  split
  · exact answers_accepted (by simp [h]) _ (by simp)
  · exact answers_refused h _

theorem answers_driveEject (h : Sound s0 s) (p : List Byte) : Answers s0 (driveEjectRequest p s) := by
  unfold driveEjectRequest
  split
  · exact answers_accepted (by simp [h]) _ (by simp)
  · exact answers_refused h _

theorem answers_driveState (h : Sound s0 s) (p : List Byte) : Answers s0 (driveStateRequest p s) := by
  unfold driveStateRequest
  split
  · exact answers_accepted h _ (by simp [length_imageFields, length_senseFields])
  · exact answers_refused h _

theorem answers_cacheDrop (h : Sound s0 s) (p : List Byte) : Answers s0 (cacheDropRequest p s) := by
  unfold cacheDropRequest
  repeat' split
  · exact answers_refused h _
  · exact answers_accepted (by simp [h]) _ (by simp)
  · exact answers_refused h _

theorem answers_cacheConfig (h : Sound s0 s) (p : List Byte) : Answers s0 (cacheConfigRequest p s) := by
  unfold cacheConfigRequest
  split
  · exact answers_refused h _
  · exact answers_accepted (by simp [h]) _ (by simp)

theorem answers_cacheState (h : Sound s0 s) : Answers s0 (cacheStateRequest s) := by
  have hslots := length_flatten_map allSlots _ 10 (length_slotFields s)
  have hentries := length_flatten_map s.cache.writes.toList _ 10 (length_entryFields s)
  have hlast := length_flatten_map allNodes (fun n => left4 (s.drive n 0).lastRead ++ left4 (s.drive n 1).lastRead) 8 fun n => by
    rw [List.length_append, length_left4, length_left4]
  refine answers_accepted h _ ?_
  simp only [List.length_append, length_byte1, le_length, length_padded, hslots, hentries, hlast]
  simp [allSlots, allNodes]

/-- Every request but EVENT_TAKE keeps the invariants and LINK_RESUMED, and answers within a frame. -/
theorem answers_runRequest (h : Sound s0 s) {k : Nat} (hk : k ≠ 0x41) (tag : Byte) (p : List Byte) :
    Answers s0 (runRequest k tag p s) := by
  unfold runRequest
  split
  · exact answers_nop h
  · exact answers_partInfo h
  · exact answers_linkConfig h p
  · exact answers_partReset h tag
  · exact answers_poolConfig h p
  · exact answers_poolState h
  · exact answers_conConfig h p
  · exact answers_histRead h p
  · exact answers_streamSet h p
  · exact answers_conInject h p
  · exact answers_conBreak h p
  · exact answers_conFlush h p
  · exact answers_textLoad h p
  · exact answers_patLoad h p
  · exact answers_patArm h p
  · exact answers_patState h p
  · exact answers_lineConfig h p
  · exact answers_lineSet h p
  · exact answers_nodeState h p
  · exact answers_planLoad h p
  · exact answers_planStart h p
  · exact answers_planAbort h p
  · exact answers_planState h p
  · exact answers_inrushConfig h p
  · exact answers_portConfig h p
  · exact answers_descLoad h p
  · exact answers_portState h p
  · exact answers_driveInsert h p
  · exact answers_driveEject h p
  · exact answers_driveState h p
  · exact answers_cacheConfig h p
  · exact answers_cacheDrop h p
  · exact answers_cacheState h
  · exact answers_eventConfig h p
  · exact absurd rfl hk
  · exact ⟨h, fun r hr => by cases hr⟩

theorem safe_runRequest (k : Nat) (tag : Byte) (p : List Byte) (s : State) : Safe s (runRequest k tag p s).1 := by
  by_cases hk : k = 0x41
  · subst hk
    exact safe_eventTake p s
  · exact (answers_runRequest (.refl s) hk tag p).sound.safe

theorem fits_runRequest {k : Nat} {tag : Byte} {p : List Byte} {r : Reply} (hr : (runRequest k tag p s).2 = some r) :
    r.fields.length ≤ 598 := by
  by_cases hk : k = 0x41
  · subst hk
    exact fits_eventTake hr
  · exact (answers_runRequest (.refl s) hk tag p).fits r hr

end Sys2Proof.Machine

/-! # The invariants at the level of the link -/

namespace Sys2Proof.Machine

open Sys2Proof

variable {s0 s t : State} {n : Node}

/-! ## What a taken frame does -/

/-- What comes of a command that neither resets the part nor moves its time: the queue of commands, PORST and the timebase
stay, frames join the outbound queue at its end (R9), and the invariants of the blocks are kept. -/
structure Runs (s t : State) : Prop where
  pending : t.pending = s.pending
  porst : t.porst = s.porst
  timebase : t.timebase = s.timebase
  txn : t.link.txn = s.link.txn
  joins : ∃ new, t.link.queue = s.link.queue ++ new
  safe : Safe s t
  events : EventInv s → EventInv t

theorem Runs.refl (s : State) : Runs s s := ⟨rfl, rfl, rfl, rfl, ⟨[], by simp⟩, .refl s, id⟩

theorem Runs.trans {s t u : State} (h : Runs s t) (k : Runs t u) : Runs s u := by
  obtain ⟨a, ha⟩ := h.joins
  obtain ⟨b, hb⟩ := k.joins
  exact ⟨k.pending.trans h.pending, k.porst.trans h.porst, k.timebase.trans h.timebase, k.txn.trans h.txn,
    ⟨a ++ b, by rw [hb, ha, List.append_assoc]⟩, h.safe.trans k.safe, k.events ∘ h.events⟩

theorem Runs.of_notes (h : Notes s t) (k : Safe s t) : Runs s t :=
  ⟨congrArg Calm.pending h.calm, congrArg Calm.porst h.calm, congrArg Calm.timebase h.calm, congrArg (·.link.txn) h.calm,
    ⟨h.queue.choose, h.queue.choose_spec.1⟩, k, h.events⟩

/-- An operation below the link on a state that a taken frame has led to. -/
theorem Runs.below (h : Runs s0 s) (hn : Notes s t) (hs : Safe s t) : Runs s0 t := h.trans (.of_notes hn hs)

theorem runs_updLink (h : Runs s0 s) (f : Link → Link) (hf : ∀ l, (f l).queue = l.queue ∧ (f l).txn = l.txn) :
    Runs s0 (s.updLink f) :=
  h.trans ⟨rfl, rfl, rfl, (hf _).2, ⟨[], by simp [hf]⟩, (sound_updLink (.refl s) f fun l => (hf l).1).safe, id⟩

theorem runs_discardFrame (h : Runs s0 s) (c : LinkCause) : Runs s0 (discardFrame c s) :=
  h.below (notes_discardFrame (.refl s) c) (sound_discardFrame (.refl s) c).safe

theorem safe_latch (x : Source) (d : Nat) (s : State) : Safe s (latch x d s) := by
  unfold latch
  dsimp only
  split
  · exact .refl s
  · split
    · exact (safe_events s _).trans (sound_offerSummary (.refl _)).safe
    · exact safe_events s _

theorem runs_latch (h : Runs s0 s) (x : Source) (d : Nat) : Runs s0 (latch x d s) :=
  h.below (notes_latch (.refl s) x d) (safe_latch x d s)

theorem runs_offersInOrder (h : Runs s0 s) : Runs s0 (offersInOrder s) :=
  h.below (notes_offersInOrder (.refl s)) (sound_offersInOrder (.refl s)).safe

theorem runs_enqueueReply (h : Runs s0 s) (k tag : Byte) {r : Reply} (hr : r.fields.length ≤ 598) :
    Runs s0 (s.enqueueReply k tag r) := by
  refine h.trans ⟨rfl, rfl, rfl, rfl, ⟨_, rfl⟩, ⟨fun _ => .refl _, id, fun hb => ⟨fun f hf => ?_, hb.forwards, hb.writes⟩⟩, id⟩
  rcases List.mem_append.1 hf with hf | hf
  · exact hb.queue f hf
  · obtain rfl := List.mem_singleton.1 hf
    simp only [List.length_append, List.length_cons, List.length_nil]
    omega

/-- Every request but LINK_CONFIG and PART_RESET is an operation below the link. -/
theorem notes_runRequest (k : Nat) (tag : Byte) (p : List Byte) (s : State) (h3 : k ≠ 0x03) (h4 : k ≠ 0x04) :
    Notes s (runRequest k tag p s).1 := by
  unfold runRequest
  split
  case h_3 => exact absurd rfl h3
  case h_4 => exact absurd rfl h4
  all_goals simp

theorem linkConfigRequest_state (p : List Byte) (s : State) : (linkConfigRequest p s).1 =
    s.updLink fun l => { l with silenceTimeout := silenceSetting (u16 p 0), threshold := clamp 1 3 (u8 p 2) } := rfl

/-- A PART_RESET waits where no output is active, and changes nothing where one is (R20). -/
theorem partResetRequest_state (tag : Byte) (s : State) : (partResetRequest tag s).1 = s ∨
    partResetRequest tag s = (s.updLink fun l => { l with resetPending := some tag }, none) := by
  unfold partResetRequest
  split
  · exact .inl rfl
  · exact .inr rfl

theorem runs_runRequest (k : Nat) (tag : Byte) (p : List Byte) (s : State) : Runs s (runRequest k tag p s).1 := by
  by_cases h3 : k = 0x03
  · subst h3
    change Runs s (linkConfigRequest p s).1
    rw [linkConfigRequest_state]
    refine runs_updLink (.refl s) _ ?_
    exact fun _ => ⟨rfl, rfl⟩
  · by_cases h4 : k = 0x04
    · subst h4
      change Runs s (partResetRequest tag s).1
      rcases partResetRequest_state tag s with e | e
      · rw [e]; exact .refl s
      · rw [e]
        dsimp only
        refine runs_updLink (.refl s) _ ?_
        exact fun _ => ⟨rfl, rfl⟩
    · exact .of_notes (notes_runRequest k tag p s h3 h4) (safe_runRequest k tag p s)

theorem runs_replyTo (h : Runs s0 s) (k tag : Byte) (m : Nat) (p : List Byte) :
    Runs s0 (replyTo k tag (runRequest m tag p s)) := by
  have hrun := h.trans (runs_runRequest m tag p s)
  unfold replyTo
  split
  · exact hrun
  · rename_i r hr
    exact runs_enqueueReply hrun k tag (fits_runRequest hr)

theorem runs_dispose (h : Runs s0 s) (k tag : Byte) (p : List Byte) : Runs s0 (dispose k tag p s) := by
  unfold dispose
  split
  · exact runs_discardFrame h _
  · split
    · split
      · exact h.below (notes_runAnswer (.refl s) _ _) (sound_runAnswer (.refl s) ‹_›).safe
      · exact runs_discardFrame h _
    · split
      · exact runs_discardFrame h _
      · split
        · exact runs_enqueueReply h k tag (Nat.zero_le _)
        · exact runs_enqueueReply h k tag (Nat.zero_le _)
        · exact runs_replyTo h k tag _ p

theorem runs_takeFrame (h : Runs s0 s) (k tag : Byte) (p : List Byte) : Runs s0 (takeFrame k tag p s) := by
  have hheard := runs_updLink h (fun l => { l with silenceStart := s.timebase }) fun _ => ⟨rfl, rfl⟩
  unfold takeFrame
  dsimp only
  split
  · have hback := runs_updLink hheard (fun l => { l with online := .online, held := true, autonomousMs := 0 }) fun _ => ⟨rfl, rfl⟩
    exact runs_offersInOrder (runs_updLink (runs_dispose (runs_latch hback ..) k tag p) _ fun _ => ⟨rfl, rfl⟩)
  · exact runs_dispose hheard k tag p

/-! ## Inbound assembly -/

theorem runs_setInbound (h : Runs s0 s) (x : Inbound) : Runs s0 (setInbound x s) := runs_updLink h _ fun _ => ⟨rfl, rfl⟩

theorem runs_afterHeader (h : Runs s0 s) (k tag : Byte) (len : Nat) : Runs s0 (afterHeader k tag len s) := by
  unfold afterHeader
  split
  · exact runs_discardFrame (runs_setInbound h _) _
  · exact runs_setInbound h _

theorem runs_byteIn (h : Runs s0 s) (b : Byte) : Runs s0 (byteIn s b) := by
  unfold byteIn
  split
  case h_1 => exact h
  case h_5 => exact runs_afterHeader h ..
  case h_8 =>
    split
    · exact runs_takeFrame (runs_setInbound h _) ..
    · exact runs_discardFrame (runs_setInbound h _) _
  all_goals exact runs_setInbound h _

theorem runs_feed (h : Runs s0 s) (bs : List Byte) : Runs s0 (feed bs s) := by
  unfold feed
  split
  · exact foldl_keeps (P := Runs s0) (fun _ b ht => runs_byteIn ht b) bs h
  · exact h

/-! ## The head frame leaves -/

/-- The queue without its head, which has been shifted out (R11). -/
def headGone (s : State) : State := s.updLink fun l => { l with queue := l.queue.drop 1, shifting := false }

theorem headLeaves_eq (s : State) :
    headLeaves s = if s.link.txn = .active ∧ s.link.shifting = true then offersInOrder (headGone s) else s := rfl

theorem sound_headGone (h : Sound s0 s) : Sound s0 (headGone s) :=
  h.trans ⟨fun _ => .refl _, id, fun hb => ⟨fun f hf => hb.queue f (List.mem_of_mem_drop hf), hb.forwards, hb.writes⟩, rfl⟩

theorem sound_headLeaves (h : Sound s0 s) : Sound s0 (headLeaves s) := by
  rw [headLeaves_eq]
  split
  · exact sound_offersInOrder (sound_headGone h)
  · exact h

/-! ## The entry into AUTONOMOUS -/

theorem sound_setBackCursor (h : Sound s0 s) (q : List Frame) (n : Node) : Sound s0 (setBackCursor q s n) := by
  have holdest : Sound s0 (s.updHist n fun h => { h with cursor := h.oldest }) :=
    sound_updHist h n _ fun _ hs => hs.setCursor (by simp)
  unfold setBackCursor
  dsimp only
  split
  · exact h
  · rename_i first _
    split
    · exact h
    · split
      · rename_i hclass
        refine sound_updHist h n _ fun _ hs => hs.setCursor ?_
        unfold History.classify History.size at hclass
        have hsize := hs.chain.size
        split at hclass
        · omega
        · split at hclass <;> cases hclass
      · split
        · exact sound_latch holdest _ _ nofun
        · exact holdest
      · exact h

theorem notes_setBackCursor (h : Notes s0 s) (q : List Frame) (n : Node) : Notes s0 (setBackCursor q s n) := by
  unfold setBackCursor
  dsimp only
  repeat' split
  all_goals simp [h]

theorem sound_entryLost (h : Sound s0 s) (i : Fin 32) : Sound s0 (entryLost s i) := by
  unfold entryLost
  split <;> simp [h]

theorem notes_entryLost (h : Notes s0 s) (i : Fin 32) : Notes s0 (entryLost s i) := by
  unfold entryLost
  split <;> simp [h]

theorem sound_emptyLists (h : Sound s0 s) : Sound s0 (emptyLists s) := h.of_eq rfl rfl rfl rfl rfl

theorem notes_emptyLists (h : Notes s0 s) : Notes s0 (emptyLists s) := h.of_eq rfl rfl rfl

theorem sound_loseHostWork (h : Sound s0 s) : Sound s0 (loseHostWork s) := by
  unfold loseHostWork
  dsimp only
  refine sound_foldl _ (fun t n ht => ?_) _ (sound_foldl _ (fun t n ht => ?_) _ (sound_foldl _ (fun t i ht => sound_entryLost ht i) _
    (sound_foldl _ (fun t i ht => ?_) _ (sound_foldl _ (fun t n ht => ?_) _ (sound_emptyLists h)))))
  · split <;> simp [ht]
  · simp [ht]
  · simp [ht]
  · simp [ht]

theorem notes_loseHostWork (h : Notes s0 s) : Notes s0 (loseHostWork s) := by
  unfold loseHostWork
  dsimp only
  refine notes_foldl _ (fun t n ht => ?_) _ (notes_foldl _ (fun t n ht => ?_) _ (notes_foldl _ (fun t i ht => notes_entryLost ht i) _
    (notes_foldl _ (fun t i ht => ?_) _ (notes_foldl _ (fun t n ht => ?_) _ (notes_emptyLists h)))))
  · split <;> simp [ht]
  · simp [ht]
  · simp [ht]
  · simp [ht]

theorem sound_away (h : Sound s0 s) : Sound s0 (away s) :=
  h.trans ⟨fun _ => .refl _, id, fun hb => ⟨fun _ hf => absurd hf List.not_mem_nil, hb.forwards, hb.writes⟩, rfl⟩

theorem sound_setBackCursors (h : Sound s0 s) (q : List Frame) : Sound s0 (setBackCursors q s) :=
  sound_foldl _ (fun _ n ht => sound_setBackCursor ht q n) _ h

theorem notes_setBackCursors (h : Notes s0 s) (q : List Frame) : Notes s0 (setBackCursors q s) :=
  notes_foldl _ (fun _ n ht => notes_setBackCursor ht q n) _ h

theorem sound_silenceExpires (h : Sound s0 s) : Sound s0 (silenceExpires s) := by
  rw [silenceExpires_eq]
  exact sound_loseHostWork (sound_setBackCursors (sound_away h) _)

theorem notes_silenceExpires (s : State) : Notes (away s) (silenceExpires s) := by
  rw [silenceExpires_eq]
  exact notes_loseHostWork (notes_setBackCursors (.refl _) _)

/-! ## Expiries -/

theorem sound_onExpiry (h : Sound s0 s) (x : Timer) (hx : expired s x = true) : Sound s0 (onExpiry x s) := by
  unfold onExpiry
  cases x with
  | silence => dsimp only; exact sound_silenceExpires h
  | allocationWait n => dsimp only; exact sound_allocationExpires h n
  | idleGap n => dsimp only; exact sound_idleGapExpires h n
  | breakSent n => dsimp only; exact sound_breakExpires h n
  | debounce n i => dsimp only; exact sound_debounceExpires h n i
  | pulse n o => dsimp only; exact sound_pulseExpires h n o
  | cutSettle n => dsimp only; exact sound_cutSettleExpires h n
  | step n => dsimp only; exact sound_failStep h n
  | delay n => dsimp only; exact sound_completeStep h n
  | slotHold n => dsimp only; exact sound_holdExpires h hx
  | connect n =>
    simp only [expired, Bool.and_eq_true, decide_eq_true_eq] at hx
    dsimp only
    exact sound_connectExpires h hx.1
  | suspend n =>
    simp only [expired, Bool.and_eq_true] at hx
    dsimp only
    refine sound_suspendExpires h ?_
    have hwatches := hx.1
    unfold Port.watchesIdle at hwatches
    unfold Port.pullUp
    revert hwatches
    cases (s.node n).port.state <;> simp
  | forward n => dsimp only; exact sound_forwardExpires h n
  | slotWait n => dsimp only; exact sound_slotWaitExpires h n
  | fetch i => dsimp only; exact sound_fetchExpires h i
  | write i => dsimp only; exact sound_entryExpires h i

theorem notes_onExpiry (x : Timer) (hx : x ≠ .silence) (h : Notes s0 s) : Notes s0 (onExpiry x s) := by
  unfold onExpiry
  cases x
  case silence => exact absurd rfl hx
  all_goals simp [h]

/-- What is due does not depend on the list of what is due. -/
theorem expired_due (s : State) (l : List Timer) (x : Timer) : expired { s with due := l } x = expired s x := by
  cases x <;> rfl

theorem sound_fire (h : Sound s0 s) (x : Timer) : Sound s0 (fire x s) := by
  unfold fire
  split
  · rename_i hdue
    unfold State.isDue at hdue
    rw [Bool.and_eq_true] at hdue
    exact sound_onExpiry (sound_due h _) x (by rw [expired_due]; exact hdue.2)
  · exact h

theorem notes_due (h : Notes s0 s) (l : List Timer) : Notes s0 { s with due := l } := h.of_eq rfl rfl rfl

theorem notes_fire (h : Notes s0 s) (x : Timer) (hx : x ≠ .silence) : Notes s0 (fire x s) := by
  unfold fire
  split
  · exact notes_onExpiry x hx (notes_due h _)
  · exact h

theorem sound_settleDue (h : Sound s0 s) : Sound s0 (settle s) :=
  sound_foldl _ (fun _ n ht => sound_beginItem ht n) _ (sound_foldl _ (fun _ x ht => sound_fire ht x) _ h)

theorem Link.tick_queue (l : Link) : l.tick.queue = l.queue := by
  unfold Link.tick
  split <;> rfl

theorem sound_tick (h : Sound s0 s) : Sound s0 (tick s) := by
  have hnext : Sound s0 { settle s with timebase := (settle s).timebase + 1, link := (settle s).link.tick } :=
    (sound_settleDue h).of_eq rfl rfl (Link.tick_queue _) rfl rfl
  exact sound_due hnext _

end Sys2Proof.Machine

/-! # The outbound queue and the event records -/

namespace Sys2Proof.Machine

open Sys2Proof

variable {s0 s t : State}

/-! ## What the queue counts -/

/-- The frames of the outbound queue are counted as they should be (R9, R16, R20). -/
structure State.Counted (s : State) : Prop where
  fill : s.link.queue.length ≤ 32
  summary : s.summaries ≤ 1
  away : s.link.online = .autonomous → s.link.queue = []
  reset : s.link.resetPending ≠ none →
    s.link.queue.length ≤ 31 ∧ s.link.inbound = .ignore ∧ (s.porst = true ∨ s.link.txn = .active)

theorem queueInv_iff (s : State) : QueueInv s ↔ s.Counted ∧ s.Bounded := by
  constructor
  · rintro ⟨hfill, hsummary, haway, hqueue, hforwards, hwrites, hreset⟩
    exact ⟨⟨hfill, hsummary, haway, hreset⟩, hqueue, hforwards, hwrites⟩
  · rintro ⟨⟨hfill, hsummary, haway, hreset⟩, hqueue, hforwards, hwrites⟩
    exact ⟨hfill, hsummary, haway, hqueue, hforwards, hwrites, hreset⟩

/-- Notices leave an entry for a reply (R9). -/
theorem Notes.room (h : Notes s t) (hroom : s.link.queue.length ≤ 31) : t.link.queue.length ≤ 31 := by
  obtain ⟨new, hnew, _, hopen⟩ := h.queue
  by_cases e : new = []
  · rw [hnew, e, List.append_nil]; exact hroom
  · exact (hopen e).1

theorem Notes.fill (h : Notes s t) (hfill : s.link.queue.length ≤ 32) : t.link.queue.length ≤ 32 := by
  obtain ⟨new, hnew, _, hopen⟩ := h.queue
  by_cases e : new = []
  · rw [hnew, e, List.append_nil]; exact hfill
  · exact (hopen e).1.trans (by decide)

theorem Notes.resetPending (h : Notes s t) : t.link.resetPending = s.link.resetPending := congrArg (·.link.resetPending) h.calm

theorem Notes.inbound (h : Notes s t) : t.link.inbound = s.link.inbound := congrArg (·.link.inbound) h.calm

theorem Notes.txn (h : Notes s t) : t.link.txn = s.link.txn := congrArg (·.link.txn) h.calm

theorem Notes.counted (h : Notes s t) (hs : s.Counted) : t.Counted := by
  refine ⟨h.fill hs.fill, h.summary hs.summary, fun haway => ?_, fun hreset => ?_⟩
  · rw [h.online] at haway
    obtain ⟨new, hnew, _, hopen⟩ := h.queue
    by_cases e : new = []
    · rw [hnew, e, hs.away haway]; rfl
    · have := (hopen e).2.1
      rw [haway] at this
      cases this
  · rw [h.resetPending] at hreset
    have hporst : t.porst = s.porst := congrArg Calm.porst h.calm
    rw [h.inbound, h.txn, hporst]
    exact ⟨h.room (hs.reset hreset).1, (hs.reset hreset).2⟩

/-- A change of the link's own state where no reset waits (R20). -/
theorem State.Counted.updLink (hs : s.Counted) (f : Link → Link) (hq : (f s.link).queue = s.link.queue)
    (ho : (f s.link).online = .autonomous → s.link.online = .autonomous) (hr : (f s.link).resetPending = none) :
    (s.updLink f).Counted := by
  refine ⟨?_, ?_, fun haway => ?_, fun hreset => absurd hr hreset⟩
  · rw [updLink_link, hq]; exact hs.fill
  · rw [State.summaries, updLink_link, hq]; exact hs.summary
  · rw [updLink_link, hq]; exact hs.away (ho haway)

/-! ## A taken frame -/

/-- A frame is being disposed of: no reset waits, the rest of the transaction is ignored, and the link is ONLINE (R4, R17). -/
structure State.Hears (s : State) : Prop where
  reset : s.link.resetPending = none
  inbound : s.link.inbound = .ignore
  txn : s.link.txn = .active
  online : s.link.online = .online

theorem Notes.hears (h : Notes s t) (hs : s.Hears) : t.Hears :=
  ⟨h.resetPending.trans hs.reset, h.inbound.trans hs.inbound, h.txn.trans hs.txn, h.online.trans hs.online⟩

/-- A reply is no EVENT_SUMMARY (R9, section 11.2). -/
theorem replyKind_ne_summary {k : Byte} (hk : k.toNat < 0x60) : k + 0x80 ≠ 0xE5 := by bv_omega

theorem counted_enqueueReply (hs : s.Counted) (hr : s.link.resetPending = none) (ho : s.link.online = .online) (hroom : s.link.queue.length ≤ 31) {k : Byte} (hk : k.toNat < 0x60)
    (tag : Byte) (r : Reply) : (s.enqueueReply k tag r).Counted := by
  refine ⟨?_, ?_, fun haway => ?_, fun hreset => absurd hr hreset⟩
  · rw [enqueueReply_length]
    omega
  · have hsummary := hs.summary
    have hlast : (k + 0x80 == 0xE5) = false := beq_false_of_ne (replyKind_ne_summary hk)
    unfold State.summaries at hsummary ⊢
    rw [show (s.enqueueReply k tag r).link.queue = s.link.queue ++ [_] from rfl, List.filter_append,
      List.filter_cons_of_neg (by rw [hlast]; exact Bool.false_ne_true), List.filter_nil, List.append_nil]
    exact hsummary
  · rw [show (s.enqueueReply k tag r).link.online = s.link.online from rfl, ho] at haway
    cases haway

theorem length_le_of_freeEntries (h : s.freeEntries ≠ 0) : s.link.queue.length ≤ 31 := by
  unfold State.freeEntries Config.queueEntries at h
  omega

theorem counted_replyTo (hs : s.Counted) (hh : s.Hears) (hroom : s.link.queue.length ≤ 31) {k : Byte} (hk : k.toNat < 0x60)
    (tag : Byte) (p : List Byte) : (replyTo k tag (runRequest k.toNat tag p s)).Counted := by
  have hreply {x : State × Option Reply} (hc : x.1.Counted) (hx : x.1.Hears) (hr : x.1.link.queue.length ≤ 31) :
      (replyTo k tag x).Counted := by
    unfold replyTo
    split
    · exact hc
    · exact counted_enqueueReply hc hx.reset hx.online hr hk ..
  by_cases h3 : k.toNat = 0x03
  · rw [h3]
    refine hreply (x := linkConfigRequest p s) ?_ ⟨hh.reset, hh.inbound, hh.txn, hh.online⟩ hroom
    rw [linkConfigRequest_state]
    exact hs.updLink _ rfl id hh.reset
  · by_cases h4 : k.toNat = 0x04
    · rw [h4]
      change (replyTo k tag (partResetRequest tag s)).Counted
      rcases partResetRequest_state tag s with e | e
      · exact hreply (by rwa [e]) (by rwa [e]) (by rwa [e])
      · rw [e]
        exact ⟨hs.fill, hs.summary, hs.away, fun _ => ⟨hroom, hh.inbound, .inr hh.txn⟩⟩
    · have hnotes := notes_runRequest k.toNat tag p s h3 h4
      exact hreply (hnotes.counted hs) (hnotes.hears hh) (hnotes.room hroom)

theorem counted_dispose (hs : s.Counted) (hh : s.Hears) (k tag : Byte) (p : List Byte) : (dispose k tag p s).Counted := by
  have hdiscard (c : LinkCause) : (discardFrame c s).Counted := (notes_discardFrame (.refl s) c).counted hs
  unfold dispose
  split
  · exact hdiscard _
  · split
    · split
      · exact (notes_runAnswer (.refl s) _ _).counted hs
      · exact hdiscard _
    · split
      · exact hdiscard _
      · have hroom := length_le_of_freeEntries ‹_›
        have hk : k.toNat < 0x60 := Nat.not_le.1 ‹_›
        split
        · exact counted_enqueueReply hs hh.reset hh.online hroom hk ..
        · exact counted_enqueueReply hs hh.reset hh.online hroom hk ..
        · exact counted_replyTo hs hh hroom hk tag p

theorem counted_takeFrame (hs : s.Counted) (hr : s.link.resetPending = none) (hi : s.link.inbound = .ignore)
    (ht : s.link.txn = .active) (k tag : Byte) (p : List Byte) : (takeFrame k tag p s).Counted := by
  have hheard : (s.updLink fun l => { l with silenceStart := s.timebase }).Counted := hs.updLink _ rfl id hr
  unfold takeFrame
  dsimp only
  split
  · have hback := hheard.updLink (fun l => { l with online := .online, held := true, autonomousMs := 0 }) rfl nofun hr
    have hlatch (u : State) : Notes u (latch .linkResumed (secondsAway s) u) := notes_latch (.refl u) ..
    have htaken := counted_dispose ((hlatch _).counted hback) ((hlatch _).hears ⟨hr, hi, ht, rfl⟩) k tag p
    exact (notes_offersInOrder (.refl _)).counted ⟨htaken.fill, htaken.summary, htaken.away, htaken.reset⟩
  · rename_i honline
    refine counted_dispose hheard ⟨hr, hi, ht, ?_⟩ k tag p
    cases ho : s.link.online with
    | online => exact ho
    | autonomous => exact absurd ho honline

/-! ## Inbound assembly -/

theorem counted_setInbound (hs : s.Counted) (hr : s.link.resetPending = none) (x : Inbound) : (setInbound x s).Counted :=
  hs.updLink _ rfl id hr

theorem counted_discardFrame (hs : s.Counted) (c : LinkCause) : (discardFrame c s).Counted :=
  (notes_discardFrame (.refl s) c).counted hs

theorem counted_afterHeader (hs : s.Counted) (hr : s.link.resetPending = none) (k tag : Byte) (len : Nat) :
    (afterHeader k tag len s).Counted := by
  unfold afterHeader
  split
  · exact counted_discardFrame (counted_setInbound hs hr _) _
  · exact counted_setInbound hs hr _

/-- No reset waits while a frame is being assembled (R4, R20). -/
theorem State.Counted.assembling (hs : s.Counted) (h : s.link.inbound ≠ .ignore) : s.link.resetPending = none :=
  not_not.1 fun hr => h (hs.reset hr).2.1

theorem counted_byteIn (hs : s.Counted) (ht : s.link.txn = .active) (b : Byte) : (byteIn s b).Counted := by
  by_cases hi : s.link.inbound = .ignore
  · unfold byteIn
    rw [hi]
    exact hs
  · have hr := hs.assembling hi
    unfold byteIn
    split
    case h_1 => exact hs
    case h_5 => exact counted_afterHeader hs hr ..
    case h_8 =>
      split
      · have hset := counted_setInbound hs hr .ignore
        exact counted_takeFrame hset hr rfl ht _ _ _
      · exact counted_discardFrame (counted_setInbound hs hr _) _
    all_goals exact counted_setInbound hs hr _

theorem counted_feed (hs : s.Counted) (bs : List Byte) : (feed bs s).Counted := by
  unfold feed
  split
  · exact (foldl_keeps (P := fun t => t.Counted ∧ t.link.txn = .active)
      (fun t b h => ⟨counted_byteIn h.1 h.2 b, (runs_byteIn (.refl t) b).txn.trans h.2⟩) bs ⟨hs, ‹_›⟩).1
  · exact hs

theorem events_feed (h : EventInv s) (bs : List Byte) : EventInv (feed bs s) := (runs_feed (.refl s) bs).events h

/-! ## The head frame and the entry into AUTONOMOUS -/

theorem counted_headGone (hs : s.Counted) : (headGone s).Counted := by
  have hlength : (s.link.queue.drop 1).length ≤ s.link.queue.length := by rw [List.length_drop]; omega
  refine ⟨hlength.trans hs.fill, ?_, fun haway => ?_, fun hreset => ⟨hlength.trans (hs.reset hreset).1, (hs.reset hreset).2⟩⟩
  · exact (List.Sublist.length_le ((List.drop_sublist 1 _).filter _)).trans hs.summary
  · exact (congrArg (List.drop 1) (hs.away haway)).trans rfl

theorem counted_headLeaves (hs : s.Counted) : (headLeaves s).Counted := by
  rw [headLeaves_eq]
  split
  · exact (notes_offersInOrder (.refl _)).counted (counted_headGone hs)
  · exact hs

theorem events_headLeaves (h : EventInv s) : EventInv (headLeaves s) := by
  rw [headLeaves_eq]
  split
  · exact (notes_offersInOrder (.refl (headGone s))).events h
  · exact h

theorem counted_away (hs : s.Counted) : (away s).Counted :=
  ⟨Nat.zero_le _, Nat.zero_le _, fun _ => rfl, fun hr => ⟨Nat.zero_le _, (hs.reset hr).2⟩⟩

theorem counted_silenceExpires (hs : s.Counted) : (silenceExpires s).Counted := (notes_silenceExpires s).counted (counted_away hs)

theorem events_silenceExpires (h : EventInv s) : EventInv (silenceExpires s) := (notes_silenceExpires s).events h

/-! ## Time -/

theorem counted_fire (hs : s.Counted) (x : Timer) : (fire x s).Counted := by
  by_cases hx : x = .silence
  · subst hx
    unfold fire
    split
    · unfold onExpiry
      dsimp only
      exact counted_silenceExpires ((notes_due (.refl s) _).counted hs)
    · exact hs
  · exact (notes_fire (.refl s) x hx).counted hs

theorem events_fire (h : EventInv s) (x : Timer) : EventInv (fire x s) := by
  by_cases hx : x = .silence
  · subst hx
    unfold fire
    split
    · unfold onExpiry
      dsimp only
      exact events_silenceExpires h
    · exact h
  · exact (notes_fire (.refl s) x hx).events h

theorem counted_settle (hs : s.Counted) : (settle s).Counted :=
  foldl_keeps (P := State.Counted) (fun t n h => (notes_beginItem (.refl t) n).counted h) _
    (foldl_keeps (P := State.Counted) (fun _ x h => counted_fire h x) _ hs)

theorem events_settle (h : EventInv s) : EventInv (settle s) :=
  foldl_keeps (P := EventInv) (fun t n h => (notes_beginItem (.refl t) n).events h) _
    (foldl_keeps (P := EventInv) (fun _ x h => events_fire h x) _ h)

theorem Link.tick_rest (l : Link) : l.tick = { l with autonomousMs := l.tick.autonomousMs } := by
  unfold Link.tick
  split <;> rfl

theorem counted_tick (hs : s.Counted) : (tick s).Counted := by
  have h := counted_settle hs
  have hlink : (tick s).link = { (settle s).link with autonomousMs := (settle s).link.tick.autonomousMs } := Link.tick_rest _
  refine ⟨?_, ?_, ?_, ?_⟩
  · rw [hlink]; exact h.fill
  · rw [State.summaries, hlink]; exact h.summary
  · rw [hlink]; exact h.away
  · rw [hlink]; exact h.reset

/-! ## Resets and transactions -/

theorem counted_partReset (reason : Byte) (x : Txn) (s : State) : (partReset reason x s).Counted :=
  ⟨show 1 ≤ 32 by decide, show 0 ≤ 1 by decide, nofun, fun hr => absurd rfl hr⟩

theorem events_reset : EventInv State.reset := by
  intro r hr
  obtain ⟨i, hi, rfl⟩ := Vector.mem_iff_getElem.1 (Vector.mem_toList_iff.1 hr)
  simp [State.reset, EventTable.reset]

/-- The state with the transaction ended (R1, R11). -/
def risen (s : State) : State := s.updLink fun l => { l with txn := .idle, inbound := .ignore, shifting := false }

/-- What the end of a transaction does after a frame cut short has been discarded (R20). -/
def afterRise (s : State) : State :=
  match s.link.resetPending with
  | none => risen s
  | some tag => finishReset tag (risen s)

/-- Whether a frame has begun and is not whole (R4). -/
def Inbound.begun : Inbound → Bool
  | .ignore => false
  | .header held => !held.isEmpty
  | .body _ _ _ _ => true
  | .check _ _ _ _ => true

theorem csnRises_eq (s : State) : csnRises s = afterRise (if s.link.inbound.begun then discardFrame .cutFrame s else s) := rfl

theorem finishReset_cases (tag : Byte) (s : State) :
    finishReset tag s = partReset 1 .idle s ∨ finishReset tag s = (s.updLink fun l => { l with resetPending := none }) ∨
      (s.link.online = .online ∧ finishReset tag s =
        (s.updLink fun l => { l with resetPending := none }).enqueueReply 0x04 tag (Reply.refuse .busy)) := by
  unfold finishReset
  dsimp only
  split
  · split
    · exact .inr (.inr ⟨‹_›, rfl⟩)
    · exact .inr (.inl rfl)
  · exact .inl rfl

theorem counted_afterRise (hs : s.Counted) : (afterRise s).Counted := by
  unfold afterRise
  split
  · exact hs.updLink _ rfl id ‹_›
  · rename_i tag htag
    have hroom : s.link.queue.length ≤ 31 := (hs.reset (by rw [htag]; exact Option.some_ne_none _)).1
    have hfree : ((risen s).updLink fun l => { l with resetPending := none }).Counted := ⟨hs.fill, hs.summary, hs.away, nofun⟩
    rcases finishReset_cases tag (risen s) with e | e | ⟨ho, e⟩
    · rw [e]; exact counted_partReset ..
    · rw [e]; exact hfree
    · rw [e]; exact counted_enqueueReply hfree rfl ho hroom (by decide) ..

theorem counted_csnRises (hs : s.Counted) : (csnRises s).Counted := by
  rw [csnRises_eq]
  split
  · exact counted_afterRise (counted_discardFrame hs _)
  · exact counted_afterRise hs

theorem counted_endTransaction (hs : s.Counted) (tail : List Byte) : (endTransaction tail s).Counted := by
  unfold endTransaction
  split
  · exact hs
  · rename_i ht
    refine ⟨hs.fill, hs.summary, hs.away, fun hr => ?_⟩
    obtain ⟨hroom, hinbound, hwhy⟩ := hs.reset hr
    exact ⟨hroom, hinbound, .inl (hwhy.resolve_right (by rw [ht]; nofun))⟩
  · exact counted_csnRises (counted_feed hs tail)

theorem counted_startTransaction (hs : s.Counted) : (startTransaction s).Counted := by
  unfold startTransaction
  split
  · rename_i ht
    split
    · rename_i hporst
      exact ⟨hs.fill, hs.summary, hs.away, fun hr => ⟨(hs.reset hr).1, (hs.reset hr).2.1, .inl hporst⟩⟩
    · rename_i hporst
      refine hs.updLink _ rfl id (not_not.1 fun hr => ?_)
      exact (hs.reset hr).2.2.elim hporst (by rw [ht]; nofun)
  · exact hs

end Sys2Proof.Machine

/-! # The reset state has the invariants -/

namespace Sys2Proof.Machine

open Sys2Proof

variable {s0 s t : State}

theorem hist_reset : History.reset.Sound :=
  ⟨by decide, by decide, by decide, by decide, by decide, ⟨by decide, by decide, nofun⟩, by decide⟩

theorem captures_reset (p a : Bool) : (NodeState.reset p a).Captures :=
  ⟨hist_reset, ⟨show 16 ≤ 120 by decide, show 120 ≤ 240 by decide, nofun⟩⟩

theorem sends_reset (p a : Bool) : (NodeState.reset p a).Sends := ⟨Nat.zero_le _, fun _ => ⟨rfl, rfl⟩⟩

theorem attaches_reset (p a : Bool) : (NodeState.reset p a).Attaches := by
  rintro (h | h)
  · exact absurd h (show ¬Port.reset.pullUp = true by decide)
  · exact absurd h (show ¬Port.reset.state = .connecting by decide)

theorem exec_reset (p a : Bool) : (NodeState.reset p a).exec.Sound := nofun

theorem lines_reset (p a : Bool) : (NodeState.reset p a).lines.Sound := by
  cases p <;> rfl

theorem arbiter_reset : State.reset.arbiter.Sound := ⟨by decide, by decide, by decide, fun h => absurd rfl h⟩

/-- Every column of a part after a reset is one after a reset, from the pins it samples (R21, R80). -/
theorem partReset_node (reason : Byte) (x : Txn) (s : State) (n : Node) :
    (partReset reason x s).node n = NodeState.reset (s.node n).lines.pgood.pin (s.node n).lines.auxin.pin := by
  simp [partReset, State.node]

theorem bounded_partReset (reason : Byte) (x : Txn) (s : State) : (partReset reason x s).Bounded := by
  refine ⟨fun f hf => ?_, fun n => ?_, fun i w hw => ?_⟩
  · obtain rfl := List.mem_singleton.1 hf
    exact show 3 ≤ 600 by decide
  · rw [partReset_node]
    exact Nat.zero_le _
  · simp [partReset, State.reset, Cache.reset] at hw

theorem safe_partReset (reason : Byte) (x : Txn) (s t : State) : Safe s (partReset reason x t) := by
  refine ⟨fun n => ?_, fun _ => arbiter_reset, fun _ => bounded_partReset ..⟩
  rw [partReset_node]
  exact ⟨fun _ => captures_reset .., fun _ => sends_reset .., fun _ => attaches_reset _ _, fun _ => exec_reset _ _,
    fun _ => lines_reset ..⟩

/-- Settles O12, by the invariants of what a part reset leaves. -/
theorem resetHasTheInvariants : Obligations.ResetHasTheInvariants := by
  unfold Obligations.ResetHasTheInvariants
  have hnode (n : Node) : State.reset.node n = NodeState.reset false false := by simp [State.reset, State.node]
  rw [queueInv_iff, txInv_iff, pullUpInv_iff, ringInv_iff]
  refine ⟨⟨?_, ?_⟩, events_reset, fun n => ?_, fun n => ?_, ⟨fun n => ?_, ?_⟩, fun n => ?_, fun n => ?_, by decide⟩
  · exact ⟨by decide, by decide, nofun, fun hr => absurd rfl hr⟩
  · refine ⟨by decide, fun n => ?_, fun i w hw => ?_⟩
    · rw [hnode]; exact Nat.zero_le _
    · simp [State.reset, Cache.reset] at hw
  · rw [hnode]; exact sends_reset ..
  · rw [hnode]; exact attaches_reset _ _
  · rw [hnode]; exact exec_reset _ _
  · exact ⟨arbiter_reset.low, arbiter_reset.high, arbiter_reset.holds, arbiter_reset.full⟩
  · rw [hnode]; exact captures_reset ..
  · rw [hnode]; exact lines_reset ..

end Sys2Proof.Machine

/-! # What every command does to the part as a whole -/

namespace Sys2Proof.Machine

open Sys2Proof

variable {s0 s t : State} {n : Node}

theorem safe_afterRise (s : State) : Safe s (afterRise s) := by
  have hrisen : Safe s (risen s) := .of_eq rfl rfl rfl rfl
  unfold afterRise
  split
  · exact hrisen
  · rename_i tag _
    have hfree : Safe s ((risen s).updLink fun l => { l with resetPending := none }) :=
      hrisen.trans (.of_eq rfl rfl rfl rfl)
    rcases finishReset_cases tag (risen s) with e | e | ⟨_, e⟩
    · rw [e]; exact safe_partReset ..
    · rw [e]; exact hfree
    · rw [e]; exact hfree.trans (runs_enqueueReply (.refl _) _ _ (Nat.zero_le _)).safe

theorem events_afterRise (h : EventInv s) : EventInv (afterRise s) := by
  unfold afterRise
  split
  · exact h
  · rename_i tag _
    rcases finishReset_cases tag (risen s) with e | e | ⟨_, e⟩
    · rw [e]; exact events_reset
    · rw [e]; exact h
    · rw [e]; exact h

theorem safe_endTransaction (tail : List Byte) (s : State) : Safe s (endTransaction tail s) := by
  have hfeed := (runs_feed (.refl s) tail).safe
  unfold endTransaction
  split
  · exact .refl s
  · exact .of_eq rfl rfl rfl rfl
  · rw [csnRises_eq]
    split
    · exact (hfeed.trans (sound_discardFrame (.refl _) _).safe).trans (safe_afterRise _)
    · exact hfeed.trans (safe_afterRise _)

theorem events_endTransaction (tail : List Byte) (h : EventInv s) : EventInv (endTransaction tail s) := by
  have hfeed := events_feed h tail
  unfold endTransaction
  split
  · exact h
  · exact h
  · rw [csnRises_eq]
    split
    · exact events_afterRise ((notes_discardFrame (.refl _) _).events hfeed)
    · exact events_afterRise hfeed

theorem sound_startTransaction (s : State) : Sound s (startTransaction s) := by
  unfold startTransaction
  split
  · split
    · exact sound_updLink (.refl s) _ fun _ => rfl
    · exact sound_updLink (.refl s) _ fun _ => rfl
  · exact .refl s

/-- What a command of the table is to the part as a whole: an operation below the link, bytes on MOSI, or one of the few that
are more than that. -/
inductive Move (s : State) : Instr → State → Prop
  | below {c : Instr} {t : State} (notes : Notes s t) (sound : Sound s t) : Move s c t
  | fed (c : Instr) (bs : List Byte) : Move s c (feed bs s)
  | left : Move s .headFrameLeaves (headLeaves s)
  | silent : Move s .silenceTimerExpiry (fire .silence s)
  | ticked : Move s .timebaseIncrement (tick s)
  | ended (tail : List Byte) : Move s (.transactionEnd tail) (endTransaction tail s)
  | started : Move s .transactionStart (startTransaction s)
  | asserted (x : Txn) : Move s .porstAsserted { s with porst := true, link := { s.link with txn := x } }
  | reset (x : Txn) : Move s .powerOnReset (partReset 0 x s)

theorem Move.of_live {c : Instr} {f : State → State} (hf : Move s c (f s)) (e : live f s = .next t) : Move s c t := by
  injection e with e
  subst e
  split
  · exact .below (.refl s) (.refl s)
  · exact hf

theorem Move.of_fire {c : Instr} {x : Timer} (e : live (fire x) s = .next t) (hx : x ≠ .silence) : Move s c t :=
  .of_live (.below (notes_fire (.refl s) x hx) (sound_fire (.refl s) x)) e

theorem Move.of_frameIn {c : Instr} {k tag : Byte} {p : List Byte} (e : live (frameIn k tag p) s = .next t) : Move s c t :=
  .of_live (.fed c _) e

theorem sound_bulkOutOp (h : Sound s0 s) (n : Node) (addr : BitVec 7) (b : Bool) (d : List Byte) :
    Sound s0 (bulkOutOp n addr b d s) := sound_onPacket h n addr _ fun _ ht _ => sound_answerBulkOut ht n b d

theorem Move.of_bulkOutOp {c : Instr} {addr : BitVec 7} {b : Bool} {d : List Byte} (e : live (bulkOutOp n addr b d) s = .next t) :
    Move s c t :=
  .of_live (.below (notes_bulkOutOp (.refl s) ..) (sound_bulkOutOp (.refl s) ..)) e

theorem Move.of_onPacket {c : Instr} {addr : BitVec 7} {f : State → State} (hn : ∀ u, Notes s u → Notes s (f u))
    (hs : ∀ u, Sound s u → Sound s (f u)) (e : live (onPacket n addr f) s = .next t) : Move s c t :=
  .of_live (.below (notes_onPacket (.refl s) _ _ _ hn) (sound_onPacket (.refl s) _ _ _ fun u hu _ => hs u hu)) e

theorem Move.of_onSetup {c : Instr} {addr : BitVec 7} {f : State → State} (hn : ∀ u, Notes s u → Notes s (f u))
    (hs : ∀ u, Sound s u → (u.node n).port.pullUp = true → Sound s (f u)) (e : live (onSetup n addr f) s = .next t) : Move s c t :=
  .of_live (.below (notes_onSetup (.refl s) _ _ _ hn) (sound_onSetup (.refl s) _ _ _ hs)) e

/-- Every command is one of the moves. -/
theorem move_of_exec {c : Instr} (e : exec c s = .next t) : Move s c t := by
  cases c with
  | porstAsserted => cases e; exact .asserted _
  | powerOnReset => cases e; exact .reset _
  | timebaseIncrement => exact .of_live .ticked e
  | transactionStart => cases e; exact .started
  | transactionEnd tail => cases e; exact .ended tail
  | headFrameLeaves => exact .of_live .left e
  | silenceTimerExpiry => exact .of_live .silent e
  | badLength | badCheck | unknownKind => exact .of_live (.fed _ _) e
  | badKind | nop | partInfo | linkConfig | partReset | poolConfig | poolState | conConfig | histRead | streamSet | conInject
  | conBreak | conFlush | textLoad | patLoad | patArm | patState | lineConfig | lineSet | nodeState | planLoad | planStart | planAbort
  | planState | inrushConfig | portConfig | descLoad | portState | driveInsert | driveEject | driveState | fwdResult | fetchData
  | fetchFail | cacheDrop | writeDone | cacheConfig | cacheState | eventConfig | eventTake => exact .of_frameIn e
  | allocationWaitTimeout | idleGapExpiry | breakSent | debounceExpiry | pulseExpiry | cutSettleExpiry | stepTimeout
  | delayExpiry | slotHoldExpiry | connectTimerExpiry | suspend | fwdTimeout | slotWaitTimeout | fetchTimeout | writeTimeout =>
    exact .of_fire e nofun
  | bulkOutPacket | invalidWrapper | testUnitReady | requestSense | inquiry | readCapacity | read10 | write10 | forwardedCommand =>
    exact .of_bulkOutOp e
  | waitingAllocationRetry => exact .of_live (.below (notes_retryWaiting (.refl s)) (sound_retryWaiting (.refl s))) e
  | slotWaitGrant => exact .of_live (.below (notes_grantSlots (.refl s)) (sound_grantSlots (.refl s))) e
  | characterReceived => exact .of_live (.below (notes_receiveChar (.refl s) ..) (sound_receiveChar (.refl s) ..)) e
  | breakStart => exact .of_live (.below (notes_receiveChar (.refl s) ..) (sound_receiveChar (.refl s) ..)) e
  | breakEnd n =>
    exact .of_live (f := fun s => s.updRx n fun r => { r with inBreak := false })
      (.below (notes_updRx (.refl s) ..) (sound_breakEnd (.refl s) n)) e
  | txItemBegin => exact .of_live (.below (notes_beginItem (.refl s) _) (sound_beginItem (.refl s) _)) e
  | byteSent => exact .of_live (.below (notes_byteEnds (.refl s) _) (sound_byteEnds (.refl s) _)) e
  | waitingQueueRetry => exact .of_live (.below (notes_retryQueue (.refl s) _) (sound_retryQueue (.refl s) _)) e
  | inputPinChange n i high =>
    cases e
    split
    · refine .below (notes_updInput (.refl s) ..) (sound_updInput (.refl s) n i _ ?_)
      exact fun _ => rfl
    · exact .below (notes_pinChanges (.refl s) ..) (sound_pinChanges (.refl s) ..)
  | busReset => exact .of_live (.below (notes_busResetOp (.refl s) ..) (sound_busResetOp (.refl s) ..)) e
  | resume => exact .of_live (.below (notes_busActivityOp (.refl s) _) (sound_busActivityOp (.refl s) _)) e
  | busActivity n =>
    refine .of_live (f := fun s => if (s.node n).port.pullUp then setAnswer n .silent (busActivityOp n s) else s) (.below ?_ ?_) e
    · split <;> simp
    · split <;> simp
  | bulkInToken n => exact .of_onPacket (fun u hu => notes_answerBulkIn hu n) (fun u hu => sound_answerBulkIn hu n) e
  | bulkInAck => exact .of_live (.below (notes_ackBulkIn (.refl s) _) (sound_ackBulkIn (.refl s) _)) e
  | ping n => exact .of_onPacket (fun u hu => notes_answerPing hu n) (fun u hu => sound_answerPing hu n) e
  | controlInToken n => exact .of_onPacket (fun u hu => notes_answerControlIn hu n) (fun u hu => sound_answerControlIn hu n) e
  | controlInAck => exact .of_live (.below (notes_ackControlIn (.refl s) _) (sound_ackControlIn (.refl s) _)) e
  | controlOutToken n => exact .of_onPacket (fun u hu => notes_answerControlOut hu n) (fun u hu => sound_answerControlOut hu n) e
  | setConfiguration => exact .of_onSetup (fun u hu => by simp [hu]) (fun u hu hp => sound_decideSetConfiguration hu hp _) e
  | controlRequestStalled | getDescriptor | setAddress | getConfiguration | getStatus | setFeature | clearFeature | bulkReset
  | getMaxLun => exact .of_onSetup (fun u hu => by simp [hu]) (fun u hu _ => by simp [hu]) e

end Sys2Proof.Machine

/-! # The invariants of every step -/

namespace Sys2Proof.Machine

open Sys2Proof

variable {s t : State} {c : Instr}

theorem tick_events (s : State) : (tick s).events = (settle s).events := rfl

theorem events_tick (h : EventInv s) : EventInv (tick s) := by
  unfold EventInv
  rw [tick_events]
  exact events_settle h

theorem Move.safe (h : Move s c t) : Safe s t := by
  cases h with
  | below _ hs => exact hs.safe
  | fed _ bs => exact (runs_feed (.refl s) bs).safe
  | left => exact (sound_headLeaves (.refl s)).safe
  | silent => exact (sound_fire (.refl s) _).safe
  | ticked => exact (sound_tick (.refl s)).safe
  | ended tail => exact safe_endTransaction tail s
  | started => exact (sound_startTransaction s).safe
  | asserted x => exact .of_eq rfl rfl rfl rfl
  | reset x => exact safe_partReset ..

theorem Move.events (h : Move s c t) (hs : EventInv s) : EventInv t := by
  cases h with
  | below hn _ => exact hn.events hs
  | fed _ bs => exact events_feed hs bs
  | left => exact events_headLeaves hs
  | silent => exact events_fire hs _
  | ticked => exact events_tick hs
  | ended tail => exact events_endTransaction tail hs
  | started =>
    unfold startTransaction
    repeat' split
    all_goals exact hs
  | asserted x => exact hs
  | reset x => exact events_reset

theorem Move.counted (h : Move s c t) (hs : s.Counted) : t.Counted := by
  cases h with
  | below hn _ => exact hn.counted hs
  | fed _ bs => exact counted_feed hs bs
  | left => exact counted_headLeaves hs
  | silent => exact counted_fire hs _
  | ticked => exact counted_tick hs
  | ended tail => exact counted_endTransaction hs tail
  | started => exact counted_startTransaction hs
  | asserted x => exact ⟨hs.fill, hs.summary, hs.away, fun hr => ⟨(hs.reset hr).1, (hs.reset hr).2.1, .inl rfl⟩⟩
  | reset x => exact counted_partReset ..

/-- A step is one of the moves of its command, on the state whose queue of commands is the rest; or nothing happens. -/
theorem step_cases (e : step s = .next t) : t = s ∨ ∃ c cs, Move { s with pending := cs } c t := by
  unfold step at e
  split at e
  · exact .inl (by cases e; rfl)
  · exact .inr ⟨_, _, move_of_exec e⟩

theorem step_safe (e : step s = .next t) : Safe s t := by
  rcases step_cases e with rfl | ⟨c, cs, hmove⟩
  · exact .refl t
  · have hsame : Safe s { s with pending := cs } := .of_eq rfl rfl rfl rfl
    exact hsame.trans hmove.safe

/-- Settles O5: an operation below the link queues admitted notices whose payloads fit, a reply takes the entry that a taken
request finds free, and a reset waits with an entry left. -/
theorem queueStaysBounded : Obligations.QueueStaysBounded := by
  intro s t hs e
  rw [queueInv_iff] at hs ⊢
  refine ⟨?_, (step_safe e).bounded hs.2⟩
  rcases step_cases e with rfl | ⟨c, cs, hmove⟩
  · exact hs.1
  · obtain ⟨hfill, hsummary, haway, hreset⟩ := hs.1
    exact hmove.counted ⟨hfill, hsummary, haway, hreset⟩

/-- Settles O6: every latching, every level set and every taking of records leaves a record well formed. -/
theorem sourceRecordsStayWellFormed : Obligations.SourceRecordsStayWellFormed := by
  intro s t hs e
  rcases step_cases e with rfl | ⟨c, cs, hmove⟩
  · exact hs
  · exact hmove.events hs

/-- Settles O7: items join a TX queue only while the node is RUNNING, and a node that leaves RUNNING loses them. -/
theorem darkNodesSendNothing : Obligations.DarkNodesSendNothing := fun _ _ hs e => (step_safe e).txInv hs

/-- Settles O8: whatever changes a connect condition ends with a test of all of them. -/
theorem pullUpNeedsItsConditions : Obligations.PullUpNeedsItsConditions := fun _ _ hs e => (step_safe e).pullUpInv hs

/-- Settles O9: a step starts only below the limit, and a slot passes on before another is given. -/
theorem executionsAndSlotsStayBounded : Obligations.ExecutionsAndSlotsStayBounded := fun _ _ hs e => (step_safe e).execInv hs

/-- Settles O10: a ring changes by writing a record, giving up or gaining a page, and moving its cursor, each of which keeps
its records a chain. -/
theorem historyHasNoHole : Obligations.HistoryHasNoHole := fun _ _ hs e => (step_safe e).ringInv hs

/-- Settles O11: whatever changes CUT or the accepted PGOOD computes the view anew. -/
theorem viewFollowsTheLines : Obligations.ViewFollowsTheLines := fun _ _ hs e => (step_safe e).viewInv hs

end Sys2Proof.Machine

/-! # The queue of commands, the timebase and the order of the queue -/

namespace Sys2Proof.Machine

open Sys2Proof

variable {s t : State} {c : Instr}

/-- Settles O1, by the two cases of the queue of commands. -/
theorem stepRunsFront : Obligations.StepRunsFront := by
  refine ⟨fun c cs s h => ?_, fun s h => ?_⟩
  · unfold step
    rw [h]
  · unfold step
    rw [h]

/-- The queue of commands and the timebase are those of another state. -/
structure Bides (s t : State) : Prop where
  pending : t.pending = s.pending
  timebase : t.timebase = s.timebase

theorem Bides.refl (s : State) : Bides s s := ⟨rfl, rfl⟩

theorem Bides.trans {u : State} (h : Bides s t) (k : Bides t u) : Bides s u :=
  ⟨k.pending.trans h.pending, k.timebase.trans h.timebase⟩

theorem Notes.bides (h : Notes s t) : Bides s t := ⟨congrArg Calm.pending h.calm, congrArg Calm.timebase h.calm⟩

theorem bides_feed (bs : List Byte) (s : State) : Bides s (feed bs s) := ⟨(runs_feed (.refl s) bs).pending, (runs_feed (.refl s) bs).timebase⟩

theorem bides_headLeaves (s : State) : Bides s (headLeaves s) := by
  rw [headLeaves_eq]
  split
  · have h := (notes_offersInOrder (.refl (headGone s))).bides
    exact ⟨h.pending, h.timebase⟩
  · exact .refl s

theorem bides_fire (x : Timer) (s : State) : Bides s (fire x s) := by
  by_cases hx : x = .silence
  · subst hx
    unfold fire
    split
    · unfold onExpiry
      dsimp only
      have h := (notes_silenceExpires { s with due := s.due.erase .silence }).bides
      exact ⟨h.pending, h.timebase⟩
    · exact .refl s
  · exact (notes_fire (.refl s) x hx).bides

theorem bides_settle (s : State) : Bides s (settle s) :=
  foldl_keeps (P := Bides s) (fun t n h => h.trans (notes_beginItem (.refl t) n).bides) _
    (foldl_keeps (P := Bides s) (fun t x h => h.trans (bides_fire x t)) _ (.refl s))

theorem afterRise_pending (s : State) : (afterRise s).pending = s.pending := by
  unfold afterRise
  split
  · rfl
  · rename_i tag _
    rcases finishReset_cases tag (risen s) with e | e | ⟨_, e⟩ <;> rw [e] <;> rfl

theorem afterRise_timebase (s : State) : (afterRise s).timebase = s.timebase ∨ (afterRise s).timebase = 0 := by
  unfold afterRise
  split
  · exact .inl rfl
  · rename_i tag _
    rcases finishReset_cases tag (risen s) with e | e | ⟨_, e⟩
    · rw [e]; exact .inr rfl
    · rw [e]; exact .inl rfl
    · rw [e]; exact .inl rfl

/-- The end of a transaction is its last bytes, the discarding of a frame cut short, and the rise of CSN (R1, R4). -/
theorem endTransaction_cases (tail : List Byte) (s : State) : Bides s (endTransaction tail s) ∨
    ∃ u, Bides s u ∧ endTransaction tail s = afterRise u := by
  unfold endTransaction
  split
  · exact .inl (.refl s)
  · exact .inl ⟨rfl, rfl⟩
  · rw [csnRises_eq]
    refine .inr ⟨_, ?_, rfl⟩
    split
    · exact (bides_feed tail s).trans (notes_discardFrame (.refl _) _).bides
    · exact bides_feed tail s

theorem endTransaction_pending (tail : List Byte) (s : State) : (endTransaction tail s).pending = s.pending := by
  rcases endTransaction_cases tail s with h | ⟨u, h, e⟩
  · exact h.pending
  · rw [e, afterRise_pending, h.pending]

theorem endTransaction_timebase (tail : List Byte) (s : State) :
    (endTransaction tail s).timebase = s.timebase ∨ (endTransaction tail s).timebase = 0 := by
  rcases endTransaction_cases tail s with h | ⟨u, h, e⟩
  · exact .inl h.timebase
  · rw [e, ← h.timebase]; exact afterRise_timebase u

theorem bides_startTransaction (s : State) : Bides s (startTransaction s) := by
  unfold startTransaction
  repeat' split
  all_goals exact ⟨rfl, rfl⟩

theorem Move.pending (h : Move s c t) : t.pending = s.pending := by
  cases h with
  | below hn _ => exact hn.bides.pending
  | fed _ bs => exact (bides_feed bs s).pending
  | left => exact (bides_headLeaves s).pending
  | silent => exact (bides_fire _ s).pending
  | ticked => exact (bides_settle s).pending
  | ended tail => exact endTransaction_pending tail s
  | started => exact (bides_startTransaction s).pending
  | asserted x => rfl
  | reset x => rfl

theorem exec_next (c : Instr) (s : State) : ∃ t, exec c s = .next t := by
  cases c <;> exact ⟨_, rfl⟩

/-- Settles O2: every meaning answers a next state, and each of the moves leaves the queue of commands alone. -/
theorem everyCommandCompletes : Obligations.EveryCommandCompletes := fun c s => by
  obtain ⟨t, e⟩ := exec_next c s
  exact ⟨t, e, (move_of_exec e).pending⟩

/-- Settles O13: of the moves only the tick adds to the timebase, and only a reset sets it to 0. -/
theorem onlyTheIncrementMovesTime : Obligations.OnlyTheIncrementMovesTime := fun c s t e => by
  cases move_of_exec e with
  | below hn _ => exact .inl hn.bides.timebase
  | fed _ bs => exact .inl (bides_feed bs s).timebase
  | left => exact .inl (bides_headLeaves s).timebase
  | silent => exact .inl (bides_fire _ s).timebase
  | ticked => exact .inr (.inl ⟨rfl, congrArg (· + 1) (bides_settle s).timebase⟩)
  | ended tail => exact (endTransaction_timebase tail s).imp_right fun h => .inr ⟨h, .inr ⟨tail, rfl⟩⟩
  | started => exact .inl (bides_startTransaction s).timebase
  | asserted x => exact .inl rfl
  | reset x => exact .inr (.inr ⟨rfl, .inl rfl⟩)

/-- Settles O14: of the moves left, only the departure of the head frame takes a frame away. -/
theorem queueKeepsItsOrder : Obligations.QueueKeepsItsOrder := by
  intro c s t e hreset hsilence htick hend
  have hjoin {u : State} (h : ∃ new, u.link.queue = s.link.queue ++ new) :
      ∃ k new, u.link.queue = s.link.queue.drop k ++ new ∧ k ≤ 1 ∧ (c ≠ .headFrameLeaves → k = 0) :=
    h.elim fun new hnew => ⟨0, new, hnew, by decide, fun _ => rfl⟩
  have hsame {u : State} (h : u.link.queue = s.link.queue) := hjoin (u := u) ⟨[], by rw [h, List.append_nil]⟩
  cases move_of_exec e with
  | below hn hs => exact hjoin (Runs.of_notes hn hs.safe).joins
  | fed _ bs => exact hjoin (runs_feed (.refl s) bs).joins
  | left =>
    rw [headLeaves_eq]
    split
    · obtain ⟨new, hnew, _⟩ := (notes_offersInOrder (.refl (headGone s))).queue
      exact ⟨1, new, hnew, le_refl 1, fun h => absurd rfl h⟩
    · exact ⟨0, [], by rw [List.append_nil]; rfl, by decide, fun _ => rfl⟩
  | silent => exact absurd rfl hsilence
  | ticked => exact absurd rfl htick
  | ended tail => exact absurd rfl (hend tail)
  | started =>
    unfold startTransaction
    repeat' split
    all_goals exact hsame rfl
  | asserted x => exact hsame rfl
  | reset x => exact absurd rfl hreset

end Sys2Proof.Machine

/-! # Frames on the link -/

namespace Sys2Proof.Machine

open Sys2Proof

variable {s : State}

/-- A well-formed command that is a frame of the link sends the bytes of that frame, which the link can carry. -/
theorem exec_frame {i : Instr} {f : Frame} (hf : i.frame = some f) (hw : i.wf = true) (s : State) :
    exec i s = live (frameIn f.kind f.tag f.payload) s ∧ f.kind ≠ 0 ∧ f.payload.length ≤ 600 := by
  cases i with
  | badKind k t p =>
    obtain rfl := Option.some.inj hf
    simp only [Instr.wf, Bool.and_eq_true, decide_eq_true_eq] at hw
    exact ⟨rfl, fun (h : k = 0) => absurd (h ▸ hw.1) (by decide), hw.2⟩
  | unknownKind k t p =>
    obtain rfl := Option.some.inj hf
    simp only [Instr.wf, Bool.and_eq_true, decide_eq_true_eq] at hw
    exact ⟨rfl, fun (h : k = 0) => absurd (h ▸ hw.1.1.1) (by decide), hw.2⟩
  | nop | partInfo | linkConfig | partReset | poolConfig | poolState | conConfig | histRead | streamSet | conInject
  | conBreak | conFlush | textLoad | patLoad | patArm | patState | lineConfig | lineSet | nodeState | planLoad | planStart | planAbort
  | planState | inrushConfig | portConfig | descLoad | portState | driveInsert | driveEject | driveState | fwdResult | fetchData
  | fetchFail | cacheDrop | writeDone | cacheConfig | cacheState | eventConfig | eventTake =>
    obtain rfl := Option.some.inj hf
    exact ⟨rfl, by simp, of_decide_eq_true hw⟩
  | _ => nomatch hf

/-- Settles O3: a frame's bytes go through the assembly as its header, its payload and its check. -/
theorem frameReachesItsBlock : Obligations.FrameReachesItsBlock := by
  rintro i f s hf hw ⟨hporst, htxn, hin⟩
  obtain ⟨he, hk, hp⟩ := exec_frame hf hw s
  rw [he, live_of_porst_eq_false hporst, frameIn_taken f.tag hk hp htxn hin]

/-! ## The check -/

/-- The check is linear in the register and the bits (R3). -/
theorem crcBit_xor (x y : BitVec 16) (a b : Bool) : crcBit x a ^^^ crcBit y b = crcBit (x ^^^ y) (a ^^ b) := by
  have hshift : (x ^^^ y) <<< 1 = (x <<< 1) ^^^ (y <<< 1) := BitVec.shiftLeft_xor_distrib ..
  unfold crcBit
  rw [BitVec.msb_xor, hshift]
  generalize x <<< 1 = u, y <<< 1 = v
  have hassoc (a b c : BitVec 16) : a ^^^ b ^^^ c = a ^^^ c ^^^ b := by rw [BitVec.xor_assoc, BitVec.xor_comm b, BitVec.xor_assoc]
  have hcancel : (u ^^^ 0x8005#16) ^^^ (v ^^^ 0x8005#16) = u ^^^ v := by
    rw [hassoc, ← BitVec.xor_assoc, BitVec.xor_assoc _ 0x8005#16, BitVec.xor_self, BitVec.xor_zero]
  cases x.msb <;> cases y.msb <;> cases a <;> cases b <;> simp [hcancel, hassoc, ← BitVec.xor_assoc]

theorem crcByte_xor (x y : BitVec 16) (b c : Byte) : crcByte x b ^^^ crcByte y c = crcByte (x ^^^ y) (b ^^^ c) := by
  simp [crcByte, crcBit_xor]

/-- A register that one bit of the check clears is clear, for 8005H sets its lowest bit (R3). -/
theorem eq_zero_of_crcBit {r : BitVec 16} (h : crcBit r false = 0) : r = 0 := by
  have hmsb : r.msb = (crcBit r false).getLsbD 0 := by
    unfold crcBit
    cases r.msb <;> simp
  rw [h, show (0 : BitVec 16).getLsbD 0 = false from rfl] at hmsb
  have hshift : r <<< 1 = 0 := by simpa [crcBit, hmsb] using h
  rw [BitVec.msb_eq_decide, decide_eq_false_iff_not] at hmsb
  bv_omega

theorem eq_zero_of_crcByte {r : BitVec 16} (h : crcByte r 0 = 0) : r = 0 := by
  simp only [crcByte, List.foldl_cons, List.foldl_nil] at h
  iterate 8 replace h := eq_zero_of_crcBit h
  exact h

theorem crcByte_injective (b : Byte) : Function.Injective (crcByte · b) := by
  intro x y h
  have hself : b ^^^ b = 0 := BitVec.xor_self
  have hzero : crcByte (x ^^^ y) 0 = 0 := by
    rw [← hself, ← crcByte_xor]
    exact BitVec.xor_eq_zero_iff.2 h
  exact BitVec.xor_eq_zero_iff.1 (eq_zero_of_crcByte hzero)

theorem crcByte_zero_ne : ∀ d : Byte, d ≠ 0 → crcByte 0 d ≠ 0 := by decide +kernel

/-- From the same register, different bytes give different registers (R3). -/
theorem crcByte_ne (r : BitVec 16) {b c : Byte} (h : b ≠ c) : crcByte r b ≠ crcByte r c := by
  intro e
  have hzero := BitVec.xor_eq_zero_iff.2 e
  rw [crcByte_xor, BitVec.xor_self] at hzero
  exact crcByte_zero_ne _ (fun hd => h (BitVec.xor_eq_zero_iff.1 hd)) hzero

theorem foldl_crcByte_injective (bs : List Byte) : Function.Injective (bs.foldl crcByte ·) := by
  induction bs with
  | nil => exact fun _ _ h => h
  | cons b bs ih => exact fun _ _ h => crcByte_injective b (ih h)

theorem crc_ne (before after : List Byte) {b c : Byte} (h : b ≠ c) : crc (before ++ b :: after) ≠ crc (before ++ c :: after) := by
  unfold crc
  rw [List.foldl_append, List.foldl_append]
  exact fun e => crcByte_ne _ h (foldl_crcByte_injective after e)

/-! ## The bytes of a frame -/

/-- The check has two bytes and the header four, so that the payload is what is between (R2). -/
theorem bytes_injective {f g : Frame} (h : f.bytes = g.bytes) :
    f = g := by
  obtain ⟨kind, tag, payload⟩ := f
  obtain ⟨kind', tag', payload'⟩ := g
  unfold Frame.bytes frameBytes at h
  dsimp only at h
  have hfront := List.append_inj_left' h (by simp)
  obtain ⟨hheader, hpayload⟩ := List.append_inj hfront (by simp)
  obtain ⟨hkind, htag⟩ : kind = kind' ∧ tag = tag' := by
    simp only [headerBytes, List.cons_append, List.nil_append, List.cons.injEq] at hheader
    exact ⟨hheader.1, hheader.2.1⟩
  rw [hkind, htag, hpayload]

/-- Settles O4: the header and the check have fixed lengths, and the check is linear with no byte that it does not tell from
another. -/
theorem frameBytesTellFramesApart : Obligations.FrameBytesTellFramesApart :=
  ⟨fun _ _ _ _ h => bytes_injective h, fun before after _ _ h => crc_ne before after h⟩

end Sys2Proof.Machine

/-! # Refusals -/

namespace Sys2Proof.Machine

open Sys2Proof

variable {s : State}

/-- A request that a status other than OK refuses leaves the state as it was, and answers that status alone (R8). -/
def Refuses (s : State) (x : State × Option Reply) : Prop :=
  ∀ r, x.2 = some r → r.status ≠ .ok → x = refused r.status s

theorem refuses_refused (st : Status) (s : State) : Refuses s (refused st s) := by
  rintro _ ⟨⟩ _
  rfl

theorem refuses_accepted (b : Bool) (fs : List Byte) (s t : State) : Refuses s (accepted b fs t) := by
  rintro _ ⟨⟩ h
  exact absurd rfl h

theorem refuses_partReset (tag : Byte) (s : State) : Refuses s (partResetRequest tag s) := by
  unfold partResetRequest
  split
  · exact refuses_refused _ _
  · exact nofun

theorem refuses_injectItems (n : Node) (b : Bool) (items : List TxItem) (s : State) : Refuses s (injectItems n b items s) := by
  unfold injectItems
  repeat' split
  · exact refuses_refused _ _
  · exact refuses_refused _ _
  · exact refuses_accepted _ _ _ _

theorem refuses_configOutput (n : Node) (o : Output) (a b : Bool) (k : Nat) (s : State) : Refuses s (configOutput n o a b k s) := by
  unfold configOutput
  split
  · exact refuses_refused _ _
  · exact refuses_accepted _ _ _ _

theorem refuses_configInput (n : Node) (i : Input) (b : Bool) (k : Nat) (s : State) : Refuses s (configInput n i b k s) :=
  refuses_accepted _ _ _ _

/-- Every branch of every request carries it out, leaves it waiting, or refuses it in the state it came in (R8). -/
theorem refuses_runRequest (k : Nat) (tag : Byte) (p : List Byte) (s : State) : Refuses s (runRequest k tag p s) := by
  unfold runRequest
  split
  case h_4 => exact refuses_partReset _ _
  case h_36 => exact nofun
  all_goals
    simp only [nopRequest, partInfoRequest, linkConfigRequest, poolConfigRequest, poolStateRequest, conConfigRequest, histReadRequest,
      streamSetRequest, conInjectRequest, conBreakRequest, conFlushRequest, textLoadRequest, patLoadRequest, patArmRequest,
      patStateRequest, lineConfigRequest, lineSetRequest, nodeStateRequest, planLoadRequest, planStartRequest, planAbortRequest,
      planStateRequest, inrushConfigRequest, portConfigRequest, descLoadRequest, portStateRequest, driveInsertRequest,
      driveEjectRequest, driveStateRequest, cacheConfigRequest, cacheDropRequest, cacheStateRequest, eventConfigRequest,
      eventTakeRequest]
    repeat' split
  all_goals simp only [refuses_refused, refuses_accepted, refuses_injectItems, refuses_configOutput, refuses_configInput]

/-- Settles O16: in every branch of every request a refusal answers in the state the request came in. -/
theorem refusalChangesNothing : Obligations.RefusalChangesNothing := by
  intro i f s r hf hw hk hready hl hr hst
  obtain ⟨he, hne, hp⟩ := exec_frame hf hw s
  rw [he, live_request f.tag hready ⟨hne, hk⟩ hp hl, refuses_runRequest _ _ _ _ r hr hst, replyTo_refused]

end Sys2Proof.Machine

/-! # Frames that are discarded or not served -/

namespace Sys2Proof.Machine

open Sys2Proof

variable {s : State}

/-- A frame taken while the link is ONLINE, whatever the outbound queue holds (R7). -/
theorem live_frameIn_online {k : Byte} (t : Byte) {p : List Byte} (h : Fresh s) (ho : s.link.online = .online) (hk : k ≠ 0)
    (hp : p.length ≤ 600) : live (frameIn k t p) s = .next (dispose k t p (heard s)) := by
  obtain ⟨hporst, htxn, hin⟩ := h
  rw [live_of_porst_eq_false hporst, frameIn_taken t hk hp htxn hin, takeFrame_online ho]

/-- A header that declares too long a payload (R4, R5). -/
theorem feed_badLength {k : Byte} (t : Byte) {d : BitVec 16} (h : Fresh s) (hk : k ≠ 0) (hd : 600 < d.toNat) :
    feed (headerBytes k t d.toNat) s = discardFrame .badLength (ignoring s) := by
  obtain ⟨_, htxn, hin⟩ := h
  rw [feed, if_pos htxn, foldl_header k t d.toNat d.isLt hk s hin, afterHeader, if_pos (by unfold Config.maxPayload; exact hd)]
  rfl

/-- A frame whose check does not match (R4, R5). -/
theorem feed_badCheck {k : Byte} (t : Byte) {p : List Byte} {c : BitVec 16} (h : Fresh s) (hk : k ≠ 0) (hp : p.length ≤ 600)
    (hc : c ≠ crc (headerBytes k t p.length ++ p)) :
    feed (headerBytes k t p.length ++ p ++ le 2 c.toNat) s = discardFrame .badCheck (ignoring s) := by
  obtain ⟨_, htxn, hin⟩ := h
  rw [feed, if_pos htxn, List.foldl_append, foldl_header_body k t p hp hk s hin, foldl_check, if_neg hc]
  rfl

/-- Settles O20, cause by cause. -/
theorem discardedFramesAreCounted : Obligations.DiscardedFramesAreCounted := by
  refine ⟨fun k t d s hs hk hd => ?_, fun k t p c s hs hk hp hc => ?_, fun k t p s hs ho hk hp => ?_,
    fun i f s hf hw hk hs ho hq => ?_, fun i f s hf hw hlow hhigh hs ho hl => ?_⟩
  · change live (feed (headerBytes k t d.toNat)) s = _
    rw [live_of_porst_eq_false hs.1, feed_badLength t hs hk hd]
    rfl
  · change live (feed (headerBytes k t p.length ++ p ++ le 2 c.toNat)) s = _
    rw [live_of_porst_eq_false hs.1, feed_badCheck t hs hk hp hc]
    rfl
  · change live (frameIn k t p) s = _
    rw [live_frameIn_online t hs ho (fun h => absurd (h ▸ hk) (by decide)) hp, dispose, if_pos hk]
    rfl
  · obtain ⟨he, hne, hp⟩ := exec_frame hf hw s
    have hfull : (heard s).freeEntries = 0 := Nat.sub_eq_zero_of_le hq
    rw [he, live_frameIn_online f.tag hs ho hne hp, dispose, if_neg (by omega), if_neg (by omega), if_pos hfull]
    rfl
  · obtain ⟨he, hne, hp⟩ := exec_frame hf hw s
    rw [he, live_frameIn_online f.tag hs ho hne hp, dispose, if_neg (by omega), if_pos hlow, if_neg (by rw [hl]; exact Bool.false_ne_true)]
    rfl

/-- A kind that the request table does not assign has no length (R196). -/
theorem requestLength_eq_none {k : Nat} (h : assignedKinds.contains k = false) (p : List Byte) : requestLength k p = none := by
  unfold requestLength
  split
  case h_36 => rfl
  all_goals exact absurd h (by decide)

/-- Settles O21: the two refusals that the taking of a request makes by itself. -/
theorem unservedRequestsAreAnswered : Obligations.UnservedRequestsAreAnswered := by
  refine ⟨fun k t p s hw hready => ?_, fun i f s hf hw hk hready hl => ?_⟩
  · obtain ⟨he, hne, hp⟩ := exec_frame (f := ⟨k, t, p⟩) rfl hw s
    simp only [Instr.wf, Bool.and_eq_true, decide_eq_true_eq, Bool.not_eq_true'] at hw
    have hfree : (heard s).freeEntries ≠ 0 := Nat.sub_ne_zero_of_lt hready.2.2.2
    dsimp only at he hne hp
    rw [he, live_frameIn t hready hne hp, dispose, if_neg (by omega), if_neg (by omega), if_neg hfree,
      requestLength_eq_none hw.1.2]
  · obtain ⟨he, hne, hp⟩ := exec_frame hf hw s
    rw [he, live_badLength f.tag hready ⟨hne, hk⟩ hp hl]

end Sys2Proof.Machine

/-! # The edges of CSN -/

namespace Sys2Proof.Machine

open Sys2Proof

variable {s : State}

/-! ## PORST -/

theorem live_of_porst (h : s.porst = true) (f : State → State) : live f s = .next s := congrArg Host.Outcome.next (if_pos h)

theorem released_of_porst (h : s.porst = true) : s.miso = .released ∧ s.attn = false ∧ ∀ n o, s.outputPin n o = .released :=
  ⟨(miso_released_iff s).2 (.inl h), by rw [State.attn, h]; rfl, fun n o => if_pos h⟩

/-- Settles O15: every command but the five that are heard goes through `live`. -/
theorem porstStopsThePart : Obligations.PorstStopsThePart := by
  refine ⟨fun s => ⟨_, rfl, ?_⟩, fun s h => released_of_porst h, fun c s h hc => ?_⟩
  · obtain ⟨hmiso, hattn, hpins⟩ := released_of_porst
      (s := { s with porst := true, link := { s.link with txn := if s.link.txn = .active then .ignored else s.link.txn } }) rfl
    refine ⟨rfl, ?_, hattn, hmiso, by rw [State.misoFrame, hmiso], hpins⟩
    dsimp only
    split
    · exact nofun
    · assumption
  · cases c with
    | porstAsserted | powerOnReset | transactionStart | transactionEnd | inputPinChange => exact nomatch hc
    | breakEnd n => exact live_of_porst h fun s => s.updRx n fun r => { r with inBreak := false }
    | busActivity n =>
      exact live_of_porst h fun s => if (s.node n).port.pullUp then setAnswer n .silent (busActivityOp n s) else s
    | _ => exact live_of_porst h _

/-! ## The assembly of a part of a frame -/

/-- Less than the rest of a payload (R4). -/
theorem foldl_body_part (k t : Byte) (q p : List Byte) (m : Nat) (hm : 0 < m) (s : State) :
    q.foldl byteIn (setInbound (.body k t (q.length + m) p) s) = setInbound (.body k t m (p ++ q)) s := by
  induction q generalizing p with
  | nil => simp
  | cons b q ih =>
    have hleft : q.length + 1 + m ≠ 1 := by omega
    have hrest : q.length + 1 + m - 1 = q.length + m := by omega
    have h := ih (p ++ [b])
    simp only [List.foldl_cons, byteIn, setInbound_link, List.length_cons, setInbound_setInbound, if_neg hleft, hrest] at h ⊢
    rw [h, List.append_assoc]
    rfl

/-- A byte other than 00H is the kind of a frame (R4). -/
theorem byteIn_kind {k : Byte} (hk : k ≠ 0) (hin : s.link.inbound = .header []) : byteIn s k = setInbound (.header [k]) s := by
  rw [byteIn, hin]
  dsimp only
  rw [if_neg hk]

/-- The bytes of a frame that is not whole leave one begun (R4). -/
theorem foldl_part {k : Byte} (t : Byte) {p : List Byte} {j : Nat} (hk : k ≠ 0) (hp : p.length ≤ 600) (h0 : 0 < j)
    (hj : j < 6 + p.length) (hin : s.link.inbound = .header []) :
    ∃ x : Inbound, x.begun = true ∧ ((frameBytes k t p).take j).foldl byteIn s = setInbound x s := by
  have hlength := headerBytes_length k t p.length
  rcases Nat.lt_or_ge j 4 with h4 | h4
  · have hheader : (frameBytes k t p).take j = (headerBytes k t p.length).take j := by
      rw [frameBytes, List.append_assoc, List.take_append_of_le_length (by omega)]
    rw [hheader]
    obtain rfl | rfl | rfl : j = 1 ∨ j = 2 ∨ j = 3 := by omega
    · exact ⟨.header [k], rfl, byteIn_kind hk hin⟩
    · exact ⟨.header [k, t], rfl, congrArg (byteIn · t) (byteIn_kind hk hin)⟩
    · exact ⟨.header [k, t, _], rfl, congrArg (fun u => byteIn (byteIn u t) _) (byteIn_kind hk hin)⟩
  · obtain ⟨i, rfl⟩ := Nat.exists_eq_add_of_le h4
    rcases Nat.lt_or_ge i p.length with hi | hi
    · have hpart : (frameBytes k t p).take (4 + i) = headerBytes k t p.length ++ p.take i := by
        rw [frameBytes, List.append_assoc, ← hlength, List.take_length_add_append, List.take_append_of_le_length (by omega)]
      have hne : p.length ≠ 0 := by omega
      have hsum : (p.take i).length + (p.length - i) = p.length := by rw [List.length_take]; omega
      have hbody := foldl_body_part k t (p.take i) [] (p.length - i) (by omega) s
      rw [hsum] at hbody
      refine ⟨.body k t (p.length - i) (p.take i), rfl, ?_⟩
      rw [hpart, List.foldl_append, foldl_header k t p.length (by omega) hk s hin, afterHeader,
        if_neg (by unfold Config.maxPayload; omega), if_neg hne, hbody, List.nil_append]
    · obtain ⟨e, rfl⟩ := Nat.exists_eq_add_of_le hi
      have hpart : (frameBytes k t p).take (4 + (p.length + e)) = (headerBytes k t p.length ++ p) ++ (checkBytes k t p).take e := by
        rw [frameBytes, show 4 + (p.length + e) = (headerBytes k t p.length ++ p).length + e by simp; omega, List.take_length_add_append]
      rw [hpart, List.foldl_append, foldl_header_body k t p hp hk s hin]
      obtain rfl | rfl : e = 0 ∨ e = 1 := by omega
      · exact ⟨.check k t p [], rfl, rfl⟩
      · exact ⟨.check k t p [_], rfl, rfl⟩

/-! ## The edges -/

theorem latch_errors (src : Source) (d : Nat) (s : State) : (latch src d s).link.errors = s.link.errors := by
  unfold latch offerSummary
  dsimp only
  split
  · rfl
  · split
    · split <;> rfl
    · rfl

theorem afterRise_txn (s : State) : (afterRise s).link.txn = .idle := by
  unfold afterRise
  split
  · rfl
  · rename_i tag _
    rcases finishReset_cases tag (risen s) with e | e | ⟨_, e⟩ <;> rw [e] <;> rfl

theorem afterRise_of_none (h : s.link.resetPending = none) : afterRise s = risen s := by rw [afterRise, h]

theorem endTransaction_txn (tail : List Byte) (s : State) : (endTransaction tail s).link.txn = .idle := by
  unfold endTransaction
  split
  · assumption
  · rfl
  · rw [csnRises_eq]
    exact afterRise_txn _

/-- A byte 00H in place of a kind, or none, begins no frame (R4). -/
theorem feed_nothing {tail : List Byte} (h : Fresh s) (ht : tail.headD 0 = 0) :
    ∃ x : Inbound, x.begun = false ∧ feed tail s = setInbound x s := by
  obtain ⟨_, htxn, hin⟩ := h
  rw [feed, if_pos htxn]
  cases tail with
  | nil =>
    refine ⟨.header [], rfl, ?_⟩
    rw [← hin]
    rfl
  | cons b bs =>
    obtain rfl : b = 0 := ht
    refine ⟨.ignore, rfl, ?_⟩
    rw [List.foldl_cons, byteIn, hin]
    dsimp only
    rw [if_pos rfl]
    exact foldl_ignore bs _ rfl

theorem endTransaction_of_active (ht : s.link.txn = .active) (tail : List Byte) :
    endTransaction tail s = csnRises (feed tail s) := by rw [endTransaction, ht]

theorem startTransaction_eq (hporst : s.porst = false) (hidle : s.link.txn = .idle) :
    startTransaction s = s.updLink fun l => { l with txn := .active, inbound := .header [], shifting := !l.queue.isEmpty } := by
  rw [startTransaction, hidle]
  exact if_neg (by simp [hporst])

/-- The head frame is what MISO carries from the fall of CSN on (R11). -/
theorem startTransaction_miso (hporst : s.porst = false) (hidle : s.link.txn = .idle) :
    (startTransaction s).miso = (s.link.queue.head?.map MisoDrive.frame).getD .zeros := by
  rw [startTransaction_eq hporst hidle]
  refine (miso_driven _ ?_ rfl).trans ?_
  · exact hporst
  cases hq : s.link.queue <;> simp [hq]

/-- Settles O19: both edges as the two functions of CSN give them, with the assembly of a part of a frame. -/
theorem transactionsBeginAndEnd : Obligations.TransactionsBeginAndEnd := by
  refine ⟨fun s hporst hidle => ⟨congrArg _ (startTransaction_eq hporst hidle), _, rfl, ?_, ?_⟩, fun s ht => ?_, fun s tail => ?_,
    fun s tail hs hr ht => ?_, fun s k t p j hs hr hk hp h0 hj => ?_, fun s tail ht => ?_⟩
  · intro hq
    have hmiso := startTransaction_miso hporst hidle
    rw [hq] at hmiso
    exact ⟨hmiso, fun k => by rw [hmiso]; rfl⟩
  · intro f q hq
    have hmiso := startTransaction_miso hporst hidle
    rw [hq] at hmiso
    refine ⟨hmiso, by rw [State.misoFrame, hmiso]; rfl, fun k => ?_⟩
    rw [hmiso]
    simp [List.getD_eq_getElem?_getD]
    split <;> simp [*]
  · have hmiso := (miso_released_iff s).2 (.inr ht)
    exact ⟨hmiso, fun k => by rw [hmiso]; rfl⟩
  · refine ⟨_, rfl, endTransaction_txn tail s, (miso_released_iff _).2 (.inr ?_)⟩
    rw [endTransaction_txn]
    exact nofun
  · obtain ⟨x, hx, hfeed⟩ := feed_nothing hs ht
    change Host.Outcome.next (endTransaction tail s) = _
    rw [endTransaction_of_active hs.2.1, hfeed, csnRises_eq, if_neg (by simp [hx]), afterRise_of_none (s := setInbound x s) hr]
    rfl
  · obtain ⟨x, hx, hfeed⟩ := foldl_part t hk hp h0 hj hs.2.2
    have hcut := notes_discardFrame (.refl (setInbound x s)) .cutFrame
    have hend : endTransaction ((frameBytes k t p).take j) s = risen (discardFrame .cutFrame (setInbound x s)) := by
      rw [endTransaction_of_active hs.2.1, feed, if_pos hs.2.1, hfeed, csnRises_eq, if_pos (show (setInbound x s).link.inbound.begun = true from hx), afterRise_of_none]
      rw [hcut.resetPending]
      exact hr
    refine ⟨_, rfl, ?_⟩
    rw [hend]
    refine ⟨?_, rfl, rfl, rfl, ?_, ?_⟩
    · unfold discardFrame
      rw [latch_frame]
      rfl
    · exact latch_errors ..
    · change (latch _ _ _).events.recs = _
      rw [latch_recs, latch_recs]
      rfl
  · change Host.Outcome.next (endTransaction tail s) = _
    rw [endTransaction, ht]

end Sys2Proof.Machine

/-! # Reset values and the increment -/

namespace Sys2Proof.Machine

open Sys2Proof

variable {s : State}

theorem reset_node (n : Node) : State.reset.node n = NodeState.reset false false := by simp [State.reset, State.node]

theorem input_reset (p a : Bool) (i : Input) : (LineUnit.reset p a).input i =
    { pin := (match i with | .pgood => p | .auxin => a), accepted := (match i with | .pgood => p | .auxin => a), activeHigh := true,
      debounce := 10, candidate := none } := by
  cases i <;> rfl

/-- A part reset is State.reset but for the waiting commands, the transaction and the sampled pins (R21). -/
theorem partReset_eq (x : Txn) (s : State) : partReset 0 x s =
    { State.reset with
      pending := s.pending
      link := { State.reset.link with txn := x }
      nodes := Vector.ofFn fun n : Node =>
        { State.reset.node n with
          lines := { (State.reset.node n).lines with
                      pgood := ((partReset 0 x s).node n).lines.pgood, auxin := ((partReset 0 x s).node n).lines.auxin,
                      view := ((partReset 0 x s).node n).lines.view } } } := by
  have hnodes : (partReset 0 x s).nodes = Vector.ofFn fun n : Node =>
        { State.reset.node n with
          lines := { (State.reset.node n).lines with
                      pgood := ((partReset 0 x s).node n).lines.pgood, auxin := ((partReset 0 x s).node n).lines.auxin,
                      view := ((partReset 0 x s).node n).lines.view } } := by
    ext1 i hi
    rw [Vector.getElem_ofFn]
    change (partReset 0 x s).node ⟨i, hi⟩ = _
    rw [partReset_node, reset_node]
    rfl
  rw [← hnodes]
  rfl

/-- Settles O18: a part reset is State.reset but for what it takes over, and State.reset is read off field by field. -/
theorem powerOnResets : Obligations.PowerOnResets := by
  refine ⟨fun s => ⟨_, rfl, fun n i => ?_, fun n => ?_, ?_⟩, rfl, rfl, rfl, rfl, rfl, rfl, rfl, rfl, rfl, rfl, rfl, rfl, rfl, rfl,
    fun r hr => ?_, rfl, rfl, fun k => ?_, rfl, ⟨rfl, rfl, rfl, rfl, rfl, fun k => ?_, fun k => ?_⟩, fun n => ?_⟩
  · rw [partReset_node]
    change (LineUnit.reset _ _).input i = _
    rw [input_reset]
    cases i <;> rfl
  · rw [partReset_node]
    rfl
  · exact partReset_eq ..
  · obtain ⟨i, hi, rfl⟩ := Vector.mem_iff_getElem.1 (Vector.mem_toList_iff.1 hr)
    simp [State.reset, EventTable.reset]
  · simp [State.reset]
  · simp [State.reset, Cache.reset]
  · simp [State.reset, Cache.reset]
  · have hdrive (u : Lun) : (NodeState.reset false false).drives[u] = Drive.reset := by simp [NodeState.reset]
    simp only [State.output, State.drive, reset_node, hdrive]
    refine ⟨rfl, rfl, rfl, rfl, rfl, rfl, rfl, fun k => ?_, rfl, rfl, fun o => ?_, rfl, rfl, rfl, rfl, rfl, rfl, rfl, rfl, rfl, rfl, rfl,
      rfl, rfl, rfl, rfl, rfl, rfl, rfl, rfl, rfl, rfl, fun u => rfl⟩
    · simp [NodeState.reset]
    · cases o <;> rfl

/-! ## The increment -/

/-- The timers that stand expired do not depend on the list of what is due (R14). -/
theorem mem_nowDue (s : State) (l : List Timer) (x : Timer) :
    x ∈ s.nowDue ↔ x ∈ allTimers { s with due := l } ∧ expired { s with due := l } x = true := by
  rw [expired_due]
  exact List.mem_filter

theorem mem_tick_due (s : State) (x : Timer) : x ∈ (tick s).due ↔ x ∈ allTimers (tick s) ∧ expired (tick s) x = true :=
  mem_nowDue _ _ x

/-- Nothing begins where nothing is queued (R59). -/
theorem beginItem_of_empty {n : Node} (h : (s.node n).tx.queue = []) : beginItem n s = s := by
  have hgap : gapOver s n = false := by simp [gapOver, h]
  rw [beginItem, hgap, if_neg (by simp)]

theorem settle_of_quiet (hdue : s.due = []) (hq : ∀ n, (s.node n).tx.queue = []) : settle s = s := by
  unfold settle
  rw [hdue]
  exact foldl_keeps (P := fun t => t = s) (fun t n ht => by rw [ht]; exact beginItem_of_empty (hq n)) _ rfl

/-- Settles O29, by the two parts of the increment. -/
theorem timebaseIncreases : Obligations.TimebaseIncreases := by
  refine ⟨fun s hporst => ⟨tick s, live_of_porst_eq_false hporst _, ?_, mem_tick_due s⟩, fun s hporst hdue hq =>
    ⟨tick s, live_of_porst_eq_false hporst _, ?_⟩⟩
  · exact congrArg (· + 1) (bides_settle s).timebase
  · have hlink : s.link.tick = { s.link with
        autonomousMs := if s.link.online = .autonomous then min 65535000 (s.link.autonomousMs + 1) else s.link.autonomousMs } := by
      unfold Link.tick
      split <;> rfl
    rw [← hlink]
    unfold tick
    rw [settle_of_quiet hdue hq]

end Sys2Proof.Machine

/-! # Reports -/

namespace Sys2Proof.Machine

open Sys2Proof

variable {s : State} {n : Node} {u : Lun}

/-! ## Fields -/

/-- A report of a request carried out: its length and its reply. -/
theorem reported {c : Instr} {k tag : Byte} {x : State × Option Reply} {fs : List Byte} {len : Nat}
    (hexec : exec c s = .next (replyTo k tag x)) (hx : x = accepted false fs (heard s))
    (hlen : x.2.map (fun r => r.fields.length) = some len) :
    fs.length = len ∧ exec c s = .next ((heard s).enqueueReply k tag (Reply.okay false fs)) := by
  subst hx
  exact ⟨Option.some.inj hlen, hexec⟩

theorem poolState_length (s : State) : (poolStateRequest s).2.map (fun r => r.fields.length) = some 36 := by
  refine congrArg some ?_
  change List.length (_ ++ _) = _
  simp only [List.length_append, le_length, length_byte1]
  rw [length_flatten_map _ _ 8 fun n => by simp]
  rfl

theorem patState_length {p : List Byte} (s : State) (hn : nodeOf (u8 p 0) = some n) :
    (patStateRequest p s).2.map (fun r => r.fields.length) = some 65 := by
  rw [patStateRequest, hn]
  refine congrArg some ?_
  change List.length (_ ++ _) = _
  rw [List.length_append, length_flatten_map _ _ 8 (length_patternFields s n)]
  rfl

theorem nodeState_length {p : List Byte} (s : State) (hn : nodeOf (u8 p 0) = some n) :
    (nodeStateRequest p s).2.map (fun r => r.fields.length) = some 46 := by
  rw [nodeStateRequest, hn]
  refine congrArg some ?_
  dsimp only [accepted, Reply.okay]
  simp only [List.length_append, le_length, length_byte1, length_flag1, length_left2, length_orFF, length_inputFields]
  rw [length_flatten_map _ _ 6 (length_outputFields s n)]
  rfl

theorem planState_length {p : List Byte} (s : State) (hn : nodeOf (u8 p 0) = some n) :
    (planStateRequest p s).2.map (fun r => r.fields.length) = some 59 := by
  rw [planStateRequest, hn]
  refine congrArg some ?_
  dsimp only [accepted, Reply.okay]
  rw [List.length_append, List.length_append, length_runFields, length_endingFields, length_arbiterFields]

theorem portState_length {p : List Byte} (s : State) (hn : nodeOf (u8 p 0) = some n) :
    (portStateRequest p s).2.map (fun r => r.fields.length) = some 23 := by
  rw [portStateRequest, hn]
  refine congrArg some ?_
  dsimp only [accepted, Reply.okay]
  simp

theorem driveState_length {p : List Byte} (s : State) (hn : nodeOf (u8 p 0) = some n) (hu : lunOf (u8 p 1) = some u) :
    (driveStateRequest p s).2.map (fun r => r.fields.length) = some 47 := by
  rw [driveStateRequest, hn, hu]
  refine congrArg some ?_
  dsimp only [accepted, Reply.okay]
  simp [length_imageFields, length_senseFields]

theorem cacheState_length (s : State) : (cacheStateRequest s).2.map (fun r => r.fields.length) = some 524 := by
  refine congrArg some ?_
  change List.length (_ ++ _) = _
  simp only [List.length_append, le_length, length_byte1, length_padded]
  rw [length_flatten_map _ _ 10 (length_slotFields s), length_flatten_map _ _ 10 (length_entryFields s),
    length_flatten_map _ _ 8 fun n => by simp]
  simp [allSlots, allNodes]

/-- The pages staged for a node: the entries of the write table that are its, and the one being filled (R33). -/
theorem stagingPages_eq (s : State) (m : Node) : s.stagingPages m =
    (s.cache.writes.toList.filter fun e => decide (e.use.map WriteUse.node = some m)).length +
      if (s.node m).ctx.filling = none then 0 else 1 := by
  have hown (e : WriteEntry) : e.ofNode m = decide (e.use.map WriteUse.node = some m) := by
    unfold WriteEntry.ofNode
    cases e.use with
    | none => rfl
    | some w => simp [beq_eq_decide]
  unfold State.stagingPages
  simp only [hown]
  cases (s.node m).ctx.filling <;> rfl

/-- The duration that the current step of an execution runs in: its pulse, its delay or its timeout (R118). -/
def stepRuns (s : State) (n : Node) (r : Run) (st : PlanStep) : Option (Word32 × Nat) :=
  match r.state, st.kind with
  | .pulsing, .pulseLine o _ => (s.output n o).pulse.map fun q => (q.start, q.ms)
  | .delaying, .delay ms => some (r.stepStart, ms)
  | .runningStep, _ => none
  | _, _ => if st.timeout = 0 then none else some (r.stepStart, st.timeout)

theorem stepLeft_eq {r : Run} {st : PlanStep} (hr : (s.node n).exec.run = some r) (hst : s.currentStep n = some st) :
    stepLeft s n = (stepRuns s n r st).map fun x => s.timeLeft x.1 x.2 := by
  have hpulse (o : Output) : pulseLeft s n o = ((s.output n o).pulse.map fun q => (q.start, q.ms)).map fun x => s.timeLeft x.1 x.2 := by
    rw [Option.map_map]
    rfl
  have htimeout : (if st.timeout = 0 then none else some (s.timeLeft r.stepStart st.timeout)) =
      (if st.timeout = 0 then none else some (r.stepStart, st.timeout)).map fun x => s.timeLeft x.1 x.2 := by
    split <;> rfl
  unfold stepLeft stepRuns
  rw [hr, hst]
  dsimp only
  cases r.state with
  | pulsing => cases st.kind with
    | pulseLine o ms => exact hpulse o
    | _ => exact htimeout
  | delaying => cases st.kind with
    | delay ms => rfl
    | _ => exact htimeout
  | runningStep => rfl
  | _ => exact htimeout

theorem stepLeft_of_none (hst : s.currentStep n = none) : stepLeft s n = none := by
  unfold stepLeft
  rw [hst]
  cases (s.node n).exec.run <;> rfl

/-- The numbers of two flags (section 11.1). -/
theorem bitsOf_pair (a b : Bool) : bitsOf [a, b] = (if a = true then 1 else 0) + (if b = true then 2 else 0) := by
  cases a <;> cases b <;> rfl

/-- The connect conditions as bits (R122, section 11.3). -/
theorem bitsOf_connectConditions (s : State) (n : Node) : bitsOf (connectConditions s n) =
    (if (s.node n).port.enabled = true then 1 else 0) + (if (s.node n).port.desc.isSome = true then 2 else 0)
      + (if (s.node n).lines.view = .running then 4 else 0)
      + (if (s.node n).port.always = true ∨ (s.drive n 0).image.isSome = true ∨ (s.drive n 1).image.isSome = true then 8 else 0) := by
  have hrun : (if (s.node n).lines.view = .running then 4 else 0) = if decide ((s.node n).lines.view = .running) = true then 4 else 0 := by
    simp only [decide_eq_true_eq]
  have hmedia : ((s.node n).port.always = true ∨ (s.drive n 0).image.isSome = true ∨ (s.drive n 1).image.isSome = true) =
      (((s.node n).port.always || (s.node n).drives[0].image.isSome || (s.node n).drives[1].image.isSome) = true) := by
    rw [Bool.or_eq_true, Bool.or_eq_true, or_assoc]
    rfl
  rw [hrun]
  simp only [connectConditions, hmedia]
  generalize (s.node n).port.enabled = a, (s.node n).port.desc.isSome = b, decide ((s.node n).lines.view = .running) = c,
    ((s.node n).port.always || (s.node n).drives[0].image.isSome || (s.node n).drives[1].image.isSome) = d
  cases a <;> cases b <;> cases c <;> cases d <;> rfl

theorem toList_eq_map {α : Type} {k : Nat} (v : Vector α k) : v.toList = (List.finRange k).map fun i => v[i] := by
  refine List.ext_getElem (by simp) fun i h1 h2 => ?_
  simp

/-- The chunk flags of a line (section 11.3). -/
theorem chunkBits_eq (l : Line) :
    l.chunkBits = ((List.finRange 8).map fun k : Fin 8 => if l.chunks[k].isSome = true then 2 ^ (k : Nat) else 0).sum := by
  have hbits (f : Fin 8 → Bool) : bitsOf ((List.finRange 8).map f) =
      ((List.finRange 8).map fun k : Fin 8 => if f k = true then 2 ^ (k : Nat) else 0).sum := by
    simp only [show List.finRange 8 = [0, 1, 2, 3, 4, 5, 6, 7] from rfl, List.map_cons, List.map_nil, bitsOf, List.sum_cons, List.sum_nil]
    have hscale (b : Bool) (v : Nat) : (if b = true then v else 0) = v * b.toNat := by cases b <;> simp
    simp only [hscale, Fin.isValue, Fin.coe_ofNat_eq_mod, Nat.reduceMod, Nat.reducePow]
    omega
  rw [Line.chunkBits, toList_eq_map, List.map_map]
  exact hbits _

/-- The duration that an occupied fetch slot runs in (R175). -/
def slotRuns : SlotUse → Option (Word32 × Nat)
  | .offered start ms => some (start, ms)
  | .sent start ms => some (start, ms)
  | _ => none

theorem slotLeft_eq (s : State) (v : SlotUse) : slotLeft s v = (slotRuns v).map fun x => s.timeLeft x.1 x.2 := by
  cases v <;> rfl

theorem pinned_eq (l : Line) : l.pinned = decide (l.state ≠ .valid ∨ 0 < l.pins) := by
  rw [Line.pinned, Bool.decide_or, decide_not]

/-- Settles O60, report by report: the request is carried out and changes nothing, and its fields are those of the table. -/
theorem reportsAreTaken : Obligations.ReportsAreTaken := by
  intro s tag n u h
  have hn (p : List Byte) : nodeOf (u8 (BitVec.ofNat 8 n :: p) 0) = some n := nodeOf_byte n
  have hu : lunOf (u8 [BitVec.ofNat 8 n, BitVec.ofNat 8 u] 1) = some u := lunOf_byte u
  refine ⟨?_, ?_, ?_, ?_, ?_, ?_, ?_⟩
  · refine reported (live_request tag h ⟨by decide, by decide⟩ (by decide) rfl) (x := poolStateRequest (heard s)) ?_ (poolState_length _)
    simp only [poolStateRequest, stagingPages_eq]
    rfl
  · refine reported (live_request tag h ⟨by decide, by decide⟩ (show 1 ≤ 600 by decide) rfl)
      (x := patStateRequest [BitVec.ofNat 8 n] (heard s)) ?_ (patState_length _ (hn []))
    simp only [patStateRequest, hn]
    refine congrArg (fun l : List (List Byte) => accepted false (l.flatten ++ byte1 (s.node n).window.length) (heard s))
      (List.map_congr_left fun i _ => ?_)
    unfold patternFields
    simp only [heard_node]
    cases hq : (s.node n).patterns[i] with
    | none => rfl
    | some q => cases ha : q.action <;> rfl
  · refine reported (live_request tag h ⟨by decide, by decide⟩ (show 1 ≤ 600 by decide) rfl)
      (x := nodeStateRequest [BitVec.ofNat 8 n] (heard s)) ?_ (nodeState_length _ (hn []))
    simp only [nodeStateRequest, hn]
    refine congrArg (accepted false · (heard s)) ?_
    simp only [allOutputs, outputFields, pulseLeft, inputFields, List.map_cons, List.map_nil, List.flatten_cons, List.flatten_nil,
      List.append_nil, List.append_assoc, Option.map_map]
    cases hr : (s.node n).exec.run <;> simp only [heard_node, hr] <;> rfl
  · refine reported (live_request tag h ⟨by decide, by decide⟩ (show 1 ≤ 600 by decide) rfl)
      (x := planStateRequest [BitVec.ofNat 8 n] (heard s)) ?_ (planState_length _ (hn []))
    simp only [planStateRequest, hn]
    refine congrArg (accepted false · (heard s)) ?_
    have hrun : runFields (heard s) n = runFields s n := rfl
    have harbiter : arbiterFields (heard s) = arbiterFields s := rfl
    rw [hrun, harbiter, heard_node]
    simp only [List.append_assoc]
    refine congrArg₂ (· ++ ·) ?_ (congrArg₂ (· ++ ·) ?_ ?_)
    · unfold runFields
      cases hr : (s.node n).exec.run with
      | none => rfl
      | some r =>
        cases hst : s.currentStep n with
        | none =>
          rw [stepLeft_of_none hst]
          simp only [List.append_assoc]
          rfl
        | some st =>
          rw [stepLeft_eq hr hst]
          simp only [List.append_assoc]
          rfl
    · unfold endingFields
      cases (s.node n).exec.last with
      | none => rfl
      | some e =>
        simp only [List.append_assoc]
        rfl
    · unfold arbiterFields
      simp only [List.append_assoc]
      rfl
  · refine reported (live_request tag h ⟨by decide, by decide⟩ (show 1 ≤ 600 by decide) rfl)
      (x := portStateRequest [BitVec.ofNat 8 n] (heard s)) ?_ (portState_length _ (hn []))
    have hbits : connectConditions (heard s) n = connectConditions s n := rfl
    simp only [portStateRequest, hn, bitsOf_pair, hbits, bitsOf_connectConditions, Option.map_map]
    rfl
  · refine reported (live_request tag h ⟨by decide, by decide⟩ (show 2 ≤ 600 by decide) rfl)
      (x := driveStateRequest [BitVec.ofNat 8 n, BitVec.ofNat 8 u] (heard s)) ?_ (driveState_length _ (hn _) hu)
    have hcapacity (d : Drive) : d.capacity = (d.image.map fun i => i.size / i.block).getD 0 := by
      unfold Drive.capacity
      cases d.image <;> rfl
    simp only [driveStateRequest, hn, hu, hcapacity, heard_drive, heard_node]
    rfl
  · refine reported (live_request tag h ⟨by decide, by decide⟩ (by decide) rfl) (x := cacheStateRequest (heard s)) ?_ (cacheState_length _)
    have hpinned : Line.pinned = fun l => decide (l.state ≠ .valid ∨ 0 < l.pins) := funext pinned_eq
    have hslots : allSlots.map (slotFields (heard s)) = allSlots.map (slotFields s) := rfl
    simp only [cacheStateRequest, State.countLines, hpinned, toList_eq_map, List.map_map, hslots]
    unfold slotFields
    simp only [slotLeft_eq, chunkBits_eq]
    rfl
end Sys2Proof.Machine

/-! # The head frame leaves -/

namespace Sys2Proof.Machine

open Sys2Proof

variable {s : State}

theorem exec_headFrameLeaves (hporst : s.porst = false) (ht : s.link.txn = .active) (hshift : s.link.shifting = true) :
    exec .headFrameLeaves s = .next (offersInOrder (headGone s)) := by
  change live headLeaves s = _
  rw [live_of_porst_eq_false hporst, headLeaves_eq, if_pos ⟨ht, hshift⟩]

theorem streamOffer_of_none (h : ∀ n, s.wantsToSend n = false) : streamOffer s = s := by
  have hnone : (arbiterOrder s.lastServed).find? s.wantsToSend = none := List.find?_eq_none.2 fun n _ => by simp [h n]
  rw [streamOffer, hnone]

theorem offerSummary_of_not_owed (h : s.events.owed = false) : offerSummary s = s := by
  rw [offerSummary, h]
  rfl

theorem offersInOrder_of_not_owed (h : s.events.owed = false) : offersInOrder s = streamOffer (offerWaiting s.link.waiting s) := by
  rw [offersInOrder, offerSummary_of_not_owed h]

/-- The node the arbiter serves, where one wants to send (R55). -/
theorem exists_served (h : ∃ n, s.wantsToSend n = true) : ∃ n, (arbiterOrder s.lastServed).find? s.wantsToSend = some n := by
  obtain ⟨n, hn⟩ := h
  refine Option.isSome_iff_exists.1 (List.find?_isSome.2 ⟨n, ?_, hn⟩)
  have hall : ∀ last m : Node, m ∈ arbiterOrder last := by decide
  exact hall _ n

/-- The arbiter queues one CON_DATA where a node wants to send and twelve entries are free (R54, R55). -/
theorem streamOffer_queue (hroom : s.admits Config.streamRoom = true) (h : ∃ n, s.wantsToSend n = true) :
    ∃ p, (streamOffer s).link.queue = s.link.queue ++ [{ kind := 0xE1, tag := s.link.noticeCount, payload := p }] := by
  obtain ⟨n, hn⟩ := exists_served h
  refine ⟨conData n (s.node n).hist.cursor (takeRecords 512 ((s.node n).hist.from (s.node n).hist.cursor)), ?_⟩
  rw [streamOffer, hn]
  dsimp only
  rw [if_pos hroom]
  rfl

theorem admits_of_length {room : Nat} (ho : s.link.online = .online) (hh : s.link.held = false) (hq : s.link.queue.length + room ≤ 32) :
    s.admits room = true := by
  have hfree : room ≤ s.freeEntries := by unfold State.freeEntries Config.queueEntries; omega
  simp [State.admits, ho, hh, hfree]

/-- The FETCH_REQ of a slot that has been offered (R177). -/
theorem sendMedia_fetch {i : Fin 16} {l : Line} {start : Word32} {ms : Nat} (hl : s.slotLine i = some l)
    (hu : s.cache.slots[i].use = .offered start ms) :
    sendMedia (.fetch i) s = (s.enqueueNotice 0xE2 (fetchReq s i l)).updSlot i fun x => { x with use := .sent start ms } := by
  unfold sendMedia
  dsimp only
  rw [hl, hu]

/-- What joins a queue stands in the order in which it joined. -/
theorem Notes.starts {t u : State} {q new : List Frame} {x : Frame} (h : Notes t u) (ht : t.link.queue = q ++ [x])
    (hu : u.link.queue = q ++ new) : new.head? = some x := by
  obtain ⟨rest, hrest, _⟩ := h.queue
  rw [hu, ht, List.append_assoc] at hrest
  rw [List.append_cancel_left hrest]
  rfl

/-- Settles O23: the offers in the order of R10 on the queue without its head. -/
theorem headFrameLeavesInOrder : Obligations.HeadFrameLeavesInOrder := by
  intro f q s hporst ht hshift hq
  rw [exec_headFrameLeaves hporst ht hshift]
  have hgone : headGone s = s.updLink fun l => { l with queue := q, shifting := false } := by
    unfold headGone State.updLink
    dsimp only
    rw [hq, List.drop_one, List.tail_cons]
  have hqueue : (headGone s).link.queue = q := by rw [hgone]; rfl
  have hnotes := notes_offersInOrder (.refl (headGone s))
  obtain ⟨new, hnew, hkinds, -⟩ := hnotes.queue
  rw [hqueue] at hnew
  have hshifting : (offersInOrder (headGone s)).link.shifting = false := congrArg (·.link.shifting) hnotes.calm
  refine ⟨fun howed hwait hnone => ?_, _, new, rfl, hnew, hshifting, ?_, hkinds, fun howed ho hh hlen hno => ?_,
    fun howed ho hh hlen i os l start ms hw hl hu => ?_, fun howed hw hh hlen hwants => ?_⟩
  · rw [offersInOrder_of_not_owed (s := headGone s) howed, show (headGone s).link.waiting = [] from hwait, offerWaiting,
      streamOffer_of_none (s := headGone s) hnone, hgone]
  · have hporst' : (offersInOrder (headGone s)).porst = false := (congrArg Calm.porst hnotes.calm).trans hporst
    rw [miso_driven _ hporst' (hnotes.txn.trans ht), hshifting]
    rfl
  · have hadmits : (headGone s).link.admitsSummary := ⟨ho, hh, by rw [hqueue]; exact hlen, by rw [hqueue]; exact hno⟩
    have hsummary := offerSummary_admitted (s := headGone s) howed hadmits
    have hrest : Notes (offerSummary (headGone s)) (offersInOrder (headGone s)) := by simp [offersInOrder]
    have hstart := hrest.starts (x := { kind := 0xE5, tag := s.link.noticeCount, payload := _ }) (by rw [hsummary, ← hqueue]; rfl) hnew
    rw [List.head?_map, hstart]
    rfl
  · have hadmits : (headGone s).admits Config.mediaRoom = true := admits_of_length ho hh (by rw [hqueue]; exact Nat.add_le_add_right hlen 4)
    have hsend := sendMedia_fetch (s := (headGone s).updLink fun l => { l with waiting := os }) hl hu
    rw [offersInOrder_of_not_owed (s := headGone s) howed, show (headGone s).link.waiting = .fetch i :: os from hw, offerWaiting,
      if_pos hadmits, hsend] at hnew
    refine Notes.starts (notes_streamOffer (notes_offerWaiting os (.refl _))) ?_ hnew
    rw [← hqueue]
    rfl
  · have ho : s.link.online = .online := by
      obtain ⟨n, hn⟩ := hwants
      simp only [State.wantsToSend, Bool.and_eq_true, decide_eq_true_eq] at hn
      exact hn.1.2
    have hadmits : (headGone s).admits Config.streamRoom = true := admits_of_length ho hh (by rw [hqueue]; exact Nat.add_le_add_right hlen 12)
    obtain ⟨p, hp⟩ := streamOffer_queue hadmits hwants
    rw [offersInOrder_of_not_owed (s := headGone s) howed, show (headGone s).link.waiting = [] from hw, offerWaiting, hp, hqueue] at hnew
    rw [← List.append_cancel_left hnew]
    rfl

end Sys2Proof.Machine

/-! # PART_RESET -/

namespace Sys2Proof.Machine

open Sys2Proof

variable {s : State}

theorem live_partReset {tag : Byte} (h : Ready s) :
    exec (.partReset tag []) s = .next (replyTo 0x04 tag (partResetRequest tag (heard s))) :=
  live_request tag h ⟨by decide, by decide⟩ (by decide) rfl

/-- The rise of CSN where the rest of the transaction is ignored and a reset waits (R20). -/
theorem exec_transactionEnd_waiting {tag : Byte} (ht : s.link.txn = .active) (hi : s.link.inbound = .ignore)
    (hr : s.link.resetPending = some tag) (tail : List Byte) : exec (.transactionEnd tail) s = .next (finishReset tag (risen s)) := by
  change Host.Outcome.next (endTransaction tail s) = _
  rw [endTransaction_of_active ht, feed, if_pos ht, foldl_ignore tail s hi, csnRises_eq, hi, if_neg (by exact Bool.false_ne_true),
    afterRise, hr]

/-- Settles O28, by the two functions of R20. -/
theorem partResetWaitsForCsn : Obligations.PartResetWaitsForCsn := by
  refine ⟨fun s tag h ha => ?_, fun s tag h ha => ?_, fun s tag tail ht hi hr ha => ⟨_, rfl, ?_⟩, fun s tag tail ht hi hr ha ho => ?_,
    fun s tag tail ht hi hr ha ho => ?_⟩
  · rw [live_partReset h, partResetRequest, if_pos (by exact ha), replyTo_refused]
  · rw [live_partReset h, partResetRequest, if_neg (by exact ha ▸ Bool.false_ne_true)]
    rfl
  · rw [exec_transactionEnd_waiting ht hi hr, finishReset, if_neg (by exact ha ▸ Bool.false_ne_true)]
    rfl
  · rw [exec_transactionEnd_waiting ht hi hr, finishReset, if_pos (by exact ha)]
    dsimp only
    rw [if_neg (by rw [show ((risen s).updLink fun l => { l with resetPending := none }).link.online = _ from ho]; exact nofun)]
    rfl
  · rw [exec_transactionEnd_waiting ht hi hr, finishReset, if_pos (by exact ha)]
    dsimp only
    rw [if_pos (by exact ho)]
    rfl

end Sys2Proof.Machine

/-! # The return to ONLINE -/

namespace Sys2Proof.Machine

open Sys2Proof

variable {s t : State}

/-- The settings of the link that the disposal of a frame leaves alone. -/
structure Stays (s t : State) : Prop where
  online : t.link.online = s.link.online
  silenceStart : t.link.silenceStart = s.link.silenceStart
  autonomousMs : t.link.autonomousMs = s.link.autonomousMs
  inbound : t.link.inbound = s.link.inbound

theorem Notes.stays (h : Notes s t) : Stays s t :=
  ⟨h.online, congrArg (·.link.silenceStart) h.calm, congrArg (·.link.autonomousMs) h.calm, h.inbound⟩

theorem stays_runRequest (k : Nat) (tag : Byte) (p : List Byte) (s : State) : Stays s (runRequest k tag p s).1 := by
  by_cases h3 : k = 0x03
  · subst h3
    exact ⟨rfl, rfl, rfl, rfl⟩
  · by_cases h4 : k = 0x04
    · subst h4
      change Stays s (partResetRequest tag s).1
      rcases partResetRequest_state tag s with e | e
      · rw [e]; exact ⟨rfl, rfl, rfl, rfl⟩
      · rw [e]; exact ⟨rfl, rfl, rfl, rfl⟩
    · exact (notes_runRequest k tag p s h3 h4).stays

theorem stays_dispose (k tag : Byte) (p : List Byte) (s : State) : Stays s (dispose k tag p s) := by
  have hdiscard (c : LinkCause) : Stays s (discardFrame c s) := (notes_discardFrame (.refl s) c).stays
  unfold dispose
  split
  · exact hdiscard _
  · split
    · split
      · exact (notes_runAnswer (.refl s) _ _).stays
      · exact hdiscard _
    · split
      · exact hdiscard _
      · split
        · exact ⟨rfl, rfl, rfl, rfl⟩
        · exact ⟨rfl, rfl, rfl, rfl⟩
        · obtain ⟨honline, hstart, hms, hinbound⟩ := stays_runRequest k.toNat tag p s
          unfold replyTo
          split <;> exact ⟨honline, hstart, hms, hinbound⟩

/-- No frame but an EVENT_TAKE touches LINK_RESUMED where it is disposed of (R17). -/
theorem resumed_dispose {k : Byte} (hk : k ≠ 0x41) (tag : Byte) (p : List Byte) (s : State) :
    (dispose k tag p s).resumed = s.resumed := by
  have hdiscard (c : LinkCause) : (discardFrame c s).resumed = s.resumed := (sound_discardFrame (.refl s) c).resumed
  unfold dispose
  split
  · exact hdiscard _
  · split
    · split
      · exact (sound_runAnswer (.refl s) ‹_›).resumed
      · exact hdiscard _
    · split
      · exact hdiscard _
      · split
        · rfl
        · rfl
        · have hne : k.toNat ≠ 0x41 := fun h => hk (BitVec.eq_of_toNat_eq h)
          have hrun := (answers_runRequest (.refl s) hne tag p).sound.resumed
          unfold replyTo
          split <;> exact hrun

/-- Notices that are held join nothing (R17). -/
theorem Notes.queue_of_held (h : Notes s t) (hheld : s.link.held = true) : t.link.queue = s.link.queue := by
  obtain ⟨new, hnew, _, hopen⟩ := h.queue
  by_cases e : new = []
  · rw [hnew, e, List.append_nil]
  · exact absurd (hopen e).2.2 (by rw [hheld]; exact nofun)

/-- Every request of an assigned kind but PART_RESET is answered (R8). -/
theorem runRequest_replies {k : Nat} {p : List Byte} {b : Bool} (hl : requestLength k p = some b) (h4 : k ≠ 0x04) (tag : Byte) (s : State) :
    (runRequest k tag p s).2.isSome = true := by
  have hinject (n : Node) (c : Bool) (items : List TxItem) : (injectItems n c items s).2.isSome = true := by
    unfold injectItems
    repeat' split
    all_goals rfl
  have houtput (n : Node) (o : Output) (c d : Bool) (v : Nat) : (configOutput n o c d v s).2.isSome = true := by
    unfold configOutput
    split <;> rfl
  have hinput (n : Node) (i : Input) (c : Bool) (v : Nat) : (configInput n i c v s).2.isSome = true := rfl
  unfold runRequest
  split
  case h_4 => exact absurd rfl h4
  case h_36 =>
    unfold requestLength at hl
    split at hl
    case h_36 => cases hl
    all_goals exact absurd rfl (by assumption)
  all_goals
    simp only [nopRequest, partInfoRequest, linkConfigRequest, poolConfigRequest, poolStateRequest, conConfigRequest, histReadRequest,
      streamSetRequest, conInjectRequest, conBreakRequest, conFlushRequest, textLoadRequest, patLoadRequest, patArmRequest,
      patStateRequest, lineConfigRequest, lineSetRequest, nodeStateRequest, planLoadRequest, planStartRequest, planAbortRequest,
      planStateRequest, inrushConfigRequest, portConfigRequest, descLoadRequest, portStateRequest, driveInsertRequest,
      driveEjectRequest, driveStateRequest, cacheConfigRequest, cacheDropRequest, cacheStateRequest, eventConfigRequest,
      eventTakeRequest]
    repeat' split
  all_goals simp only [refused, accepted, Option.isSome_some, hinject, houtput, hinput]

theorem queue_runRequest_of_held (hheld : s.link.held = true) (k : Nat) (tag : Byte) (p : List Byte) :
    (runRequest k tag p s).1.link.queue = s.link.queue := by
  by_cases h3 : k = 0x03
  · subst h3; rfl
  · by_cases h4 : k = 0x04
    · subst h4
      change (partResetRequest tag s).1.link.queue = _
      rcases partResetRequest_state tag s with e | e
      · rw [e]
      · rw [e]
        rfl
    · exact (notes_runRequest k tag p s h3 h4).queue_of_held hheld

theorem freeEntries_of_empty (hq : s.link.queue = []) : s.freeEntries ≠ 0 := by
  rw [State.freeEntries, hq]
  decide

/-- The reply to a request is the first frame of the queue while notices are held (R17), unless the request is a PART_RESET that
waits (R20). -/
theorem dispose_head {k : Byte} {p : List Byte} (hk : k.toNat < 0x60) (hq : s.link.queue = []) (hheld : s.link.held = true) (tag : Byte)
    (hno : ¬(k = 0x04 ∧ p = [] ∧ s.anyOutputActive = false)) :
    ∃ r, (dispose k tag p s).link.queue = [{ kind := k + 0x80, tag := tag, payload := r }] := by
  have hreply (u : State) (hu : u.link.queue = []) (r : Reply) :
      ∃ x, (u.enqueueReply k tag r).link.queue = [{ kind := k + 0x80, tag := tag, payload := x }] :=
    ⟨_, by rw [show (u.enqueueReply k tag r).link.queue = u.link.queue ++ [_] from rfl, hu]; rfl⟩
  unfold dispose
  rw [if_neg (by omega), if_neg (by omega), if_neg (freeEntries_of_empty hq)]
  split
  · exact hreply s hq _
  · exact hreply s hq _
  · rename_i hl
    have hrun := (queue_runRequest_of_held hheld k.toNat tag p).trans hq
    have hsome : (runRequest k.toNat tag p s).2.isSome = true := by
      by_cases h4 : k = 0x04
      · subst h4
        have hp : p = [] := List.length_eq_zero_iff.1 (by simpa [requestLength] using hl)
        have hactive : s.anyOutputActive = true := by simpa [hp] using hno
        change (partResetRequest tag s).2.isSome = true
        rw [partResetRequest, if_pos hactive]
        rfl
      · exact runRequest_replies hl (fun h => h4 (BitVec.eq_of_toNat_eq h)) tag s
    obtain ⟨r, hr⟩ := Option.isSome_iff_exists.1 hsome
    rw [replyTo, hr]
    exact hreply _ hrun r

/-- The latch of LINK_RESUMED (R17, R191). -/
theorem resumed_latch (hl : s.events.recs[49].level ≠ 0) (d : Nat) :
    (latch .linkResumed d s).resumed = (min 255 (s.events.recs[49].count + 1), d) := by
  unfold State.resumed
  rw [latch_recs, EventTable.latched, if_neg (show s.events.recs[Source.linkResumed.id].level ≠ 0 from hl)]
  simp [Source.id, EventRec.latched]

/-- The state in which the first frame after a silence is disposed of: ONLINE again, with notices held (R17). -/
def returning (s : State) : State :=
  (s.updLink fun l => { l with silenceStart := s.timebase }).updLink fun l => { l with online := .online, held := true, autonomousMs := 0 }

/-- The notices that waited while the reply was queued are offered (R17). -/
def released (s : State) : State := s.updLink fun l => { l with held := false }

theorem takeFrame_autonomous {k tag : Byte} {p : List Byte} (h : s.link.online = .autonomous) :
    takeFrame k tag p s = offersInOrder (released (dispose k tag p (latch .linkResumed (secondsAway s) (returning s)))) := by
  rw [takeFrame, if_pos h]
  rfl

/-- Settles O25: the reply is queued while notices are held, and no operation below the link touches LINK_RESUMED. -/
theorem firstFrameReturnsTheLink : Obligations.FirstFrameReturnsTheLink := by
  rintro s i f hf hw ⟨hporst, htxn, hin⟩ haway hq
  obtain ⟨he, hk, hp⟩ := exec_frame hf hw s
  have hlatch := notes_latch (.refl (returning (ignoring s))) .linkResumed (secondsAway s)
  have hheld := hlatch.held
  have hqueue : (latch .linkResumed (secondsAway s) (returning (ignoring s))).link.queue = [] := (hlatch.queue_of_held rfl).trans hq
  have hactive : (latch .linkResumed (secondsAway s) (returning (ignoring s))).anyOutputActive = s.anyOutputActive := by
    unfold State.anyOutputActive State.output
    simp only [latch_node]
    rfl
  have hstart := hlatch.stays
  have htime : (latch .linkResumed (secondsAway s) (returning (ignoring s))).timebase = s.timebase := hlatch.bides.timebase
  have hresumed := resumed_latch (s := returning (ignoring s)) (d := secondsAway s)
  rw [he, live_of_porst_eq_false hporst, frameIn_taken f.tag hk hp htxn hin,
    takeFrame_autonomous (s := ignoring s) haway]
  rw [show secondsAway (ignoring s) = secondsAway s from rfl]
  generalize latch .linkResumed (secondsAway s) (returning (ignoring s)) = u at *
  have hdispose := stays_dispose f.kind f.tag f.payload u
  have hoffers := notes_offersInOrder (.refl (released (dispose f.kind f.tag f.payload u)))
  obtain ⟨honline, hsilence, hms, hinbound⟩ := hoffers.stays
  have hlast (x : Frame) (h : (dispose f.kind f.tag f.payload u).link.queue = [x]) :
      (offersInOrder (released (dispose f.kind f.tag f.payload u))).link.queue.head? = some x := by
    obtain ⟨new, hnew, _⟩ := hoffers.queue
    rw [hnew, show (released (dispose f.kind f.tag f.payload u)).link.queue = [x] from h]
    rfl
  refine ⟨_, rfl, ?_, ?_, ?_, hoffers.held, ?_, ?_, fun hne hl => ?_, fun hlow hno => ?_, fun h4 hnil hoff => ?_, fun h1 hnil => ?_⟩
  · exact honline.trans (hdispose.online.trans hstart.online)
  · exact hsilence.trans (hdispose.silenceStart.trans hstart.silenceStart)
  · exact hms.trans (hdispose.autonomousMs.trans hstart.autonomousMs)
  · exact hinbound.trans (hdispose.inbound.trans hstart.inbound)
  · exact hoffers.bides.timebase.trans ((runs_dispose (.refl u) ..).timebase.trans htime)
  · have hend := ((sound_offersInOrder (.refl (released (dispose f.kind f.tag f.payload u)))).resumed.trans
      (resumed_dispose hne f.tag f.payload u)).trans (hresumed hl)
    exact ⟨congrArg Prod.snd hend, congrArg Prod.fst hend⟩
  · obtain ⟨r, hr⟩ := dispose_head hlow hqueue hheld f.tag (by rw [hactive]; exact hno)
    rw [hlast _ hr]
    rfl
  · refine hoffers.resetPending.trans ?_
    rw [h4, hnil, dispose_request (by decide) (by rw [hqueue]; decide) rfl]
    change (replyTo 0x04 f.tag (partResetRequest f.tag u)).link.resetPending = _
    rw [partResetRequest, if_neg (by rw [hactive, hoff]; exact Bool.false_ne_true)]
    rfl
  · refine hlast _ ?_
    rw [h1, hnil, dispose_request (by decide) (by rw [hqueue]; decide) rfl]
    change u.link.queue ++ [_] = _
    rw [hqueue, ← htime]
    rfl

end Sys2Proof.Machine

/-! # POOL_CONFIG -/

namespace Sys2Proof.Machine

open Sys2Proof

variable {s : State} {n : Node}

/-- A ring and the free list after pages have passed between them. -/
def State.poolMoved (s : State) (n : Node) (f : History → History) (free : Nat) : State :=
  (s.updHist n f).updPool fun q => { q with free := free }

theorem poolMoved_poolMoved (n : Node) (f g : History → History) (a b : Nat) :
    (s.poolMoved n f a).poolMoved n g b = s.poolMoved n (fun h => g (f h)) b := by
  change State.updPool ((s.updHist n f).updHist n g) (fun q => { q with free := b }) = _
  rw [updHist_updHist]
  rfl

theorem poolMoved_self (n : Node) : s.poolMoved n (fun h => h) s.pool.free = s := by
  rw [State.poolMoved, updHist_id]
  rfl

theorem poolMoved_congr {f g : History → History} (h : f (s.node n).hist = g (s.node n).hist) (a : Nat) :
    s.poolMoved n f a = s.poolMoved n g a :=
  congrArg (·.updPool fun q => { q with free := a }) (updHist_congr h)

theorem poolMoved_updHist (n : Node) (f g : History → History) (a : Nat) :
    (s.poolMoved n f a).updHist n g = s.poolMoved n (fun h => g (f h)) a := by
  change State.updPool ((s.updHist n f).updHist n g) (fun q => { q with free := a }) = _
  rw [updHist_updHist]
  rfl

theorem poolMoved_hist (f : History → History) (a : Nat) : ((s.poolMoved n f a).node n).hist = f (s.node n).hist := by
  simp [State.poolMoved]

/-- A ring gains free pages as spare ones (R27). -/
theorem gainPages_of_free {k : Nat} (hk : k ≤ s.pool.free) :
    gainPages n k s = s.poolMoved n (fun h => { h with spare := h.spare + k }) (s.pool.free - k) := by
  induction k generalizing s with
  | zero => exact (poolMoved_self n).symm
  | succ k ih =>
    have hfirst : (s.updPool fun q => { q with free := q.free - 1 }).updHist n (fun h => { h with spare := h.spare + 1 }) =
        s.poolMoved n (fun h => { h with spare := h.spare + 1 }) (s.pool.free - 1) := rfl
    have hfree : (s.poolMoved n (fun h => { h with spare := h.spare + 1 }) (s.pool.free - 1)).pool.free = s.pool.free - 1 := rfl
    rw [gainPages, if_pos (by omega), hfirst, ih (by omega), poolMoved_poolMoved, hfree]
    simp only [Nat.add_assoc, Nat.add_comm 1 k, Nat.sub_sub]

/-- A ring gives up spare pages (R28). -/
theorem losePages_of_spare {k : Nat} (hk : k ≤ (s.node n).hist.spare) :
    losePages n k s = s.poolMoved n (fun h => { h with spare := h.spare - k }) (s.pool.free + k) := by
  induction k generalizing s with
  | zero => exact (poolMoved_self n).symm
  | succ k ih =>
    have hfirst : (giveUpPage n s).updPool (fun q => { q with free := q.free + 1 }) =
        s.poolMoved n (fun h => { h with spare := h.spare - 1 }) (s.pool.free + 1) := by
      rw [giveUpPage, if_pos (by omega)]
      rfl
    have hfree : (s.poolMoved n (fun h => { h with spare := h.spare - 1 }) (s.pool.free + 1)).pool.free = s.pool.free + 1 := rfl
    have hspare := poolMoved_hist (s := s) (n := n) (fun h => { h with spare := h.spare - 1 }) (s.pool.free + 1)
    rw [losePages, hfirst, ih (by rw [hspare]; dsimp only; omega), poolMoved_poolMoved, hfree]
    simp only [Nat.add_assoc, Nat.add_comm 1 k, Nat.sub_sub]

/-- A ring within its new reserve gives up the spare pages over its new maximum. -/
theorem setRing_of_holding {reserve maximum : Nat} (hw : s.pool.waiting = []) (hr : reserve ≤ (s.node n).hist.holding)
    (hm : (s.node n).hist.holding - maximum ≤ (s.node n).hist.spare) :
    setRing n reserve maximum s = s.poolMoved n (fun h =>
      { h with reserve := reserve, maximum := maximum, spare := h.spare - (h.holding - maximum) })
        (s.pool.free + ((s.node n).hist.holding - maximum)) := by
  have hset : s.updHist n (fun h => { h with reserve := reserve, maximum := maximum }) =
      s.poolMoved n (fun h => { h with reserve := reserve, maximum := maximum }) s.pool.free := rfl
  have hfree (f : History → History) : (s.poolMoved n f s.pool.free).pool.free = s.pool.free := rfl
  have hholding : (({ (s.node n).hist with reserve := reserve, maximum := maximum } : History)).holding =
    (s.node n).hist.holding := rfl
  simp only [setRing, Nat.sub_eq_zero_of_le hr, gainPages, hset, poolMoved_hist, hholding]
  rw [losePages_of_spare (by rw [poolMoved_hist]; exact hm), poolMoved_poolMoved, hfree, retryWaiting_of_nil (by exact hw), ite_self]
  exact poolMoved_congr rfl _

/-- A ring below its new reserve gains the pages it lacks from the free ones. -/
theorem setRing_of_free {reserve maximum : Nat} (hw : s.pool.waiting = []) (hr : (s.node n).hist.holding < reserve)
    (hm : reserve ≤ maximum) (hf : reserve - (s.node n).hist.holding ≤ s.pool.free) :
    setRing n reserve maximum s = s.poolMoved n (fun h =>
      { h with reserve := reserve, maximum := maximum, spare := h.spare + (reserve - h.holding) })
        (s.pool.free - (reserve - (s.node n).hist.holding)) := by
  have hholding : (({ (s.node n).hist with reserve := reserve, maximum := maximum, spare := (s.node n).hist.spare + (reserve - (s.node n).hist.holding) } : History)).holding = reserve := by
    simp only [History.holding] at hr ⊢
    omega
  simp only [setRing, gainPages_of_free hf, poolMoved_updHist, poolMoved_hist, hholding, Nat.sub_eq_zero_of_le hm, losePages]
  rw [retryWaiting_of_nil (by exact hw), ite_self]
  exact poolMoved_congr rfl _

/-- Settles O30: the two accepted cases are the two directions in which spare pages pass. -/
theorem poolConfigSetsTheRing : Obligations.PoolConfigSetsTheRing := by
  intro s tag p h hlen reserve maximum adjusted
  have hrun : exec (.poolConfig tag p) s = .next (replyTo 0x08 tag (poolConfigRequest p (heard s))) :=
    live_request (k := 0x08) tag h (by decide) (by omega) (by simp [requestLength, hlen])
  have hadjusted : (moved 4 64 (u16 p 1) || moved reserve 256 (u16 p 3)) = adjusted := by
    rw [moved_eq, moved_eq, ← Bool.decide_or]
  refine ⟨fun hbad => ?_, fun n hn => ?_⟩
  · rw [hrun, poolConfigRequest, nodeOf_eq_none hbad, replyTo_refused]
  have hnode : nodeOf (u8 p 0) = some n := hn ▸ nodeOf_val n
  intro hist others
  have hcases : poolConfigRequest p (heard s) =
      if 512 < reserve + others then refused .badArg (heard s)
      else if (heard s).supply < reserve - hist.holding then refused .noSpace (heard s)
      else accepted adjusted (le 2 reserve ++ le 2 maximum
        ++ le 2 ((setRing n reserve maximum (heard s)).node n).hist.holding
        ++ le 2 (setRing n reserve maximum (heard s)).pool.free) (setRing n reserve maximum (heard s)) := by
    simp only [poolConfigRequest, hnode, ← hadjusted]
    rfl
  have hmax : reserve ≤ maximum := le_clamp (clamp_le 4 64 (u16 p 1) (by decide) |>.trans (by decide)) _
  have hsupply : (heard s).supply = s.pool.free + 8 * (s.cache.lines.filter Line.evictable).length := by
    simp [State.supply, Config.linePages]
  rw [hrun, hcases]
  refine ⟨fun hsum => ?_, fun hsum hlack => ?_, fun hsum hwait hr hm => ?_, fun hsum hwait hr hf => ?_⟩
  · rw [if_pos hsum, replyTo_refused]
  · rw [if_neg (by omega), if_pos (hsupply ▸ hlack), replyTo_refused]
  · have hset := setRing_of_holding (s := heard s) (n := n) (reserve := reserve) (maximum := maximum) (by exact hwait) (by exact hr) (by exact hm)
    have hleft : ({ hist with reserve := reserve, maximum := maximum, spare := hist.spare - (hist.holding - maximum) } : History).holding =
        min hist.holding maximum := by
      simp only [History.holding] at hm ⊢
      omega
    rw [if_neg (by omega), if_neg (by omega), hset, poolMoved_hist, replyTo_accepted, ← hleft]
    rfl
  · have hset := setRing_of_free (s := heard s) (n := n) (reserve := reserve) (maximum := maximum) (by exact hwait) (by exact hr) hmax (by exact hf)
    have hleft : ({ hist with reserve := reserve, maximum := maximum, spare := hist.spare + (reserve - hist.holding) } : History).holding =
        reserve := by
      simp only [History.holding] at hr ⊢
      omega
    have hfields := congrArg (le 2) hleft
    rw [if_neg (by omega), if_neg (by omega), hset, poolMoved_hist, replyTo_accepted]
    exact congrArg (fun x => Host.Outcome.next (State.enqueueReply _ 0x08 tag
      (Reply.okay adjusted (le 2 reserve ++ le 2 maximum ++ x ++ le 2 _)))) hfields

end Sys2Proof.Machine

/-! # Records, breaks and idle gaps -/

namespace Sys2Proof.Machine

open Sys2Proof

variable {s : State} {n : Node}

/-! ## What a record leaves of the columns -/

/-- An offer of the arbiter moves at most a node's cursor (R54). -/
theorem streamOffer_node (s : State) (m : Node) :
    ∃ c, (streamOffer s).node m = { s.node m with hist := { (s.node m).hist with cursor := c } } := by
  rcases streamOffer_nodes s with e | ⟨k, c, e⟩
  · exact ⟨_, congrArg (fun v : Vector NodeState 4 => v[m]) e⟩
  · have hnode := congrArg (fun v : Vector NodeState 4 => v[m]) e
    rcases eq_or_ne k m with rfl | hne
    · exact ⟨c, hnode.trans (updHist_node_self ..)⟩
    · exact ⟨_, hnode.trans ((updHist_node ..).trans (if_neg hne))⟩

/-- A record changes the history of its own node, and of another at most the cursor (R45, R55). -/
theorem appendRec_node (n : Node) (ts : Word32) (b : RecBody) (s : State) (m : Node) : ∃ h : History,
    (appendRec n ts b s).node m = { s.node m with hist := h } ∧ (m ≠ n → h = { (s.node m).hist with cursor := h.cursor }) := by
  obtain ⟨c, hc⟩ := streamOffer_node (writeRec n ts b s) m
  rw [appendRec_eq, hc, (beside_writeRec n ts b s).node]
  rcases eq_or_ne n m with rfl | hne
  · rw [updHist_node_self]
    exact ⟨_, rfl, fun h => (h rfl).elim⟩
  · rw [(updHist_node ..).trans (if_neg hne)]
    exact ⟨_, rfl, fun _ => rfl⟩

/-- A record that closes changes its node's history and that no record is open (R44). -/
theorem closeOpen_node (n : Node) (f : RecFlags) (s : State) : ∃ h : History,
    (closeOpen n f s).node n = { s.node n with hist := h, rx := { (s.node n).rx with opened := none } } := by
  cases hopen : (s.node n).rx.opened with
  | none =>
    rw [closeOpen_none hopen, ← hopen]
    exact ⟨_, rfl⟩
  | some o =>
    rw [closeOpen_some hopen]
    obtain ⟨h, hnode, -⟩ := appendRec_node n o.timestamp (.text (o.flags.or f) o.payload) (s.updRx n fun r => { r with opened := none }) n
    rw [hnode, updRx_node_self]
    exact ⟨_, rfl⟩

/-- Settles O33: what the ring gains is `appendRec_hist`, and the columns keep the rest. -/
theorem recordTakesNextSeq : Obligations.RecordTakesNextSeq := by
  intro n ts b s
  refine ⟨(appendRec_hist n ts b s).1, (appendRec_hist n ts b s).2, appendRec_timebase n ts b s, fun m => ?_⟩
  obtain ⟨h, hnode, hother⟩ := appendRec_node n ts b s m
  rw [hnode]
  exact ⟨rfl, rfl, rfl, rfl, rfl, rfl, hother⟩

/-! ## The open record closes -/

/-- The open record closes with its flags and stands last (R44, R45). -/
theorem closeOpen_last {o : OpenRec} (h : (s.node n).rx.opened = some o) (f : RecFlags) :
    ((closeOpen n f s).node n).hist.next = (s.node n).hist.next + 1 ∧
    ((closeOpen n f s).node n).hist.current.getLast? =
      some { seq := (s.node n).hist.next, timestamp := o.timestamp, body := .text (o.flags.or f) o.payload } := by
  rw [closeOpen_some h, (appendRec_hist ..).1, (appendRec_hist ..).2, updRx_node_self]
  exact ⟨rfl, rfl⟩

theorem or_brk (f : RecFlags) : f.or { RecFlags.none with brk := true } = { f with brk := true } := by
  simp [RecFlags.or, RecFlags.none]

theorem or_gap (f : RecFlags) : f.or { RecFlags.none with gap := true } = { f with gap := true } := by
  simp [RecFlags.or, RecFlags.none]

/-- A latched event carries its detail (R191). -/
theorem latch_lastDetail {src : Source} (h : s.events.recs[src.id].level ≠ 0) (d : Nat) :
    (latch src d s).events.recs[src.id].lastDetail = d := by
  rw [latch_recs, latched_self _ _ _ h]
  rfl

/-- A break starts only in MARK (R42). -/
theorem exec_breakStart (hporst : s.porst = false) (parity : Bool) (h : (s.node n).rx.inBreak = false) :
    exec (.breakStart n parity) s = .next (breakStarts n s) := by
  refine (exec_characterReceived (b := 0) (framing := true) hporst).trans ?_
  rw [receiveChar, if_neg (by simp [h]), if_pos ⟨rfl, rfl⟩]

/-- The idle gap runs only on an open record (R44). -/
theorem opened_of_idleGap (h : s.isDue (.idleGap n) = true) : ∃ o, (s.node n).rx.opened = some o := by
  simp only [State.isDue, Bool.and_eq_true, expired] at h
  obtain ⟨-, hexpired⟩ := h
  cases hopen : (s.node n).rx.opened with
  | none => simp [hopen] at hexpired
  | some o => exact ⟨o, rfl⟩

/-- Settles O35: a break and an expired idle gap each close the open record with their flag. -/
theorem breakAndIdleGapClose : Obligations.BreakAndIdleGapClose := by
  refine ⟨fun s n parity hporst hmark => ⟨_, exec_breakStart hporst parity hmark, ?_⟩,
    fun s n hporst => live_of_porst_eq_false hporst fun s => s.updRx n fun r => { r with inBreak := false },
    fun s n hporst hdue => ?_⟩
  · have hnode (x : Node) : (latch (.node n .conBreakIn)
        (((closeOpen n { RecFlags.none with brk := true } (s.updRx n fun r => { r with inBreak := true })).node n).hist.next.toNat % 65536)
        (closeOpen n { RecFlags.none with brk := true } (s.updRx n fun r => { r with inBreak := true }))).node x = _ := latch_node ..
    obtain ⟨h, hclosed⟩ := closeOpen_node n { RecFlags.none with brk := true } (s.updRx n fun r => { r with inBreak := true })
    have hlevels := levels_closeOpen n { RecFlags.none with brk := true } (s.updRx n fun r => { r with inBreak := true })
    have hlast (o : OpenRec) (ho : (s.node n).rx.opened = some o) := closeOpen_last (n := n)
      (s := s.updRx n fun r => { r with inBreak := true }) (o := o) (by rw [updRx_node_self]; exact ho) { RecFlags.none with brk := true }
    have hnext := closeOpen_next n { RecFlags.none with brk := true } (s.updRx n fun r => { r with inBreak := true })
    rw [updRx_node_self] at hclosed hnext
    unfold breakStarts
    dsimp only
    generalize closeOpen n { RecFlags.none with brk := true } (s.updRx n fun r => { r with inBreak := true }) = t at *
    simp only [updNode_node_self, updNode_events, hnode]
    refine ⟨by rw [hclosed], trivial, by rw [hclosed], fun o ho => ?_, fun ho => ?_, fun hlevel => ?_⟩
    · rw [(hlast o ho).2, or_brk, updRx_node_self]
    · rw [hnext, ho]
      simp
    · exact latch_lastDetail (by rw [level_of_levels hlevels]; exact hlevel) _
  · obtain ⟨o, ho⟩ := opened_of_idleGap hdue
    have hclosed := closeOpen_node n { RecFlags.none with gap := true } { s with due := s.due.erase (.idleGap n) }
    have hlast := closeOpen_last (s := { s with due := s.due.erase (.idleGap n) }) ho { RecFlags.none with gap := true }
    obtain ⟨h, hclosed⟩ := hclosed
    refine ⟨o, _, ho, live_fire_of_due hporst hdue, ?_, hlast.1, ?_, ?_⟩
    · exact (congrArg NodeState.rx hclosed).trans rfl
    · exact (congrArg NodeState.window hclosed).trans rfl
    · exact hlast.2.trans (by rw [or_gap]; rfl)

end Sys2Proof.Machine

/-! # STREAM_SET -/

namespace Sys2Proof.Machine

open Sys2Proof

variable {s : State} {n : Node}

/-- Without twelve free entries the arbiter offers nothing (R55). -/
theorem streamOffer_of_full (h : 20 < s.link.queue.length) : streamOffer s = s := by
  have hfull : s.admits Config.streamRoom = false := by
    have hfree : ¬Config.streamRoom ≤ s.freeEntries := by
      unfold State.freeEntries Config.queueEntries Config.streamRoom
      omega
    simp [State.admits, hfree]
  unfold streamOffer
  split
  · rfl
  · rw [if_neg (by simp [hfull])]

/-- Settles O37: the two values of the flag, and the offer of a node that is served. -/
theorem streamingIsSet : Obligations.StreamingIsSet := by
  have hrun (s : State) (tag : Byte) (p : List Byte) (h : Ready s) (hlen : p.length = 6) :
      exec (.streamSet tag p) s = .next (replyTo 0x12 tag (streamSetRequest p (heard s))) :=
    live_request (k := 0x12) tag h (by decide) (by omega) (by simp [requestLength, hlen])
  refine ⟨fun s tag p n h hlen hn hoff => ?_, fun s tag p n h hlen hn hon hfull => ?_, fun s n hadmits hserved => ?_⟩
  · have hnode : nodeOf (u8 p 0) = some n := hn ▸ nodeOf_val n
    have hflag : onOff (u8 p 1) = some false := by rw [hoff]; rfl
    rw [hrun s tag p h hlen, streamSetRequest, hnode, hflag]
    dsimp only
    rw [replyTo_accepted, streamFields, updHist_node_self]
    rfl
  · have hnode : nodeOf (u8 p 0) = some n := hn ▸ nodeOf_val n
    have hflag : onOff (u8 p 1) = some true := by rw [hon]; rfl
    rw [hrun s tag p h hlen, streamSetRequest, hnode, hflag]
    dsimp only
    rw [streamOffer_of_full (s := (heard s).updHist n _) hfull, replyTo_accepted, streamFields, updHist_node_self]
    rfl
  · unfold streamOffer
    rw [hserved]
    exact if_pos hadmits

end Sys2Proof.Machine

/-! # Plans are loaded -/

namespace Sys2Proof.Machine

open Sys2Proof

/-! ## Lists of blocks -/

/-- Blocks of one length are found again where they were laid end to end. -/
theorem blocks_of_flatten {k : Nat} {l : List (List Byte)} (h : ∀ d ∈ l, d.length = k) :
    (List.range l.length).map (fun i => (l.flatten.drop (k * i)).take k) = l := by
  induction l with
  | nil => rfl
  | cons d l ih =>
    have hd : d.length = k := h d List.mem_cons_self
    have hrest (i : Nat) : ((d :: l).flatten.drop (k * (i + 1))).take k = (l.flatten.drop (k * i)).take k := by
      rw [List.flatten_cons, Nat.mul_succ, Nat.add_comm, ← List.drop_drop, ← hd, List.drop_left]
    have hfirst : ((d :: l).flatten.drop (k * 0)).take k = d := by rw [List.flatten_cons, Nat.mul_zero, List.drop_zero, ← hd, List.take_left]
    rw [List.length_cons, List.range_succ_eq_map, List.map_cons, List.map_map, hfirst]
    exact congrArg (d :: ·) ((List.map_congr_left fun i _ => hrest i).trans (ih fun x hx => h x (List.mem_cons_of_mem d hx)))

theorem mapM_map_eq_some {α β : Type} {f : α → β} {g : β → Option α} {l : List α} (h : ∀ x ∈ l, g (f x) = some x) :
    (l.map f).mapM g = some l := by
  induction l with
  | nil => rfl
  | cons x l ih =>
    rw [List.map_cons, List.mapM_cons, h x List.mem_cons_self, ih fun y hy => h y (List.mem_cons_of_mem x hy)]
    rfl

theorem mapM_eq_none {α β : Type} {g : β → Option α} {l : List β} (h : ∃ x ∈ l, g x = none) : l.mapM g = none := by
  obtain ⟨x, hx, hnone⟩ := h
  induction l with
  | nil => cases hx
  | cons y l ih =>
    rw [List.mapM_cons]
    rcases List.mem_cons.1 hx with rfl | hin
    · rw [hnone]; rfl
    · rw [ih hin]
      cases g y <;> rfl

/-! ## Step records -/

/-- The operands A and B and the value of a step record (section 11.6). -/
def StepKind.operands : StepKind → Nat × Nat × Nat
  | .setLine o a => (outNum o, if a then 1 else 0, 0)
  | .pulseLine o ms => (outNum o, 0, ms)
  | .waitLine i a => (inNum i, if a then 1 else 0, 0)
  | .waitPower v => (v.num, 0, 0)
  | .waitMatch p => (p, 0, 0)
  | .delay ms => (0, 0, ms)
  | .takeSlot ms => (0, 0, ms)
  | .sendText t => (t, 0, 0)
  | .sendBreak ms => (0, 0, ms)
  | .media l r => (l, if r then 1 else 0, 0)
  | .notify code => (0, 0, code)

/-- The code and the target of an on-fail action (section 11.6). -/
def OnFail.operands : OnFail → Nat × Nat
  | .abort => (0, 0)
  | .goto g => (1, g)

/-- Nine bytes of a step record (section 11.6). -/
def recordBytes (kind a b code target value timeout : Nat) : List Byte :=
  [byteOf kind, byteOf a, byteOf b, byteOf code, byteOf target] ++ le 2 value ++ le 2 timeout

theorem stepRecord_eq (st : PlanStep) : stepRecord st = recordBytes st.kind.num st.kind.operands.1 st.kind.operands.2.1
    st.onFail.operands.1 st.onFail.operands.2 st.kind.operands.2.2 st.timeout := rfl

theorem recordBytes_length (kind a b code target value timeout : Nat) :
    (recordBytes kind a b code target value timeout).length = 9 := rfl

theorem u8_byteOf (v : Nat) : (byteOf v).toNat = v % 256 := BitVec.toNat_ofNat ..

theorem recordBytes_value (kind a b code target value timeout : Nat) :
    u16 (recordBytes kind a b code target value timeout) 5 = value % 65536 :=
  fieldAt_append_le_mod [byteOf kind, byteOf a, byteOf b, byteOf code, byteOf target] (le 2 timeout) 2 value

/-- The fields of a step record are read as they were written, as far as their bytes hold them. -/
theorem stepOf_recordBytes (count kind a b code target value timeout : Nat) :
    stepOf count (recordBytes kind a b code target value timeout) =
      match stepKindOf (kind % 256) (a % 256) (b % 256) (value % 65536), onFailOf count (code % 256) (target % 256) with
      | some k, some f => some { kind := k, timeout := timeout % 65536, onFail := f }
      | _, _ => none := by
  have htimeout : u16 (recordBytes kind a b code target value timeout) 7 = timeout % 65536 := by
    have h := fieldAt_append_le_mod ([byteOf kind, byteOf a, byteOf b, byteOf code, byteOf target] ++ le 2 value) [] 2 timeout
    rwa [List.append_nil] at h
  have hfields : u8 (recordBytes kind a b code target value timeout) 0 = kind % 256 ∧
      u8 (recordBytes kind a b code target value timeout) 1 = a % 256 ∧
      u8 (recordBytes kind a b code target value timeout) 2 = b % 256 ∧
      u8 (recordBytes kind a b code target value timeout) 3 = code % 256 ∧
      u8 (recordBytes kind a b code target value timeout) 4 = target % 256 :=
    ⟨u8_byteOf kind, u8_byteOf a, u8_byteOf b, u8_byteOf code, u8_byteOf target⟩
  obtain ⟨h0, h1, h2, h3, h4⟩ := hfields
  rw [stepOf, h0, h1, h2, h3, h4, recordBytes_value, htimeout] <;> rfl

theorem lineOf_outNum (o : Output) : lineOf (outNum o % 256) = some (.inl o) := by cases o <;> rfl

theorem lineOf_inNum (i : Input) : lineOf (inNum i % 256) = some (.inr i) := by cases i <;> rfl

theorem onOff_ite (b : Bool) : onOff ((if b = true then 1 else 0) % 256) = some b := by cases b <;> rfl

theorem viewOf_num (v : View) : viewOf (v.num % 256) = some v := by cases v <;> rfl

theorem indexOf_mod {k : Nat} (hk : k ≤ 256) (i : Fin k) : indexOf k ((i : Nat) % 256) = some i := by
  rw [Nat.mod_eq_of_lt (i.isLt.trans_le hk), indexOf_val]

theorem lunOf_mod (u : Lun) : lunOf ((u : Nat) % 256) = some u := by
  rw [Nat.mod_eq_of_lt (by omega), lunOf, dif_pos u.isLt]

theorem clamp_of_mem {lo hi v : Nat} (hlo : lo ≤ v) (hhi : v ≤ hi) : clamp lo hi v = v := by
  rw [clamp, if_neg (not_lt.2 hlo), if_neg (not_lt.2 hhi)]

section

variable {count : Nat} {st : PlanStep} (h : stepInRange count st = true)
include h

/-- A step kind in range is read back from its operands, and none of them is moved (R95, R96). -/
theorem stepKindOf_operands : stepKindOf (st.kind.num % 256) (st.kind.operands.1 % 256) (st.kind.operands.2.1 % 256)
      (st.kind.operands.2.2 % 65536) = some st.kind ∧ stepMoved (st.kind.num % 256) (st.kind.operands.2.2 % 65536) = false := by
  obtain ⟨kind, timeout, onFail⟩ := st
  simp only [stepInRange, Bool.and_eq_true, decide_eq_true_eq] at h
  obtain ⟨⟨-, hkind⟩, -⟩ := h
  cases kind with
  | setLine o a => simp [StepKind.operands, StepKind.num, stepKindOf, stepMoved, lineOf_outNum, onOff_ite]
  | pulseLine o ms =>
    simp only [Bool.and_eq_true, decide_eq_true_eq] at hkind
    obtain ⟨hmin, hmax⟩ := hkind
    simp [StepKind.operands, StepKind.num, stepKindOf, stepMoved, lineOf_outNum, Nat.mod_eq_of_lt hmax, hmin]
    omega
  | waitLine i a => simp [StepKind.operands, StepKind.num, stepKindOf, stepMoved, lineOf_inNum, onOff_ite]
  | waitPower v => simp [StepKind.operands, StepKind.num, stepKindOf, stepMoved, viewOf_num]
  | waitMatch p => simp [StepKind.operands, StepKind.num, stepKindOf, stepMoved, indexOf_mod]
  | delay ms => simp [StepKind.operands, StepKind.num, stepKindOf, stepMoved, Nat.mod_eq_of_lt (of_decide_eq_true hkind)]
  | takeSlot ms =>
    simp only [Bool.and_eq_true, decide_eq_true_eq] at hkind
    obtain ⟨hmin, hmax⟩ := hkind
    simp [StepKind.operands, StepKind.num, stepKindOf, stepMoved, Nat.mod_eq_of_lt hmax, hmin]
    omega
  | sendText x => simp [StepKind.operands, StepKind.num, stepKindOf, stepMoved, indexOf_mod]
  | sendBreak ms =>
    simp only [Bool.and_eq_true, decide_eq_true_eq] at hkind
    obtain ⟨hmin, hmax⟩ := hkind
    have hms : ms < 65536 := by omega
    simp [StepKind.operands, StepKind.num, stepKindOf, stepMoved, Nat.mod_eq_of_lt hms, moved_eq, clamp_of_mem hmin hmax]
  | media u r => simp [StepKind.operands, StepKind.num, stepKindOf, stepMoved, lunOf_mod, onOff_ite]
  | notify code => simp [StepKind.operands, StepKind.num, stepKindOf, stepMoved, Nat.mod_eq_of_lt (of_decide_eq_true hkind)]

/-- An on-fail action in range is read back from its operands (R95). -/
theorem onFailOf_operands (hcount : count ≤ 256) :
    onFailOf count (st.onFail.operands.1 % 256) (st.onFail.operands.2 % 256) = some st.onFail := by
  obtain ⟨kind, timeout, onFail⟩ := st
  simp only [stepInRange, Bool.and_eq_true, decide_eq_true_eq] at h
  obtain ⟨-, htarget⟩ := h
  cases onFail with
  | abort => rfl
  | goto g =>
    have hg : g < count := of_decide_eq_true htarget
    simp [OnFail.operands, onFailOf, Nat.mod_eq_of_lt (hg.trans_le hcount), hg]

/-- A step record in range is read as it was written (R95, section 11.6). -/
theorem stepOf_stepRecord (hcount : count ≤ 256) : stepOf count (stepRecord st) = some st := by
  have htimeout : st.timeout < 65536 := by
    simp only [stepInRange, Bool.and_eq_true, decide_eq_true_eq] at h
    exact h.1.1
  rw [stepRecord_eq, stepOf_recordBytes, (stepKindOf_operands h).1, onFailOf_operands h hcount]
  simp only [Nat.mod_eq_of_lt htimeout]

theorem stepMoved_stepRecord : stepMoved (u8 (stepRecord st) 0) (u16 (stepRecord st) 5) = false := by
  rw [stepRecord_eq, recordBytes_value]
  exact (congrArg (stepMoved · _) (u8_byteOf st.kind.num)).trans (stepKindOf_operands h).2

end

/-- A target beyond the plan is refused (R95). -/
theorem stepOf_badTarget {count g : Nat} {st : PlanStep} (h : st.onFail = .goto g) (hbad : count ≤ g) (hg : g < 256) :
    stepOf count (stepRecord st) = none := by
  have hnone : onFailOf count (st.onFail.operands.1 % 256) (st.onFail.operands.2 % 256) = none := by
    rw [h]
    simp [OnFail.operands, onFailOf, Nat.mod_eq_of_lt hg, not_lt.2 hbad]
  rw [stepRecord_eq, stepOf_recordBytes, hnone]
  split <;> trivial

/-! ## PLAN_LOAD -/

theorem executing_iff {s : State} {k : Fin 16} : s.executing k = true ↔ ∃ n r, (s.node n).exec.run = some r ∧ r.plan = k := by
  simp only [State.executing, List.any_eq_true, decide_eq_true_eq, mem_allNodes, true_and, Option.map_eq_some_iff]

theorem val_of_indexOf {k v : Nat} {i : Fin k} (h : indexOf k v = some i) : v = i := by
  rw [indexOf, dif_pos (lt_of_indexOf h)] at h
  rw [← Option.some.inj h]

/-- What a PLAN_LOAD of step records of nine bytes does (R95, R96); `planLoadRequest_blocks` says so. -/
def planLoaded (i prio : Byte) (blocks : List (List Byte)) (s : State) : State × Option Reply :=
  match indexOf 16 i.toNat with
  | none => refused .badArg s
  | some k =>
    if blocks.length = 0 ∨ 16 < blocks.length then refused .badArg s
    else match blocks.mapM (stepOf blocks.length) with
      | none => refused .badArg s
      | some steps =>
        if s.executing k then refused .busy s
        else accepted (moved 1 3 prio.toNat || blocks.any fun d => stepMoved (u8 d 0) (u16 d 5))
          [i, BitVec.ofNat 8 (clamp 1 3 prio.toNat), BitVec.ofNat 8 blocks.length]
          { s with plans := s.plans.set k (some { priority := clamp 1 3 prio.toNat, steps := steps }) }

theorem planLoadRequest_blocks (s : State) (i prio : Byte) {blocks : List (List Byte)} (hb : ∀ d ∈ blocks, d.length = 9)
    (hlen : blocks.length < 256) :
    planLoadRequest ([i, prio, BitVec.ofNat 8 blocks.length] ++ blocks.flatten) s = planLoaded i prio blocks s := by
  have hcount : u8 ([i, prio, BitVec.ofNat 8 blocks.length] ++ blocks.flatten) 2 = blocks.length :=
    (u8_byteOf blocks.length).trans (Nat.mod_eq_of_lt hlen)
  have hblocks : stepBytes ([i, prio, BitVec.ofNat 8 blocks.length] ++ blocks.flatten) blocks.length = blocks := by
    refine Eq.trans (List.map_congr_left fun j _ => ?_) (blocks_of_flatten hb)
    rw [bytesAt, ← List.drop_drop]
    rfl
  have hindex : u8 ([i, prio, BitVec.ofNat 8 blocks.length] ++ blocks.flatten) 0 = i.toNat := rfl
  have hprio : u8 ([i, prio, BitVec.ofNat 8 blocks.length] ++ blocks.flatten) 1 = prio.toNat := rfl
  simp only [planLoadRequest, hcount, hblocks, hindex, hprio, planLoaded]
  cases hk : indexOf 16 i.toNat with
  | none => rfl
  | some k =>
    have hki : byte1 k = [i] := by rw [byte1, byteOf, ← val_of_indexOf hk, BitVec.ofNat_toNat, BitVec.setWidth_eq]
    dsimp only
    rw [hki]
    rfl

section

variable {s : State} {i prio : Byte} {blocks : List (List Byte)} {k : Fin 16} {steps : List PlanStep}

theorem planLoaded_badArg (h : 15 < i.toNat ∨ blocks.length = 0 ∨ 16 < blocks.length ∨ ∃ d ∈ blocks, stepOf blocks.length d = none) :
    planLoaded i prio blocks s = refused .badArg s := by
  unfold planLoaded
  split
  · rfl
  · rename_i k hk
    have hi := lt_of_indexOf hk
    split
    · rfl
    · rename_i hcount
      rcases h with h | h | h | h
      · omega
      · exact (hcount (.inl h)).elim
      · exact (hcount (.inr h)).elim
      · rw [mapM_eq_none h]

/-- A plan whose step records are read is refused while it is executing, and otherwise stored (R93, R96). -/
theorem planLoaded_read (hk : (k : Nat) = i.toNat) (hmin : 1 ≤ blocks.length) (hmax : blocks.length ≤ 16)
    (hsteps : blocks.mapM (stepOf blocks.length) = some steps) : planLoaded i prio blocks s =
      if s.executing k then refused .busy s
      else accepted (moved 1 3 prio.toNat || blocks.any fun d => stepMoved (u8 d 0) (u16 d 5))
        [i, BitVec.ofNat 8 (clamp 1 3 prio.toNat), BitVec.ofNat 8 blocks.length]
        { s with plans := s.plans.set k (some { priority := clamp 1 3 prio.toNat, steps := steps }) } := by
  have hindex : indexOf 16 i.toNat = some k := (congrArg (indexOf 16) hk).symm.trans (indexOf_val k)
  rw [planLoaded, hindex]
  dsimp only
  rw [if_neg (by omega), hsteps]

theorem not_executing (h : ∀ n r, (s.node n).exec.run = some r → r.plan ≠ k) : (heard s).executing k = false := by
  rw [Bool.eq_false_iff]
  intro hex
  obtain ⟨n, r, hr, hk⟩ := executing_iff.1 hex
  exact h n r hr hk

/-- PLAN_LOAD of the length its count asks for (R196). -/
theorem exec_planLoad (h : Ready s) (tag : Byte) (hb : ∀ d ∈ blocks, d.length = 9) (hlen : blocks.length ≤ 66) :
    exec (.planLoad tag ([i, prio, BitVec.ofNat 8 blocks.length] ++ blocks.flatten)) s =
      .next (replyTo 0x28 tag (planLoaded i prio blocks (heard s))) := by
  have hflat : blocks.flatten.length = 9 * blocks.length := by
    rw [List.length_flatten, List.map_congr_left hb, List.map_const', List.sum_replicate, smul_eq_mul, Nat.mul_comm]
  have hcount : u8 ([i, prio, BitVec.ofNat 8 blocks.length] ++ blocks.flatten) 2 = blocks.length :=
    (u8_byteOf blocks.length).trans (Nat.mod_eq_of_lt (by omega))
  have hall : ([i, prio, BitVec.ofNat 8 blocks.length] ++ blocks.flatten).length = 3 + 9 * blocks.length := by
    rw [List.length_append, hflat]
    rfl
  rw [← planLoadRequest_blocks _ _ _ hb (by omega)]
  refine live_request (k := 0x28) tag h (by decide) (by omega) ?_
  change some (decide _ && _ == 3 + 9 * u8 _ 2) = some true
  rw [hcount, hall]
  simp

end

/-- Settles O45: step records are read as they were written, and the slot count is set while no slot is asked for. -/
theorem plansAreLoaded : Obligations.PlansAreLoaded := by
  refine ⟨fun s tag i prio steps h hlen => ?_, fun s tag k o timeout h ht hfree => ?_, fun s tag v h => ?_⟩
  · have hcount : (steps.map stepRecord).length = steps.length := List.length_map ..
    have hb : ∀ d ∈ steps.map stepRecord, d.length = 9 := fun d hd => by
      obtain ⟨st, -, rfl⟩ := List.mem_map.1 hd
      rfl
    have hrun := exec_planLoad (i := i) (prio := prio) h tag hb (by omega)
    rw [hcount] at hrun
    refine ⟨fun hbad => ?_, fun k hk hmin hmax => ⟨fun htarget => ?_, fun hin => ?_⟩⟩
    · rw [hrun, planLoaded_badArg (by rw [hcount]; tauto), replyTo_refused]
    · obtain ⟨st, hst, g, hg, hbad, hbyte⟩ := htarget
      have hnone := stepOf_badTarget hg hbad hbyte
      rw [hrun, planLoaded_badArg (.inr (.inr (.inr ⟨_, List.mem_map_of_mem hst, hcount.symm ▸ hnone⟩))), replyTo_refused]
    · have hread : (steps.map stepRecord).mapM (stepOf (steps.map stepRecord).length) = some steps :=
        hcount.symm ▸ mapM_map_eq_some fun st hst => stepOf_stepRecord (hin st hst) (by omega)
      have hkept : ((steps.map stepRecord).any fun d => stepMoved (u8 d 0) (u16 d 5)) = false := by
        rw [List.any_map, List.any_eq_false]
        exact fun st hst => by simp [stepMoved_stepRecord (hin st hst)]
      rw [planLoaded_read hk (by omega) (by omega) hread, hkept, Bool.or_false, hcount, moved_eq] at hrun
      refine ⟨fun hbusy => ?_, fun hfree => ?_⟩
      · exact hrun.trans (by rw [if_pos (executing_iff (s := heard s) |>.2 hbusy), replyTo_refused])
      · refine hrun.trans ?_
        rw [not_executing hfree, if_neg Bool.false_ne_true, replyTo_accepted]
        rfl
  · have hone : stepOf 1 (recordBytes 2 (outIdx o) 0 0 0 0 timeout) =
        some { kind := .pulseLine o 1, timeout := timeout, onFail := .abort } := by
      rw [stepOf_recordBytes, Nat.mod_eq_of_lt ht]
      cases o <;> rfl
    have hrun := exec_planLoad (i := BitVec.ofNat 8 k) (prio := 1) (blocks := [recordBytes 2 (outIdx o) 0 0 0 0 timeout]) h tag
      (by simp [recordBytes_length]) (by simp)
    have hread : [recordBytes 2 (outIdx o) 0 0 0 0 timeout].mapM (stepOf 1) =
        some [{ kind := .pulseLine o 1, timeout := timeout, onFail := .abort }] := by
      rw [List.mapM_cons, hone]
      rfl
    have hmoved : stepMoved (u8 (recordBytes 2 (outIdx o) 0 0 0 0 timeout) 0) (u16 (recordBytes 2 (outIdx o) 0 0 0 0 timeout) 5) = true := rfl
    rw [planLoaded_read (k := k) (blocks := [recordBytes 2 (outIdx o) 0 0 0 0 timeout]) (by simp; omega) (by simp) (by simp) hread, not_executing hfree, if_neg Bool.false_ne_true, List.any_cons, hmoved,
      Bool.true_or, Bool.or_true, replyTo_accepted] at hrun
    refine Eq.trans (congrArg (exec · s) ?_) hrun
    simp [recordBytes, byteOf, le]
  · have hrun : exec (.inrushConfig tag [v]) s = .next (replyTo 0x2C tag (inrushConfigRequest [v] (heard s))) :=
      live_request (k := 0x2C) tag h (by decide) (by simp) rfl
    refine ⟨fun hheld => ?_, fun hholds hwaiting => ?_⟩
    · rw [hrun, inrushConfigRequest, if_pos (by exact hheld), replyTo_refused]
    · have hnone : ¬((heard s).arbiter.holds ≠ [] ∨ (heard s).arbiter.waiting ≠ []) := not_or.2 ⟨not_not.2 hholds, not_not.2 hwaiting⟩
      refine hrun.trans ?_
      rw [inrushConfigRequest, if_neg hnone]
      dsimp only
      rw [replyTo_accepted, moved_eq]
      rfl

end Sys2Proof.Machine

/-! # Steps expire -/

namespace Sys2Proof.Machine

open Sys2Proof

variable {s : State} {n : Node} {r : Run}

/-! ## The lines leave the arbiter alone -/

theorem arbiter_of_still {s t : State} (h : t.still = s.still) : t.arbiter = s.arbiter := (undisturbed_of_still h).arbiter

@[simp] theorem latch_arbiter (src : Source) (d : Nat) (s : State) : (latch src d s).arbiter = s.arbiter :=
  arbiter_of_still (still_latch ..)

@[simp] theorem appendMarker_arbiter (n : Node) (code detail : Nat) (s : State) : (appendMarker n code detail s).arbiter = s.arbiter :=
  (undisturbed_appendMarker n code detail s).arbiter

@[simp] theorem disconnect_arbiter (n : Node) (s : State) : (disconnect n s).arbiter = s.arbiter := by
  rw [disconnect, arbiter_of_still (still_portChange ..), updPort_arbiter, arbiter_of_still (still_clearContext ..), updPort_arbiter]

@[simp] theorem startConnect_arbiter (n : Node) (s : State) : (startConnect n s).arbiter = s.arbiter := by
  unfold startConnect
  split
  · exact (arbiter_of_still (still_portChange n .connected (s.updPort n fun p => p.fresh .defaulted))).trans rfl
  · rfl

@[simp] theorem connectTest_arbiter (n : Node) (s : State) : (connectTest n s).arbiter = s.arbiter := by
  unfold connectTest
  dsimp only
  split
  · split <;> simp
  · split
    · split <;> rfl
    · split
      · exact startConnect_arbiter n s
      · rfl

@[simp] theorem viewMarker_arbiter (n : Node) (old new : View) (s : State) : (viewMarker n old new s).arbiter = s.arbiter := by
  unfold viewMarker
  split
  · exact appendMarker_arbiter ..
  · split
    · exact appendMarker_arbiter ..
    · rfl

@[simp] theorem recomputeView_arbiter (n : Node) (s : State) : (recomputeView n s).arbiter = s.arbiter := by
  unfold recomputeView deliverView
  dsimp only
  split
  · rfl
  · rw [latch_arbiter, connectTest_arbiter]
    split
    · exact viewMarker_arbiter ..
    · exact viewMarker_arbiter ..

@[simp] theorem driveLine_arbiter (n : Node) (o : Output) (active : Bool) (pulse : Option Pulse) (s : State) :
    (driveLine n o active pulse s).arbiter = s.arbiter := by
  unfold driveLine
  dsimp only
  split
  · exact recomputeView_arbiter ..
  · rfl

theorem releaseTouched_arbiter (n : Node) (touched : Vector Bool 4) (s : State) : (releaseTouched n touched s).arbiter = s.arbiter := by
  refine foldl_keeps (f := releaseOne n touched) (P := fun t => t.arbiter = s.arbiter) (fun t o ht => ?_) allOutputs rfl
  unfold releaseOne
  split
  · exact (driveLine_arbiter ..).trans ht
  · exact ht

/-- An execution that ends takes its node off the inrush waiting list (R113, R116). -/
theorem endExec_arbiter (hr : (s.node n).exec.run = some r) (result : PlanResult) (step : Nat) :
    (endExec n result step s).arbiter = { s.arbiter with waiting := s.arbiter.waiting.filter fun w => decide (w.node ≠ n) } := by
  rw [endExec_eq hr, updExec_arbiter, latch_arbiter, appendMarker_arbiter, endingState]
  dsimp only
  split
  · rfl
  · exact releaseTouched_arbiter ..

/-! ## The state in which a timer expires -/

/-- A state in which an expiry is carried out: it is due no longer (R14). -/
def State.fired (s : State) (t : Timer) : State := { s with due := s.due.erase t }

theorem live_fired {t : Timer} (hporst : s.porst = false) (h : s.isDue t = true) :
    live (fire t) s = .next (onExpiry t (s.fired t)) := live_fire_of_due hporst h

/-- A node has left the inrush waiting list (R116). -/
def State.leftInrush (s : State) (n : Node) : State :=
  s.updArbiter fun a => { a with waiting := a.waiting.filter fun w => decide (w.node ≠ n) }

/-- The slot of an expired hold has passed to a waiting node (R117). -/
def State.slotPassed (s : State) (n : Node) (w : SlotWaiter) (ws : List SlotWaiter) : State :=
  s.updArbiter fun a =>
    { a with holds := a.holds.eraseP (fun h => h.over s n) ++ [{ node := w.node, start := s.timebase, ms := w.hold }], waiting := ws }

/-! ## Steps that complete and steps that fail -/

/-- A step past the budget ends the execution (R98). -/
theorem runFrom_limit (hr : (s.node n).exec.run = some r) (hb : 64 ≤ r.started) (k idx : Nat) :
    runFrom (k + 1) n idx s = endExec n .loopLimit idx s := by
  simp only [runFrom, hr]
  exact if_pos hb

/-- The last step completes (R99). -/
theorem completeStep_last (hr : (s.node n).exec.run = some r) (hlast : (s.planSteps r.plan).length = r.step + 1) :
    completeStep n s = endExec n .ok r.step s := by
  simp only [completeStep, hr]
  exact if_neg (by omega)

/-- A step completes before a DELAY (R99, R107). -/
theorem completeStep_delay (hr : (s.node n).exec.run = some r) (hb : r.started < 64) {next : PlanStep} {ms : Nat}
    (hnext : (s.planSteps r.plan)[r.step + 1]? = some next) (hk : next.kind = .delay ms) (hms : 0 < ms) :
    completeStep n s = s.updExec n fun e =>
      { e with run := some { r with state := .delaying, step := r.step + 1, stepStart := s.timebase, started := r.started + 1 } } := by
  obtain ⟨hlt, -⟩ := List.getElem?_eq_some_iff.1 hnext
  simp only [completeStep, hr]
  exact (if_pos hlt).trans (runFrom_delay hr hb hnext 64 hk hms)

section

variable {st : PlanStep} (hr : (s.node n).exec.run = some r) (hst : s.currentStep n = some st)
include hr hst

theorem failStep_abort (hf : st.onFail = .abort) : failStep n s = endExec n .failed r.step (s.leftInrush n) := by
  simp only [failStep, hr, hst, hf, State.leftInrush]

theorem failStep_goto {g : Nat} (hf : st.onFail = .goto g) : failStep n s = runFrom (64 + 1) n g (s.leftInrush n) := by
  simp only [failStep, hr, hst, hf]
  rfl

end

/-! ## A hold that expires -/

/-- The hold that expires is the first of its node's that has run its time (R115, R117). -/
theorem eraseP_hold (h : s.isDue (.slotHold n) = true) : ∃ a x b, s.arbiter.holds = a ++ x :: b ∧ x.node = n ∧
    x.ms ≤ s.elapsed x.start ∧ s.arbiter.holds.eraseP (fun h => h.over s n) = a ++ b := by
  simp only [State.isDue, Bool.and_eq_true, expired, List.any_eq_true] at h
  obtain ⟨-, x, hx, hover⟩ := h
  obtain ⟨x, a, b, -, hx, hsplit, hleft⟩ := List.exists_of_eraseP (p := fun h => h.over s n) hx hover
  simp only [Hold.over, Bool.and_eq_true, decide_eq_true_eq] at hx
  exact ⟨a, x, b, hsplit, hx.1, hx.2, hleft⟩

/-- Without a waiting node a slot becomes free (R117). -/
theorem holdExpires_free (h : s.arbiter.waiting = []) :
    holdExpires n s = s.updArbiter fun a => { a with holds := a.holds.eraseP fun h => h.over s n } := by
  simp only [holdExpires, State.updArbiter, h]

/-- A slot passes to the node that has waited longest, whose step completes (R117). -/
theorem holdExpires_passes {w : SlotWaiter} {ws : List SlotWaiter} (h : s.arbiter.waiting = w :: ws) :
    holdExpires n s = completeStep w.node (s.slotPassed n w ws) := by
  simp only [holdExpires, State.slotPassed, State.updArbiter, h]

/-- Settles O47: a timeout is `failStep`, a delay `completeStep`, and a hold passes to the node at the head of the list. -/
theorem stepsExpire : Obligations.StepsExpire := by
  refine ⟨fun s n hporst => ⟨live_fire_of_not_due hporst, live_fire_of_not_due hporst, live_fire_of_not_due hporst⟩,
    fun s n r st hporst hdue hr hst => ⟨fun hf => ?_, fun g hf => ⟨fun hb => ?_, fun next ms hb hnext hk hms => ?_⟩⟩,
    fun s n r hporst hdue hr => ⟨fun hlast => ?_, fun next ms hb hnext hk hms => ?_⟩, fun s n hporst hdue => ?_⟩
  · have hrun : exec (.stepTimeout n) s = _ := live_fired hporst hdue
    rw [onExpiry, failStep_abort (s := s.fired (.step n)) hr hst hf] at hrun
    refine ⟨_, hrun, endExec_exec (s := (s.fired (.step n)).leftInrush n) hr .failed r.step, ?_, fun o ho => ?_⟩
    · rw [endExec_arbiter (s := (s.fired (.step n)).leftInrush n) hr]
      simp only [State.leftInrush, State.updArbiter, List.filter_filter, Bool.and_self]
      rfl
    · rw [endExec_output (s := (s.fired (.step n)).leftInrush n) hr, if_pos ⟨by decide, ho⟩]
      exact ⟨rfl, rfl⟩
  · have hrun : exec (.stepTimeout n) s = _ := live_fired hporst hdue
    rw [onExpiry, failStep_goto (s := s.fired (.step n)) hr hst hf, runFrom_limit (s := (s.fired (.step n)).leftInrush n) hr hb] at hrun
    exact ⟨_, hrun, endExec_exec (s := (s.fired (.step n)).leftInrush n) hr .loopLimit g⟩
  · have hrun : exec (.stepTimeout n) s = _ := live_fired hporst hdue
    rw [onExpiry, failStep_goto (s := s.fired (.step n)) hr hst hf,
      runFrom_delay (s := (s.fired (.step n)).leftInrush n) hr hb hnext 64 hk hms] at hrun
    refine ⟨_, hrun, ?_, ?_⟩
    · rw [updExec_node_self]
      rfl
    · rw [updExec_node_self]
      rfl
  · have hrun : exec (.delayExpiry n) s = _ := live_fired hporst hdue
    rw [onExpiry, completeStep_last (s := s.fired (.delay n)) hr hlast] at hrun
    refine ⟨_, hrun, endExec_exec (s := s.fired (.delay n)) hr .ok r.step, fun o => ?_⟩
    rw [endExec_output (s := s.fired (.delay n)) hr, if_neg fun h => h.1 rfl]
    rfl
  · have hrun : exec (.delayExpiry n) s = _ := live_fired hporst hdue
    rw [onExpiry, completeStep_delay (s := s.fired (.delay n)) hr hb hnext hk hms] at hrun
    exact hrun
  · have hrun : exec (.slotHoldExpiry n) s = _ := live_fired hporst hdue
    obtain ⟨a, x, b, hsplit, hnode, hover, hleft⟩ := eraseP_hold hdue
    refine ⟨a, x, b, hsplit, hnode, hover, fun hwait => ?_, fun w ws r hwait hothers hr hlast => ?_⟩
    · rw [onExpiry, holdExpires_free (s := s.fired (.slotHold n)) hwait] at hrun
      refine hrun.trans ?_
      rw [← hleft]
      rfl
    · rw [onExpiry, holdExpires_passes (s := s.fired (.slotHold n)) hwait,
        completeStep_last (s := (s.fired (.slotHold n)).slotPassed n w ws) hr hlast] at hrun
      refine ⟨_, hrun, ?_, endExec_exec (s := (s.fired (.slotHold n)).slotPassed n w ws) hr .ok r.step⟩
      have hkeep : ws.filter (fun v => decide (v.node ≠ w.node)) = ws := List.filter_eq_self.2 fun v hv => decide_eq_true (hothers v hv)
      rw [endExec_arbiter (s := (s.fired (.slotHold n)).slotPassed n w ws) hr]
      simp only [State.slotPassed, State.updArbiter, hkeep]
      rw [← hleft]
      rfl

end Sys2Proof.Machine

/-! # What the ports and the drives leave alone -/

namespace Sys2Proof.Machine

open Sys2Proof

variable {s t : State}

/-- A column without its history, its port, its command context and its drives. -/
def NodeState.base (c : NodeState) : NodeState :=
  { NodeState.reset false false with rx := c.rx, tx := c.tx, patterns := c.patterns, window := c.window, lines := c.lines, exec := c.exec }

/-- What a port that connects or disconnects and a drive that gains or loses its image leave alone. -/
def State.base (s : State) : State := { s.still with nodes := s.nodes.map NodeState.base }

theorem base_of_still (h : t.still = s.still) : t.base = s.base := by
  have hbase (x : State) : x.base = { x.still with nodes := x.still.nodes.map NodeState.base } := by
    simp only [State.base, State.still, Vector.map_map]
    rfl
  rw [hbase, hbase, h]

theorem base_updNode (s : State) (n : Node) (f : NodeState → NodeState) (h : (f (s.node n)).base = (s.node n).base) :
    (s.updNode n f).base = s.base := by
  have hnodes : (s.updNode n f).nodes.map NodeState.base = s.nodes.map NodeState.base := by
    refine Vector.ext fun i hi => ?_
    by_cases e : (n : Nat) = i
    · subst e
      simpa [State.updNode, State.node] using h
    · simp [State.updNode, Vector.getElem_set_ne, e]
  exact congrArg (fun v => { s.still with nodes := v }) hnodes

@[simp] theorem base_updPort (s : State) (n : Node) (f : Port → Port) : (s.updPort n f).base = s.base := base_updNode s n _ rfl

@[simp] theorem base_updDrive (s : State) (n : Node) (u : Lun) (f : Drive → Drive) : (s.updDrive n u f).base = s.base :=
  base_updNode s n _ rfl

/-- What two states agree on whose ports and drives alone differ. -/
structure Aligned (s t : State) : Prop where
  rx : ∀ n, (t.node n).rx = (s.node n).rx
  tx : ∀ n, (t.node n).tx = (s.node n).tx
  patterns : ∀ n, (t.node n).patterns = (s.node n).patterns
  window : ∀ n, (t.node n).window = (s.node n).window
  lines : ∀ n, (t.node n).lines = (s.node n).lines
  exec : ∀ n, (t.node n).exec = (s.node n).exec
  plans : t.plans = s.plans
  arbiter : t.arbiter = s.arbiter

theorem aligned_of_base (h : t.base = s.base) : Aligned s t := by
  have hnode (n : Node) : (t.node n).base = (s.node n).base := by
    have e := congrArg (fun x : State => x.nodes[n]) h
    simp only [State.base, Fin.getElem_fin, Vector.getElem_map] at e
    exact e
  exact ⟨fun n => congrArg (·.rx) (hnode n), fun n => congrArg (·.tx) (hnode n), fun n => congrArg (·.patterns) (hnode n),
    fun n => congrArg (·.window) (hnode n), fun n => congrArg (·.lines) (hnode n), fun n => congrArg (·.exec) (hnode n),
    congrArg (·.plans) h, congrArg (·.arbiter) h⟩

theorem aligned_of_still (h : t.still = s.still) : Aligned s t := aligned_of_base (base_of_still h)

/-! ## Connecting, inserting and ejecting -/

theorem base_disconnect (n : Node) (s : State) : (disconnect n s).base = s.base := by
  rw [disconnect, base_of_still (still_portChange ..), base_updPort, base_of_still (still_clearContext ..), base_updPort]

theorem base_startConnect (n : Node) (s : State) : (startConnect n s).base = s.base := by
  unfold startConnect attach
  split
  · rw [base_of_still (still_portChange ..), base_updPort]
  · rw [base_updPort]

theorem base_connectTest (n : Node) (s : State) : (connectTest n s).base = s.base := by
  unfold connectTest
  dsimp only
  split
  · split
    · rfl
    · exact base_disconnect n s
  · split
    · split
      · rfl
      · exact base_updPort ..
    · split
      · exact base_startConnect n s
      · exact base_updPort ..

theorem base_ejectSteps (n : Node) (u : Lun) (s : State) : (ejectSteps n u s).base = s.base := by
  rw [ejectSteps, base_of_still (still_cacheEject ..), base_of_still (still_ejectCommand ..), base_updDrive]

theorem base_ejectOp (n : Node) (u : Lun) (s : State) : (ejectOp n u s).base = s.base := by
  unfold ejectOp
  split
  · rw [base_connectTest, base_ejectSteps]
  · rfl

theorem base_insertOp (n : Node) (u : Lun) (i : Image) (s : State) : (insertOp n u i s).base = s.base := by
  unfold insertOp
  dsimp only
  rw [base_connectTest, base_updDrive]
  split
  · exact base_ejectSteps n u s
  · rfl

/-! ## The pattern records -/

section

variable (n : Node) (s : State) (m : Node)

@[simp] theorem closeOpen_patterns (f : RecFlags) : ((closeOpen n f s).node m).patterns = (s.node m).patterns := by
  rw [(aligned_of_still (still_closeOpen n f s)).patterns, updRx_patterns]

@[simp] theorem appendMarker_patterns (code detail : Nat) : ((appendMarker n code detail s).node m).patterns = (s.node m).patterns := by
  rw [appendMarker_eq, (aligned_of_still (still_appendRec ..)).patterns, closeOpen_patterns]

@[simp] theorem viewMarker_patterns (old new : View) : ((viewMarker n old new s).node m).patterns = (s.node m).patterns := by
  unfold viewMarker
  split
  · exact appendMarker_patterns ..
  · split
    · exact appendMarker_patterns ..
    · rfl

@[simp] theorem goDark_patterns : ((goDark n s).node m).patterns = (s.node m).patterns := by
  rw [goDark, updNode_node]
  split
  · subst_vars
    rfl
  · rfl

@[simp] theorem recomputeView_patterns : ((recomputeView n s).node m).patterns = (s.node m).patterns := by
  unfold recomputeView deliverView
  dsimp only
  split
  · rfl
  · rw [latch_node, (aligned_of_base (base_connectTest ..)).patterns]
    split
    · simp
    · simp

@[simp] theorem driveLine_patterns (o : Output) (active : Bool) (pulse : Option Pulse) :
    ((driveLine n o active pulse s).node m).patterns = (s.node m).patterns := by
  unfold driveLine cutChanged
  dsimp only
  split <;> simp

theorem releaseTouched_patterns (touched : Vector Bool 4) :
    ((releaseTouched n touched s).node m).patterns = (s.node m).patterns := by
  refine foldl_keeps (f := releaseOne n touched) (P := fun t => (t.node m).patterns = (s.node m).patterns) (fun t o ht => ?_) allOutputs rfl
  unfold releaseOne
  split
  · exact (driveLine_patterns ..).trans ht
  · exact ht

@[simp] theorem endExec_patterns (result : PlanResult) (step : Nat) :
    ((endExec n result step s).node m).patterns = (s.node m).patterns := by
  cases hr : (s.node n).exec.run with
  | none => simp only [endExec, hr]
  | some r =>
    rw [endExec_eq hr, updExec_patterns, latch_node, appendMarker_patterns]
    unfold endingState
    dsimp only
    split
    · rfl
    · exact releaseTouched_patterns ..

theorem sendStep_patterns (items : List TxItem) : ((sendStep n items s).2.node m).patterns = (s.node m).patterns := by
  unfold sendStep enterState appendItems
  split
  · rfl
  · split <;> simp

theorem takeSlotStep_patterns (ms : Nat) : ((takeSlotStep n ms s).2.node m).patterns = (s.node m).patterns := by
  unfold takeSlotStep enterState
  split
  · rfl
  · rw [updRun_patterns]
    rfl

/-- No step of a plan acts on the pattern records (R102 to R109). -/
theorem doStep_patterns (k : StepKind) : ((doStep n k s).2.node m).patterns = (s.node m).patterns := by
  cases k with
  | setLine o a => simp [doStep, touch, setLine]
  | pulseLine o ms => simp [doStep, enterState, touch, pulseLine]
  | waitLine i a => unfold doStep enterState; dsimp only; split <;> simp
  | waitPower v => unfold doStep enterState; dsimp only; split <;> simp
  | waitMatch i => simp [doStep, enterState]
  | delay ms => unfold doStep enterState; dsimp only; split <;> simp
  | takeSlot ms => exact takeSlotStep_patterns ..
  | sendText x => exact sendStep_patterns ..
  | sendBreak ms => exact sendStep_patterns ..
  | media u r =>
    unfold doStep mediaStep
    dsimp only
    split
    · split
      · rfl
      · exact (aligned_of_base (base_insertOp ..)).patterns m
    · exact (aligned_of_base (base_ejectOp ..)).patterns m
  | notify code => simp [doStep]

theorem runFrom_patterns (k idx : Nat) : ((runFrom k n idx s).node m).patterns = (s.node m).patterns := by
  induction k generalizing idx s with
  | zero => rfl
  | succ k ih =>
    unfold runFrom
    split
    · rfl
    · split
      · exact endExec_patterns ..
      · split
        · exact endExec_patterns ..
        · rename_i st hst
          dsimp only
          have hdo := doStep_patterns n (s.updRun n fun r => r.begins idx s.timebase) m st.kind
          rw [updRun_patterns] at hdo
          simp only [Run.begins] at hdo
          split
          · rename_i t e
            rw [e] at hdo
            exact hdo
          · rename_i t e
            rw [e] at hdo
            split
            · exact (ih ..).trans hdo
            · exact (endExec_patterns ..).trans hdo
          · rename_i t e
            rw [e] at hdo
            split
            · exact (endExec_patterns ..).trans hdo
            · exact (ih ..).trans hdo

theorem startExec_patterns (plan : Fin 16) (priority : Nat) (origin : Origin) :
    ((startExec n plan priority origin s).node m).patterns = (s.node m).patterns := by
  simp only [startExec, runFrom_patterns, appendMarker_patterns, updExec_patterns]

end

end Sys2Proof.Machine

/-! # Hits on the match window -/

namespace Sys2Proof.Machine

open Sys2Proof

/-! ## The test of a record -/

theorem byteMatches_iff (fold : Bool) (a b : Byte) : byteMatches fold a b = true ↔
    a = b ∨ (fold = true ∧ isLetter a = true ∧ isLetter b = true ∧ a ^^^ b = 0x20) := by
  simp only [byteMatches, Bool.or_eq_true, Bool.and_eq_true, beq_iff_eq, and_assoc]

/-- The bytes of a record against as many of the window, place by place. -/
theorem all_places_iff (p : Pattern) (tail : List Byte) :
    ((p.bytes.zip tail).zipIdx.all fun x => p.wild.getLsbD x.2 || byteMatches p.fold x.1.1 x.1.2) = true ↔
      ∀ j b c, p.bytes[j]? = some b → tail[j]? = some c →
        p.wild.getLsbD j = true ∨ b = c ∨ (p.fold = true ∧ isLetter b = true ∧ isLetter c = true ∧ b ^^^ c = 0x20) := by
  simp only [List.all_eq_true, Bool.or_eq_true, byteMatches_iff]
  constructor
  · intro h j b c hb hc
    exact h ((b, c), j) (List.mem_zipIdx_iff_getElem?.2 (List.getElem?_zip_eq_some.2 ⟨hb, hc⟩))
  · intro h x hx
    obtain ⟨hb, hc⟩ := List.getElem?_zip_eq_some.1 (List.mem_zipIdx_iff_getElem?.1 hx)
    exact h x.2 x.1.1 x.1.2 hb hc

/-- When a record hits on a window (R73). -/
theorem hitsOn_iff (p : Pattern) (w : List Byte) : p.hitsOn w = true ↔
    ∃ before tail, w = before ++ tail ∧ tail.length = p.bytes.length ∧ ∀ j b c, p.bytes[j]? = some b → tail[j]? = some c →
      p.wild.getLsbD j = true ∨ b = c ∨ (p.fold = true ∧ isLetter b = true ∧ isLetter c = true ∧ b ^^^ c = 0x20) := by
  rw [Pattern.hitsOn, Bool.and_eq_true, decide_eq_true_eq, all_places_iff]
  constructor
  · rintro ⟨hlen, h⟩
    exact ⟨_, _, (List.take_append_drop (w.length - p.bytes.length) w).symm, by rw [List.length_drop]; omega, h⟩
  · rintro ⟨before, tail, rfl, hlen, h⟩
    have htail : (before ++ tail).drop ((before ++ tail).length - p.bytes.length) = tail :=
      List.drop_left' (by rw [List.length_append]; omega)
    rw [htail]
    exact ⟨by rw [List.length_append]; omega, h⟩

/-! ## The hits of a byte -/

/-- The one element of a list on which a function has a value. -/
theorem filterMap_of_unique {α β : Type} {f : α → Option β} {l : List α} {i : α} {x : β} (hn : l.Nodup) (hi : i ∈ l)
    (hf : f i = some x) (ho : ∀ j, j ≠ i → f j = none) : l.filterMap f = [x] := by
  obtain ⟨a, b, rfl⟩ := List.append_of_mem hi
  have hnot : i ∉ a ++ b := (List.nodup_middle.1 hn).notMem
  have hnone (c : List α) (hc : i ∉ c) : c.filterMap f = [] :=
    List.filterMap_eq_nil_iff.2 fun j hj => ho j fun e => hc (e ▸ hj)
  rw [List.filterMap_append, List.filterMap_cons_some hf, hnone a fun h => hnot (List.mem_append_left b h),
    hnone b fun h => hnot (List.mem_append_right a h), List.nil_append]

section

variable {s : State} {n : Node} {i : Fin 8} {q : Pattern}

theorem hitOf_unset (h : (s.node n).patterns[i] = none) : hitOf s n i = none := by simp only [hitOf, h]

theorem hitOf_unhit (hq : (s.node n).patterns[i] = some q)
    (h : (q.armed = false ∧ s.waitsOnPattern n i = false) ∨ q.hitsOn (s.node n).window = false) : hitOf s n i = none := by
  simp only [hitOf, hq]
  rcases h with ⟨ha, hw⟩ | h
  · rw [ha, hw]
    rfl
  · rw [h, Bool.and_false]
    rfl

theorem hitOf_hit (hq : (s.node n).patterns[i] = some q) (ht : (q.armed || s.waitsOnPattern n i) = true)
    (h : q.hitsOn (s.node n).window = true) :
    hitOf s n i = some { index := i, armed := q.armed, waited := s.waitsOnPattern n i } := by
  simp only [hitOf, hq, ht, h]
  rfl

/-- Where no record hits nothing follows the test (R73). -/
theorem testWindow_none (h : ∀ i, hitOf s n i = none) : testWindow n s = s := by
  rw [testWindow, List.filterMap_eq_nil_iff.2 fun i _ => h i]
  rfl

/-- A single hit is handled by itself (R74). -/
theorem testWindow_single (hq : (s.node n).patterns[i] = some q) (ho : ∀ j, j ≠ i → (s.node n).patterns[j] = none)
    (ht : (q.armed || s.waitsOnPattern n i) = true) (h : q.hitsOn (s.node n).window = true) :
    testWindow n s = (handleHit n (true, s) { index := i, armed := q.armed, waited := s.waitsOnPattern n i }).2 := by
  rw [testWindow, filterMap_of_unique (List.nodup_finRange 8) (List.mem_finRange i) (hitOf_hit hq ht h) fun j hj => hitOf_unset (ho j hj)]
  rfl

/-! ## The orders of an armed record -/

/-- A pattern record is changed where it stands. -/
theorem updPattern_patterns (hq : (s.node n).patterns[i] = some q) (f : Pattern → Pattern) :
    ((s.updPattern n i f).node n).patterns = (s.node n).patterns.set i (some (f q)) := by
  rw [State.updPattern, updNode_node_self, hq]
  rfl

theorem offerStart_patterns {plan : Fin 16} {origin : Origin} {t : State} {pre : Option (Fin 16)}
    (h : offerStart n plan origin s = .started t pre) (m : Node) : (t.node m).patterns = (s.node m).patterns := by
  unfold offerStart at h
  split at h
  · cases h
  · split at h
    · cases h
    · split at h
      · obtain ⟨ht, -⟩ := StartOutcome.started.inj h
        rw [← ht, startExec_patterns]
      · split at h
        · obtain ⟨ht, -⟩ := StartOutcome.started.inj h
          rw [← ht, startExec_patterns, endExec_patterns]
        · cases h

/-- The action of a hit leaves the pattern records alone (R75). -/
theorem hitAction_patterns (a : PatAction) (s : State) : ((hitAction n i a s).2.node n).patterns = (s.node n).patterns := by
  cases a with
  | none => rfl
  | event => exact congrArg NodeState.patterns (latch_node ..)
  | startPlan plan =>
    unfold hitAction offerPlan
    dsimp only
    split
    · rename_i t pre h
      rw [offerStart_patterns h, latch_node]
    · rw [latch_node, latch_node]

/-- A record after a hit (R75). -/
def Pattern.hit (q : Pattern) : Pattern := { q with hits := min 65535 (q.hits + 1) }

/-- The state in which the action of an armed record's hit is carried out (R75). -/
def State.hitCounted (s : State) (n : Node) (i : Fin 8) : State := s.updPattern n i Pattern.hit

/-- An armed record's hit is counted, its action is carried out, and it disarms unless it repeats (R75). -/
theorem armedHit_eq (hq : (s.node n).patterns[i] = some q) : (armedHit n i s).2 =
    if q.rep = true then (hitAction n i q.action (s.hitCounted n i)).2
    else (hitAction n i q.action (s.hitCounted n i)).2.updPattern n i fun p => { p with armed := false } := by
  simp only [armedHit, hq]
  rfl

theorem armedHit_patterns (hq : (s.node n).patterns[i] = some q) (ha : q.armed = true) : ((armedHit n i s).2.node n).patterns =
    (s.node n).patterns.set i (some { q with hits := min 65535 (q.hits + 1), armed := q.rep }) := by
  have hcounted := (hitAction_patterns (i := i) q.action (s.hitCounted n i)).trans (updPattern_patterns hq Pattern.hit)
  rw [armedHit_eq hq]
  split
  · rename_i hrep
    rw [hcounted, Pattern.hit, hrep, ← ha]
  · rename_i hrep
    rw [updPattern_patterns (q := q.hit) (by rw [hcounted]; simp), hcounted, Vector.set_set, Bool.eq_false_iff.2 hrep,
      Pattern.hit, Bool.eq_false_iff.2 hrep]

/-- Beside its record a hit leaves what its action leaves (R75). -/
theorem armedHit_rest (hq : (s.node n).patterns[i] = some q) {r : State} (hr : (hitAction n i q.action (s.hitCounted n i)).2 = r) :
    (armedHit n i s).2.events = r.events ∧ ((armedHit n i s).2.node n).window = (r.node n).window ∧
      ((armedHit n i s).2.node n).exec = (r.node n).exec := by
  rw [armedHit_eq hq, hr]
  split
  · exact ⟨rfl, rfl, rfl⟩
  · rw [State.updPattern, updNode_node_self]
    exact ⟨rfl, rfl, rfl⟩

end

/-! ## The offer of a plan -/

section

variable {s : State} {n : Node} {i : Fin 8} {k : Fin 16} {origin : Origin}

theorem offerStart_refused (h : s.plans[k] = none ∨ s.hostPulse n = true) : ∃ st, offerStart n k origin s = .refused st := by
  unfold offerStart
  split
  · exact ⟨_, rfl⟩
  · rename_i pl hpl
    rcases h with h | h
    · rw [h] at hpl
      cases hpl
    · exact ⟨_, if_pos h⟩

theorem offerStart_starts {pl : Plan} (hpl : s.plans[k] = some pl) (h : s.hostPulse n = false) (hr : (s.node n).exec.run = none) :
    offerStart n k origin s = .started (startExec n k pl.priority origin s) none := by
  simp only [offerStart, hpl, h, Bool.false_eq_true, if_false, hr]

/-- A plan that begins with a DELAY waits in it, whoever starts it (R107, R112). -/
theorem startExec_delaying {st : PlanStep} {ms priority : Nat} (hst : (s.planSteps k)[0]? = some st) (hk : st.kind = .delay ms)
    (hms : 0 < ms) : ((startExec n k priority origin s).node n).exec =
      { run := some { state := .delaying, plan := k, priority := priority, origin := origin, step := 0, stepStart := s.timebase,
                      started := 1, touched := Vector.replicate 4 false },
        last := (s.node n).exec.last } := by
  let fresh : Run := { state := .runningStep, plan := k, priority := priority, origin := origin, step := 0, stepStart := s.timebase,
                       started := 0, touched := Vector.replicate 4 false }
  have hsteady := steady_appendMarker (.refl (s.updExec n fun e => { e with run := some fresh })) n 3 (k + 256 * origin.num)
  have hexec : ((appendMarker n 3 (k + 256 * origin.num) (s.updExec n fun e => { e with run := some fresh })).node n).exec =
      { (s.node n).exec with run := some fresh } := by rw [hsteady.exec, updExec_node_self]
  have hstep := (congrArg (·[0]?) (hsteady.planSteps k)).trans hst
  have hwaits := runFrom_delay (n := n) (r := fresh) (by rw [hexec]) (Nat.succ_pos 63) hstep 64 hk hms
  have htime := hsteady.timebase
  refine (congrArg (fun t : State => (t.node n).exec) hwaits).trans ?_
  rw [updExec_node_self, hexec, htime]
  rfl

theorem hostPulse_of_steady {s t : State} (h : Steady s t) (n : Node) : t.hostPulse n = s.hostPulse n := by
  simp only [State.hostPulse, h.output]

/-- What a latch makes of the event table follows from the link, the event table and the timebase (R191). -/
theorem latch_events_congr {s t : State} (hl : t.link = s.link) (he : t.events = s.events) (ht : t.timebase = s.timebase) (src : Source)
    (d : Nat) : (latch src d t).events = (latch src d s).events ∧ (latch src d t).link = (latch src d s).link := by
  cases s
  cases t
  subst hl he ht
  unfold latch offerSummary
  dsimp only
  split
  · exact ⟨rfl, rfl⟩
  · split
    · split
      · rename_i h
        rw [if_pos (by exact h)]
        exact ⟨rfl, rfl⟩
      · rename_i h
        rw [if_neg (by exact h)]
        exact ⟨rfl, rfl⟩
    · exact ⟨rfl, rfl⟩

end

/-! ## A byte in the window -/

/-- The state in which the window is tested (R72). -/
def State.windowed (s : State) (n : Node) (b : Byte) : State :=
  s.updNode n fun c => { c with window := (c.window ++ [b]).drop (c.window.length + 1 - 32) }

section

variable {s : State} {n : Node} {b : Byte} {i : Fin 8} {q : Pattern}

theorem windowByte_eq (n : Node) (b : Byte) (s : State) : windowByte n b s = testWindow n (s.windowed n b) := rfl

theorem windowed_node : (s.windowed n b).node n =
    { s.node n with window := ((s.node n).window ++ [b]).drop ((s.node n).window.length + 1 - 32) } := updNode_node_self ..

theorem steady_windowed (s : State) (n : Node) (b : Byte) : Steady s (s.windowed n b) :=
  ⟨rfl, rfl, rfl, fun m => by rw [State.windowed, updNode_node]; split <;> simp_all,
    fun m => by rw [State.windowed, updNode_node]; split <;> simp_all⟩

theorem steady_hitCounted (s : State) (n : Node) (i : Fin 8) : Steady s (s.hitCounted n i) :=
  ⟨rfl, rfl, rfl, fun m => by rw [State.hitCounted, State.updPattern, updNode_node]; split <;> simp_all,
    fun m => by rw [State.hitCounted, State.updPattern, updNode_node]; split <;> simp_all⟩

theorem waitsOnPattern_windowed : (s.windowed n b).waitsOnPattern n i = s.waitsOnPattern n i := by
  rw [State.waitsOnPattern, (steady_windowed s n b).waitingOn, State.waitsOnPattern]

theorem waitsOnPattern_idle (h : (s.node n).exec.run = none) : s.waitsOnPattern n i = false := by
  simp [State.waitsOnPattern, State.waitingOn, h]

/-- The hit of an armed record on which no step waits: the orders of the record (R74, R75). -/
theorem windowByte_armed (hq : (s.node n).patterns[i] = some q) (ho : ∀ j, j ≠ i → (s.node n).patterns[j] = none)
    (hh : q.hitsOn ((s.windowed n b).node n).window = true) (ha : q.armed = true) (hr : (s.node n).exec.run = none) :
    windowByte n b s = (armedHit n i (s.windowed n b)).2 := by
  have hnode := windowed_node (s := s) (n := n) (b := b)
  have hsingle := testWindow_single (s := s.windowed n b) (n := n) (i := i) (q := q) (by rw [hnode]; exact hq)
    (fun j hj => by rw [hnode]; exact ho j hj) (by rw [ha, Bool.true_or]) hh
  rw [windowByte_eq, hsingle, waitsOnPattern_windowed, waitsOnPattern_idle hr, ha]
  rfl

/-- The hit of an unarmed record on which a step waits: the step completes (R74). -/
theorem windowByte_waited (hq : (s.node n).patterns[i] = some q) (ho : ∀ j, j ≠ i → (s.node n).patterns[j] = none)
    (hh : q.hitsOn ((s.windowed n b).node n).window = true) (ha : q.armed = false) (hw : s.waitsOnPattern n i = true) :
    windowByte n b s = completeStep n (s.windowed n b) := by
  have hnode := windowed_node (s := s) (n := n) (b := b)
  have hsingle := testWindow_single (s := s.windowed n b) (n := n) (i := i) (q := q) (by rw [hnode]; exact hq)
    (fun j hj => by rw [hnode]; exact ho j hj) (by rw [waitsOnPattern_windowed, hw, Bool.or_true]) hh
  rw [windowByte_eq, hsingle, waitsOnPattern_windowed, hw, ha]
  rfl

/-- The state in which a START_PLAN is offered: the hit is counted and latched (R75, R76). -/
theorem steady_offered (s : State) (n : Node) (b : Byte) (i : Fin 8) :
    Steady s (latch (.node n .conMatch) i ((s.windowed n b).hitCounted n i)) :=
  steady_latch ((steady_windowed s n b).trans (steady_hitCounted ..)) ..

end

/-- Settles O42: the window is tested once, and a single hit is either the wait of a step or the orders of its record. -/
theorem windowHitsAreHandled : Obligations.WindowHitsAreHandled := by
  refine ⟨hitsOn_iff, fun s n b => ⟨fun hnone => ?_, fun i q hq ho hh => ⟨fun ha hr => ?_, fun r ha hw hr hlast => ?_⟩⟩⟩
  · have hnode := windowed_node (s := s) (n := n) (b := b)
    refine testWindow_none (s := s.windowed n b) fun i => ?_
    cases hq : (s.node n).patterns[i] with
    | none => exact hitOf_unset (by rw [hnode]; exact hq)
    | some q =>
      refine hitOf_unhit (q := q) (by rw [hnode]; exact hq) ?_
      rw [waitsOnPattern_windowed, hnode]
      rcases hnone i q hq with ⟨ha, hw⟩ | hh
      · exact .inl ⟨ha, decide_eq_false hw⟩
      · exact .inr hh
  · have hnode := windowed_node (s := s) (n := n) (b := b)
    have hq' : ((s.windowed n b).node n).patterns[i] = some q := by rw [hnode]; exact hq
    have hhit := windowByte_armed hq ho (by rw [hnode]; exact hh) ha hr
    have hpatterns := armedHit_patterns hq' ha
    have hoffered := steady_offered s n b i
    have hcountedNode : (((s.windowed n b).hitCounted n i).node n).window =
        ((s.node n).window ++ [b]).drop ((s.node n).window.length + 1 - 32) := by
      rw [State.hitCounted, State.updPattern, updNode_node_self, hnode]
    have hcountedExec := ((steady_windowed s n b).trans (steady_hitCounted (s.windowed n b) n i)).exec n
    have hlatched := latch_events_congr (s := s) (t := (s.windowed n b).hitCounted n i) rfl rfl rfl (.node n .conMatch) i
    intro t
    dsimp only [t]
    rw [hhit]
    refine ⟨by rw [hpatterns, hnode], fun hact => ?_, fun hact => ?_, fun k hact hrefused => ?_,
      fun k pl st ms hact hpl hpulse hst hk hms => ?_⟩
    · obtain ⟨hevents, hwindow, hexec⟩ := armedHit_rest hq' (r := (s.windowed n b).hitCounted n i) (by rw [hact]; rfl)
      exact ⟨hevents, hwindow.trans hcountedNode, hexec.trans hcountedExec⟩
    · obtain ⟨hevents, hwindow, hexec⟩ := armedHit_rest hq' (r := latch (.node n .conMatch) i ((s.windowed n b).hitCounted n i))
        (by rw [hact]; rfl)
      exact ⟨hevents.trans hlatched.1, (hwindow.trans (congrArg NodeState.window (latch_node ..))).trans hcountedNode,
        hexec.trans (hoffered.exec n)⟩
    · obtain ⟨st, hst⟩ := offerStart_refused (s := latch (.node n .conMatch) i ((s.windowed n b).hitCounted n i)) (n := n) (k := k)
        (origin := .matched) (by rw [hoffered.plans, hostPulse_of_steady hoffered]; exact hrefused)
      obtain ⟨hevents, -, hexec⟩ := armedHit_rest hq'
        (r := latch (.node n .matchSuppressed) (i + 256 * k) (latch (.node n .conMatch) i ((s.windowed n b).hitCounted n i)))
        (by rw [hact, hitAction, offerPlan, hst])
      have hboth := latch_events_congr (s := latch (.node n .conMatch) i s)
        (t := latch (.node n .conMatch) i ((s.windowed n b).hitCounted n i)) hlatched.2 hlatched.1
        (hoffered.timebase.trans (steady_latch (.refl s) _ _).timebase.symm) (.node n .matchSuppressed) (i + 256 * k)
      exact ⟨hevents.trans hboth.1, hexec.trans ((congrArg NodeState.exec (latch_node ..)).trans (hoffered.exec n))⟩
    · have hstarts := offerStart_starts (s := latch (.node n .conMatch) i ((s.windowed n b).hitCounted n i)) (n := n) (k := k)
        (origin := .matched) (by rw [hoffered.plans]; exact hpl) ((hostPulse_of_steady hoffered n).trans hpulse)
        (by rw [hoffered.exec]; exact hr)
      obtain ⟨-, -, hexec⟩ := armedHit_rest hq' (r := startExec n k pl.priority .matched
        (latch (.node n .conMatch) i ((s.windowed n b).hitCounted n i))) (by rw [hact, hitAction, offerPlan, hstarts])
      have hdelay := startExec_delaying (s := latch (.node n .conMatch) i ((s.windowed n b).hitCounted n i)) (n := n) (k := k)
        (origin := .matched) (priority := pl.priority) (by rw [hoffered.planSteps, planSteps_of_some hpl]; exact hst) hk hms
      rw [hexec, hdelay, hoffered.exec, hoffered.timebase]
  · have hnode := windowed_node (s := s) (n := n) (b := b)
    have hsteady := steady_windowed s n b
    have hrun : ((s.windowed n b).node n).exec.run = some r := by rw [hsteady.exec]; exact hr
    rw [windowByte_waited hq ho (by rw [hnode]; exact hh) ha (decide_eq_true hw),
      completeStep_last hrun (by rw [hsteady.planSteps]; exact hlast), endExec_exec hrun, endExec_patterns, hnode]
    exact ⟨rfl, rfl⟩

end Sys2Proof.Machine

/-! # Items of a TX queue -/

namespace Sys2Proof.Machine

open Sys2Proof

variable {s : State} {n : Node}

/-! ## The character time -/

theorem baudOf_pos (rate : Nat) : 0 < baudOf rate := by
  by_cases h : rate < 7
  · interval_cases rate <;> decide
  · rw [baudOf, List.getD_eq_default _ _ (by simpa using h)]
    decide

/-- The character time in whole milliseconds has passed as soon as the milliseconds begun come to more than it (log entry 5). -/
theorem charMillis_le_iff (c : Settings) (e : Nat) :
    charMillis c ≤ e ↔ (if c.parity = .none then 10 else 11) * 1000 < (e + 1) * baudOf c.rate := by
  have hbits : c.parity.charBits = if c.parity = .none then 10 else 11 := by cases c.parity <;> rfl
  rw [charMillis, hbits, ← Nat.lt_succ_iff, Nat.div_lt_iff_lt_mul (baudOf_pos c.rate)]

/-! ## The levels of a character -/

theorem length_charLevels (p : Parity) (b : Byte) : (charLevels p b).length = if p = .none then 10 else 11 := by
  cases p <;> simp [charLevels, parityBit]

theorem charLevels_bit (p : Parity) (b : Byte) {k : Nat} (hk : k < 8) : (charLevels p b)[k + 1]? = some (b.getLsbD k) := by
  have hbit : ((List.range 8).map fun i => b.getLsbD i)[k]? = some (b.getLsbD k) := by simp [hk]
  rw [charLevels, List.append_assoc, List.append_assoc, List.singleton_append, List.getElem?_cons_succ, List.getElem?_append_left (by simpa using hk), hbit]

/-- With its parity bit a character holds an even number of ones for EVEN, an odd one for ODD (log entry 44). -/
theorem charLevels_parity (p : Parity) (b : Byte) (hp : p ≠ .none) :
    (((charLevels p b).drop 1).dropLast).count true % 2 = if p = .even then 0 else 1 := by
  have hinner : ((charLevels p b).drop 1).dropLast = ((List.range 8).map fun i => b.getLsbD i) ++ parityBit p b := by
    rw [charLevels, List.append_assoc, List.append_assoc, List.singleton_append, List.drop_one, List.tail_cons, ← List.append_assoc,
      List.dropLast_concat]
  have hones : ((List.range 8).map fun i => b.getLsbD i).count true = ((List.range 8).filter fun i => b.getLsbD i).length := by
    rw [List.count_eq_countP, List.countP_map, List.countP_eq_length_filter]
    simp [Function.comp_def]
  rw [hinner, List.count_append, hones]
  unfold parityBit
  generalize ((List.range 8).filter fun i => b.getLsbD i).length = ones
  cases p with
  | none => exact (hp rfl).elim
  | even =>
    rcases Nat.mod_two_eq_zero_or_one ones with h | h
    · simp [h]
    · simp [h]; omega
  | odd =>
    rcases Nat.mod_two_eq_zero_or_one ones with h | h
    · simp [h]; omega
    · simp [h]

/-! ## An item begins -/

/-- When the gap of a head item is over (R59). -/
theorem gapOver_iff {i : TxItem} {q : List TxItem} (hq : (s.node n).tx.queue = i :: q) : gapOver s n = true ↔
    if (s.node n).tx.lastWasByte = true then (∃ ms, i = .brk ms) ∨ (s.node n).rx.settings.pacing ≤ (s.timebase - (s.node n).tx.lastByteEnd).toNat
    else (if (s.node n).rx.settings.parity = .none then 10 else 11) * 1000 <
      ((s.timebase - (s.node n).tx.breakEnd).toNat + 1) * baudOf (s.node n).rx.settings.rate := by
  simp only [gapOver, hq]
  split
  · cases i with
    | byte b m =>
      refine decide_eq_true_iff.trans (or_iff_right ?_).symm
      rintro ⟨ms, h⟩
      cases h
    | brk ms => simp
  · rw [decide_eq_true_iff, charMillis_le_iff]
    rfl

theorem takeHead_eq {i : TxItem} {q : List TxItem} (hq : (s.node n).tx.queue = i :: q) : takeHead n s = s.updTx n fun t =>
    { t with queue := q, inProgress := some { item := i, start := s.timebase, rate := (s.node n).rx.settings.rate,
                                              parity := (s.node n).rx.settings.parity } } :=
  congrArg (fun x => s.updNode n fun c => { c with tx := x }) (by
    have hqueue : s.nodes[n].tx.queue = i :: q := hq
    simp only [hqueue])

/-- The head item begins, and where no step waits nothing is retried (R59). -/
theorem beginItem_begins {i : TxItem} {q : List TxItem} (hq : (s.node n).tx.queue = i :: q) (hw : s.waitingOn n .waitingQueue = none)
    (hp : (s.node n).tx.inProgress = none) (hg : gapOver s n = true) : beginItem n s = s.updTx n fun t =>
      { t with queue := q, inProgress := some { item := i, start := s.timebase, rate := (s.node n).rx.settings.rate,
                                                parity := (s.node n).rx.settings.parity } } := by
  rw [beginItem, if_pos ⟨hp, hg⟩, takeHead_eq hq]
  exact retryQueue_of_none (((steady_updTx (.refl s) n _).waitingOn ..).trans hw)

theorem beginItem_stays (h : (s.node n).tx.inProgress ≠ none ∨ gapOver s n = false) : beginItem n s = s := by
  refine if_neg fun hb => ?_
  rcases h with h | h
  · exact h hb.1
  · rw [h] at hb
    exact Bool.false_ne_true hb.2

/-! ## CON_CONFIG leaves the item in progress alone -/

theorem setConsole_tx (c : Settings) (m : Node) : ((setConsole n c s).node m).tx = (s.node m).tx := by
  have hset : ∀ t : State, (t.node m).tx = (s.node m).tx →
      ((match (t.node n).rx.opened with
        | none => t
        | some o => if c.recMax ≤ o.payload.length then closeOpen n { RecFlags.none with full := true } t else t).node m).tx =
          (s.node m).tx := by
    intro t ht
    split
    · exact ht
    · split
      · rw [(aligned_of_still (still_closeOpen ..)).tx, updRx_tx, ht]
      · exact ht
  unfold setConsole
  dsimp only
  refine hset _ ?_
  split
  · rw [appendMarker_tx]
    split <;> simp
  · split <;> simp

/-- CON_CONFIG acts on settings and records (R39). -/
theorem conConfigRequest_state (p : List Byte) (s : State) :
    (conConfigRequest p s).1 = s ∨ ∃ n c, (conConfigRequest p s).1 = setConsole n c s := by
  unfold conConfigRequest
  split
  · exact .inl rfl
  · split
    · dsimp only
      split
      · exact .inl rfl
      · exact .inr ⟨_, _, rfl⟩
    · exact .inl rfl

/-- What leaves the assembly and the transmitters alone. -/
structure Transmits (s t : State) : Prop where
  inbound : t.link.inbound = s.link.inbound
  tx : ∀ n, (t.node n).tx = (s.node n).tx

theorem Transmits.refl (s : State) : Transmits s s := ⟨rfl, fun _ => rfl⟩

theorem Transmits.trans {s t u : State} (h : Transmits s t) (k : Transmits t u) : Transmits s u :=
  ⟨k.inbound.trans h.inbound, fun n => (k.tx n).trans (h.tx n)⟩

theorem transmits_of_notes {s t : State} (h : Notes s t) (hs : t.still = s.still) : Transmits s t :=
  ⟨h.inbound, (aligned_of_still hs).tx⟩

theorem transmits_discardFrame (c : LinkCause) (s : State) : Transmits s (discardFrame c s) :=
  transmits_of_notes (notes_discardFrame (.refl s) c) (still_discardFrame c s)

theorem transmits_replyTo (k tag : Byte) (x : State × Option Reply) : Transmits x.1 (replyTo k tag x) := by
  unfold replyTo
  split
  · exact .refl _
  · exact ⟨rfl, fun _ => rfl⟩

theorem transmits_conConfig (p : List Byte) (s : State) : Transmits s (conConfigRequest p s).1 := by
  refine ⟨(notes_conConfigRequest (.refl s) p).inbound, fun m => ?_⟩
  rcases conConfigRequest_state p s with h | ⟨n, c, h⟩
  · rw [h]
  · rw [h, setConsole_tx]

theorem transmits_dispose (tag : Byte) (p : List Byte) (s : State) : Transmits s (dispose 0x10 tag p s) := by
  rw [dispose, if_neg (by decide), if_neg (by decide)]
  split
  · exact transmits_discardFrame ..
  · split
    · exact ⟨rfl, fun _ => rfl⟩
    · exact ⟨rfl, fun _ => rfl⟩
    · exact (transmits_conConfig p s).trans (transmits_replyTo 0x10 tag (conConfigRequest p s))

theorem still_offersInOrder (s : State) : (offersInOrder s).still = s.still := by
  simp [offersInOrder]

theorem transmits_takeFrame (tag : Byte) (p : List Byte) (s : State) : Transmits s (takeFrame 0x10 tag p s) := by
  unfold takeFrame
  dsimp only
  split
  · have hlatch (t : State) : Transmits t (latch .linkResumed (secondsAway s) t) :=
      transmits_of_notes (notes_latch (.refl t) _ _) (still_latch ..)
    have hoffers (t : State) : Transmits t (offersInOrder t) := transmits_of_notes (notes_offersInOrder (.refl t)) (still_offersInOrder t)
    have hlink (t : State) (f : Link → Link) (hf : ∀ l, (f l).inbound = l.inbound) : Transmits t (t.updLink f) :=
      ⟨hf t.link, fun _ => rfl⟩
    refine Transmits.trans ?_ (hoffers _)
    refine Transmits.trans ?_ (hlink _ _ fun _ => rfl)
    refine Transmits.trans ?_ (transmits_dispose tag p _)
    refine Transmits.trans ?_ (hlatch _)
    exact ⟨rfl, fun _ => rfl⟩
  · exact Transmits.trans (t := s.updLink fun l => { l with silenceStart := s.timebase }) ⟨rfl, fun _ => rfl⟩ (transmits_dispose tag p _)

/-- The assembly of a frame whose kind is known, or of none. -/
def Inbound.hasKind (k : Byte) : Inbound → Prop
  | .ignore => True
  | .header held => held.head? = some k
  | .body k' _ _ _ => k' = k
  | .check k' _ _ _ => k' = k

/-- While a CON_CONFIG is assembled no byte acts on the transmitters (R4, R39). -/
theorem byteIn_conConfig (hk : s.link.inbound.hasKind 0x10) (b : Byte) :
    (byteIn s b).link.inbound.hasKind 0x10 ∧ ∀ n, ((byteIn s b).node n).tx = (s.node n).tx := by
  unfold byteIn
  split
  · rename_i h
    exact ⟨h ▸ trivial, fun _ => rfl⟩
  · rename_i h
    rw [h] at hk
    cases hk
  · rename_i h
    rw [h] at hk
    exact ⟨hk, fun _ => rfl⟩
  · rename_i h
    rw [h] at hk
    exact ⟨hk, fun _ => rfl⟩
  · rename_i h
    rw [h] at hk
    unfold afterHeader
    split
    · have hd := transmits_discardFrame .badLength (setInbound .ignore s)
      exact ⟨hd.inbound ▸ trivial, hd.tx⟩
    · split
      · exact ⟨Option.some.inj hk, fun _ => rfl⟩
      · exact ⟨Option.some.inj hk, fun _ => rfl⟩
  · rename_i h
    rw [h] at hk
    split
    · exact ⟨hk, fun _ => rfl⟩
    · exact ⟨hk, fun _ => rfl⟩
  · rename_i h
    rw [h] at hk
    exact ⟨hk, fun _ => rfl⟩
  · rename_i tag payload _ _ h
    rw [h] at hk
    subst hk
    split
    · have ht := transmits_takeFrame tag payload (setInbound .ignore s)
      exact ⟨ht.inbound ▸ trivial, ht.tx⟩
    · have hd := transmits_discardFrame .badCheck (setInbound .ignore s)
      exact ⟨hd.inbound ▸ trivial, hd.tx⟩

/-- CON_CONFIG leaves the transmitters alone, whatever its payload (R39, R59). -/
theorem exec_conConfig_tx {t : State} {tag : Byte} {p : List Byte} (h : Ready s) (he : exec (.conConfig tag p) s = .next t) (m : Node) :
    (t.node m).tx = (s.node m).tx := by
  obtain ⟨⟨hporst, htxn, hin⟩, -⟩ := h
  have hrun : live (frameIn 0x10 tag p) s = .next t := he
  rw [live_of_porst_eq_false hporst, frameIn, feed, if_pos htxn] at hrun
  cases hrun
  have hfirst : byteIn s 0x10 = setInbound (.header [0x10]) s := by rw [byteIn, hin]; rfl
  exact (foldl_keeps (f := byteIn) (P := fun t => t.link.inbound.hasKind 0x10 ∧ ∀ n, (t.node n).tx = (s.node n).tx)
    (fun t b ht => ⟨(byteIn_conConfig ht.1 b).1, fun n => ((byteIn_conConfig ht.1 b).2 n).trans (ht.2 n)⟩) _
    (s := byteIn s 0x10) (by rw [hfirst]; exact ⟨rfl, fun _ => rfl⟩)).2 m

/-! ## Items end -/

section

variable {b : Byte} {start : Word32} {rate k : Nat} {parity : Parity} {mark : Option Nat}

/-- The transmitter once a byte has been sent (R59). -/
def State.byteDone (s : State) (n : Node) : State :=
  s.updTx n fun t => { t with inProgress := none, lastByteEnd := s.timebase, lastWasByte := true }

/-- A byte without a mark, or with echo injection OFF, ends without a marker (R61). -/
theorem byteEnds_quiet (h : (s.node n).tx.inProgress = some ⟨.byte b mark, start, rate, parity⟩)
    (hq : mark = none ∨ (s.node n).rx.settings.echo = false) : byteEnds n s = s.byteDone n := by
  cases mark with
  | none => simp only [byteEnds, h, State.byteDone]
  | some k =>
    have hecho := hq.resolve_left nofun
    simp only [byteEnds, h, hecho, State.byteDone]
    rfl

/-- A byte that carries a mark ends with its INJECTED marker while echo injection is ON (R61). -/
theorem byteEnds_marked (h : (s.node n).tx.inProgress = some ⟨.byte b (some k), start, rate, parity⟩)
    (he : (s.node n).rx.settings.echo = true) : byteEnds n s = appendMarker n 6 k (s.byteDone n) := by
  simp only [byteEnds, h, he, State.byteDone]
  rfl

end

/-- The break timer runs only on a break (R60). -/
theorem break_of_due (h : s.isDue (.breakSent n) = true) :
    ∃ ms start rate parity, (s.node n).tx.inProgress = some ⟨.brk ms, start, rate, parity⟩ := by
  simp only [State.isDue, Bool.and_eq_true, expired] at h
  obtain ⟨-, hexpired⟩ := h
  split at hexpired
  · exact ⟨_, _, _, _, ‹_›⟩
  · cases hexpired

theorem endExec_ok_tx {r : Run} (hr : (s.node n).exec.run = some r) (step : Nat) (m : Node) :
    ((endExec n .ok step s).node m).tx = (s.node m).tx := by
  rw [endExec_eq hr, updExec_tx, latch_node, appendMarker_tx]
  rfl

/-- A waiting step appends its items where there is room, and completes (R64). -/
theorem retryQueue_eq {k : StepKind} (h : s.waitingOn n .waitingQueue = some k) : retryQueue n s =
    if (s.node n).lines.view = .running ∧ stepItems s k ≠ [] ∧ (stepItems s k).length ≤ 256 - (s.node n).tx.queue.length then
      completeStep n (appendItems n (stepItems s k) s)
    else s := by
  rw [retryQueue, h]
  rfl

/-- Settles O41: an item begins as `gapOver_iff` says, ends with its marker, and a waiting step retries. -/
theorem itemsAreSent : Obligations.ItemsAreSent := by
  refine ⟨fun s n i q hporst hq hw => ⟨fun hp hgap => ?_, fun hstays => ?_⟩, fun s t n tag p x h hx he => ?_,
    fun s n b mark start rate parity hporst hx => ⟨fun hquiet => ?_, fun k hmark hecho => ?_⟩, fun s n hporst hdue => ?_,
    fun s n hporst => ⟨fun hw => ?_, fun r k hr hw => ⟨fun hfull => ?_, fun hview hitems hroom hlast => ?_⟩⟩⟩
  · have hbegins := beginItem_begins hq hw hp ((gapOver_iff hq).2 hgap)
    refine ⟨_, live_of_porst_eq_false hporst _, hbegins, ?_, ?_⟩
    · rw [hbegins, State.lineRate, updTx_node_self]
      rfl
    · rw [hbegins, State.lineLevels, updTx_node_self]
      cases i with
      | brk ms => rfl
      | byte b m =>
        exact ⟨length_charLevels .., rfl, List.getLast?_concat, fun k hk => charLevels_bit _ b hk, charLevels_parity _ b⟩
  · refine (live_of_porst_eq_false hporst _).trans (congrArg _ (beginItem_stays ?_))
    rcases hstays with hp | hgap
    · exact .inl hp
    · refine .inr (Bool.eq_false_iff.2 fun hover => ?_)
      have hover := (gapOver_iff hq).1 hover
      split at hgap
      · rename_i hlast
        rw [if_pos hlast] at hover
        obtain ⟨⟨b, m, rfl⟩, hpacing⟩ := hgap
        rcases hover with ⟨ms, hms⟩ | hover
        · cases hms
        · omega
      · rename_i hlast
        rw [if_neg hlast] at hover
        exact absurd hover (not_lt.2 hgap)
  · have htx := exec_conConfig_tx h he n
    rw [State.lineLevels, State.lineLevels, State.lineRate, State.lineRate, htx, hx]
    exact ⟨rfl, rfl⟩
  · exact (live_of_porst_eq_false hporst _).trans (congrArg _ (byteEnds_quiet hx hquiet))
  · subst hmark
    have hrun : exec (.byteSent n) s = _ := live_of_porst_eq_false hporst _
    rw [byteEnds_marked hx hecho] at hrun
    refine ⟨_, hrun, appendMarker_tx .., ?_, appendMarker_last ..⟩
    rw [appendMarker_rx]
  · obtain ⟨ms, start, rate, parity, hx⟩ := break_of_due hdue
    have hrun : exec (.breakSent n) s = _ := live_fired hporst hdue
    have hends : onExpiry (.breakSent n) (s.fired (.breakSent n)) = breakEnds n ms (s.fired (.breakSent n)) := by
      rw [onExpiry, breakExpires, show ((s.fired (.breakSent n)).node n).tx.inProgress = _ from hx]
    rw [hends] at hrun
    exact ⟨ms, start, rate, parity, _, hx, hrun, breakEnds_tx .., breakEnds_last ..⟩
  · exact (live_of_porst_eq_false hporst _).trans (congrArg _ (retryQueue_of_none hw))
  · refine (live_of_porst_eq_false hporst _).trans (congrArg _ ((retryQueue_eq hw).trans (if_neg fun h => ?_)))
    rcases hfull with hview | hroom
    · exact hview h.1
    · omega
  · have hrun : exec (.waitingQueueRetry n) s = _ := live_of_porst_eq_false hporst _
    have hsteady := steady_updTx (.refl s) n fun t => { t with queue := t.queue ++ stepItems s k }
    have hr' : ((appendItems n (stepItems s k) s).node n).exec.run = some r := by rw [appendItems, hsteady.exec]; exact hr
    have hlast' : ((appendItems n (stepItems s k) s).planSteps r.plan).length = r.step + 1 := hlast
    rw [(retryQueue_eq hw).trans (if_pos ⟨hview, hitems, hroom⟩), completeStep_last hr' hlast'] at hrun
    refine ⟨_, hrun, ?_, endExec_exec hr' .ok r.step⟩
    rw [endExec_ok_tx hr', appendItems, updTx_node_self]

end Sys2Proof.Machine

/-! # What the cache and the contexts leave of a column -/

namespace Sys2Proof.Machine

open Sys2Proof

variable {s t : State}

/-- A context without what its failure, its asking for a line and its notice change. -/
def Context.core (x : Context) : Context :=
  { x with phase := .expectCommand, result := .passed, mode := .none, ask := none, statusBytes := [], fwdState := .none }

/-- Of a column: its current page and its next sequence number, its port and drives, and its context in the main. -/
def NodeState.core (c : NodeState) : NodeState :=
  { NodeState.reset false false with
    hist := { History.reset with current := c.hist.current, next := c.hist.next }, port := c.port, drives := c.drives,
    ctx := c.ctx.core }

/-- What page allocation and the fetches of lines change of no column. -/
def State.core (s : State) : Vector NodeState 4 := s.nodes.map NodeState.core

theorem core_of_core (h : t.core = s.core) (n : Node) : (t.node n).core = (s.node n).core := by
  have e := congrArg (fun v : Vector NodeState 4 => v[n]) h
  simp only [State.core, Fin.getElem_fin, Vector.getElem_map] at e
  exact e

theorem core_of_nodes (h : t.nodes = s.nodes) : t.core = s.core := by rw [State.core, h]; rfl

theorem core_updNode (s : State) (n : Node) (f : NodeState → NodeState) (h : (f (s.node n)).core = (s.node n).core) :
    (s.updNode n f).core = s.core := by
  refine Vector.ext fun i hi => ?_
  by_cases e : (n : Nat) = i
  · subst e
    simpa [State.core, State.updNode, State.node] using h
  · simp [State.core, State.updNode, Vector.getElem_set_ne, e]

theorem core_updCtx (s : State) (n : Node) (f : Context → Context) (h : (f (s.node n).ctx).core = (s.node n).ctx.core) :
    (s.updCtx n f).core = s.core :=
  core_updNode s n _ (congrArg (fun x => { (s.node n).core with ctx := x }) h)

@[simp] theorem core_updPool (s : State) (f : Pool → Pool) : (s.updPool f).core = s.core := rfl

@[simp] theorem core_updCache (s : State) (f : Cache → Cache) : (s.updCache f).core = s.core := rfl

@[simp] theorem core_updSlot (s : State) (i : Fin 16) (f : FetchSlot → FetchSlot) : (s.updSlot i f).core = s.core := rfl

@[simp] theorem core_setSlotUse (s : State) (i : Fin 16) (u : SlotUse) : (s.setSlotUse i u).core = s.core := rfl

@[simp] theorem core_latch (src : Source) (d : Nat) (s : State) : (latch src d s).core = s.core := core_of_nodes (latch_nodes ..)

/-! ## Trimming -/

theorem core_evictRecords (n : Node) (page : List Rec) (s : State) : (evictRecords n page s).core = s.core := by
  have hset (f : History → History) (hf : ∀ h, (f h).current = h.current ∧ (f h).next = h.next) : (s.updHist n f).core = s.core := by
    obtain ⟨hcurrent, hnext⟩ := hf (s.node n).hist
    refine core_updNode s n _ ?_
    simp only [NodeState.core, hcurrent, hnext]
  unfold evictRecords
  split
  · rfl
  · dsimp only
    split
    · split
      · rw [core_latch]
        exact hset _ fun _ => ⟨rfl, rfl⟩
      · exact hset _ fun _ => ⟨rfl, rfl⟩
    · exact hset _ fun _ => ⟨rfl, rfl⟩

/-- A page that a ring gives up is never its current one (R25). -/
@[simp] theorem core_giveUpPage (n : Node) (s : State) : (giveUpPage n s).core = s.core := by
  unfold giveUpPage
  dsimp only
  split
  · exact core_updNode s n _ rfl
  · split
    · rfl
    · rw [core_evictRecords]
      exact core_updNode s n _ rfl

@[simp] theorem core_trimPages (k : Nat) (s : State) : (trimPages k s).core = s.core := by
  induction k generalizing s with
  | zero => rfl
  | succ k ih => rw [trimPages, ih, core_giveUpPage]

/-! ## Lines and slots -/

theorem core_demandAlloc (h : demandAlloc s = .got t) : t.core = s.core := by
  unfold demandAlloc at h
  split at h
  · cases h
    rfl
  · split at h
    · rename_i u hu
      cases h
      unfold evictLine at hu
      split at hu
      · cases hu
        rfl
      · cases hu
    · split at h
      · cases h
        rw [pressureTrim, core_latch, core_trimPages, core_updPool]
      · split at h <;> cases h

@[simp] theorem core_offerMedia (o : MediaOwner) (s : State) : (offerMedia o s).core = s.core := by
  unfold offerMedia sendMedia
  split
  · cases o with
    | fetch i => dsimp only; split <;> rfl
    | write i => dsimp only; split <;> rfl
    | forward n =>
      dsimp only
      split
      · rw [core_updCtx _ _ _ rfl]
        rfl
      · rfl
  · rfl

@[simp] theorem core_attachNew (n : Node) (i : Fin 16) (s : State) : (attachNew n i s).core = s.core := by
  rw [attachNew, createLine, core_offerMedia, core_updSlot, core_updCache, core_updCtx _ _ _ rfl]

@[simp] theorem core_retryWaiting (s : State) : (retryWaiting s).core = s.core := by
  have hlist (ws : List Waiter) : ∀ s : State, (retryList ws s).core = s.core := by
    induction ws with
    | nil => exact fun _ => rfl
    | cons w ws ih =>
      intro s
      unfold retryList
      split
      · rename_i t ht
        rw [ih]
        unfold grantPages
        have hgot : t.core = s.core := core_demandAlloc ht
        split
        · exact hgot
        · rw [core_attachNew]
          exact hgot
      · rfl
  exact hlist _ s

@[simp] theorem core_pagesJoin (k : Nat) (s : State) : (pagesJoin k s).core = s.core := by simp [pagesJoin]

@[simp] theorem core_detach (n : Node) (s : State) : (detach n s).core = s.core := by
  unfold detach
  split
  · rfl
  · split
    · dsimp only
      split
      · rw [core_updCache, core_updCtx _ _ _ rfl]
      · split
        · rw [core_retryWaiting, core_updCache, core_updCtx _ _ _ rfl]
        · rw [core_updCache, core_updCtx _ _ _ rfl]
    · rfl

/-! ## The failures of other reads -/

section

variable {n m : Node} (h : m ≠ n)

include h

theorem failRead_core_ne (x : Sense) (s : State) : ((failRead m x s).node n).core = (s.node n).core := by
  rw [failRead, updCtx_node_ne _ _ h, core_of_core (core_detach ..), readFails_node_ne h]

theorem allocateFor_core_ne (i : Fin 16) (s : State) : ((allocateFor m i s).node n).core = (s.node n).core := by
  unfold allocateFor
  split
  · rename_i t ht
    rw [core_of_core (core_attachNew ..), core_of_core (core_demandAlloc ht)]
  · rw [pressureWait, latch_node, updCtx_node_ne _ _ h]
    rfl
  · rw [mediaError, latch_node, failRead_core_ne h]
    rfl

end

/-- The granting of slots to other nodes leaves a column in the main (R176). -/
theorem grantSlots_core_ne {n : Node} (h : ∀ w ∈ s.cache.slotWait, w.node ≠ n) : ((grantSlots s).node n).core = (s.node n).core := by
  have hlist (ws : List Waiter) : (∀ w ∈ ws, w.node ≠ n) → ∀ s : State, ((grantList ws s).node n).core = (s.node n).core := by
    induction ws with
    | nil => exact fun _ _ => rfl
    | cons w ws ih =>
      intro hws s
      unfold grantList
      split
      · rfl
      · rw [ih fun v hv => hws v (List.mem_cons_of_mem w hv), allocateFor_core_ne (hws w List.mem_cons_self)]
        rfl
  exact hlist _ h s

@[simp] theorem core_dropWaits (n : Node) (s : State) : (dropWaits n s).core = s.core := by
  unfold dropWaits
  dsimp only
  split <;> rfl

theorem dropWaits_slotWait (n : Node) (s : State) : (dropWaits n s).cache.slotWait = s.cache.slotWait.filter (·.node ≠ n) := by
  unfold dropWaits
  dsimp only
  split <;> rfl

/-- A read that lets go of its line leaves its own column in the main (R174). -/
theorem letGo_core (n : Node) (s : State) : ((letGo n s).node n).core = (s.node n).core := by
  have hleft : ((leaveLists n s).node n).core = (s.node n).core := by
    unfold leaveLists
    split
    · exact core_of_core (core_dropWaits ..) n
    · rw [grantSlots_core_ne, core_of_core (core_dropWaits ..)]
      intro w hw
      rw [dropWaits_slotWait] at hw
      simpa using List.of_mem_filter hw
  rw [← hleft, ← core_of_core (core_detach n (leaveLists n s)), letGo, updCtx_node_self]
  rfl

/-! ## A context is cleared -/

/-- The state of a clearing before the context is idle (R151). -/
def State.clearing (s : State) (n : Node) : State := cancelEntries n (discardUnit n (withdraw (.forward n) (letGo n s)))

theorem clearContext_eq (n : Node) (s : State) :
    clearContext n s = ((s.clearing n).updPort n fun p => { p with stagingBlocked := false }).updCtx n Context.idle := rfl

/-- A clearing discards the unit being filled, and leaves the rest of the column in the main (R151). -/
theorem clearing_core (n : Node) (s : State) :
    ((s.clearing n).node n).core = { (s.node n).core with ctx := { (s.node n).core.ctx with filling := none } } := by
  have hbefore : ((withdraw (.forward n) (letGo n s)).node n).core = (s.node n).core := letGo_core n s
  rw [← hbefore]
  unfold State.clearing cancelEntries discardUnit
  generalize withdraw (.forward n) (letGo n s) = t
  split
  · rw [updCache_node, core_of_core (core_pagesJoin ..), State.updCtx, updNode_node_self]
    rfl
  · rename_i hnone
    have hfilling : (t.node n).core.ctx.filling = none := Option.not_isSome_iff_eq_none.1 hnone
    rw [updCache_node, ← hfilling]

/-- A cleared context is that of the reset, but for its forward ticket (R151). -/
theorem clearContext_ctx (n : Node) (s : State) :
    ((clearContext n s).node n).ctx = { Context.reset with fwdTicket := (s.node n).ctx.fwdTicket } := by
  have hticket : ((s.clearing n).node n).ctx.fwdTicket = (s.node n).ctx.fwdTicket := congrArg (·.ctx.fwdTicket) (clearing_core n s)
  have hfilling : ((s.clearing n).node n).ctx.filling = none := congrArg (·.ctx.filling) (clearing_core n s)
  rw [clearContext_eq, updCtx_node_self, updPort_ctx, Context.idle, hticket, hfilling]
  rfl

theorem clearContext_port (n : Node) (s : State) :
    ((clearContext n s).node n).port = { (s.node n).port with stagingBlocked := false } := by
  have hport : ((s.clearing n).node n).port = (s.node n).port := congrArg (·.port) (clearing_core n s)
  rw [clearContext_eq, updCtx_port, updPort_node_self, hport]

theorem clearContext_drives (n : Node) (s : State) : ((clearContext n s).node n).drives = (s.node n).drives := by
  have hdrives : ((s.clearing n).node n).drives = (s.node n).drives := congrArg (·.drives) (clearing_core n s)
  rw [clearContext_eq, updCtx_drives, updPort_drives, hdrives]

theorem clearContext_tail (n : Node) (s : State) : ((clearContext n s).node n).hist.current = (s.node n).hist.current ∧
    ((clearContext n s).node n).hist.next = (s.node n).hist.next := by
  rw [clearContext_eq, updCtx_hist, updPort_hist]
  exact ⟨congrArg (·.hist.current) (clearing_core n s), congrArg (·.hist.next) (clearing_core n s)⟩

/-- The write entries of a cleared context's commands are cancelled (R151, R184). -/
theorem clearContext_writes (n : Node) (s : State) : ∀ e ∈ (clearContext n s).cache.writes.toList, ∀ w, e.use = some w → w.node = n →
    w.cancelled = true := by
  intro e he w hw hn
  rw [clearContext_eq, State.clearing, cancelEntries] at he
  simp only [updCtx_cache, updPort_cache, State.updCache, Vector.toList_map, List.mem_map] at he
  obtain ⟨e', -, rfl⟩ := he
  obtain ⟨w', -, rfl⟩ := Option.map_eq_some_iff.1 hw
  by_cases h : w'.node = n
  · rw [if_pos h]
  · rw [if_neg h] at hn
    exact absurd hn h

/-- A port that connects or disconnects appends no record (R122). -/
theorem connectTest_tail (n : Node) (s : State) : ((connectTest n s).node n).hist.current = (s.node n).hist.current ∧
    ((connectTest n s).node n).hist.next = (s.node n).hist.next := by
  have hport (t : State) (f : Port → Port) : ((t.updPort n f).node n).hist.current = (t.node n).hist.current ∧
      ((t.updPort n f).node n).hist.next = (t.node n).hist.next := by
    rw [updPort_hist]
    exact ⟨rfl, rfl⟩
  unfold connectTest startConnect attach disconnect portChange
  dsimp only
  split
  · split
    · exact ⟨rfl, rfl⟩
    · have htail := clearContext_tail n (s.updPort n fun p => { p with control := none, pendingIn := none, pendingAddress := none })
      rw [updPort_hist] at htail
      rw [latch_node, updPort_hist]
      exact htail
  · split
    · split
      · exact ⟨rfl, rfl⟩
      · exact hport ..
    · split
      · split
        · rw [latch_node]
          exact hport ..
        · exact hport ..
      · exact hport ..

end Sys2Proof.Machine

/-! # The view and the outputs -/

namespace Sys2Proof.Machine

open Sys2Proof

variable {s : State} {n : Node}

/-! ## Changes of a line unit -/

theorem updLines_updLines (s : State) (n : Node) (f g : LineUnit → LineUnit) :
    (s.updLines n f).updLines n g = s.updLines n fun u => g (f u) := by
  simp [State.updLines, State.updNode]

theorem updLines_congr {f g : LineUnit → LineUnit} (h : f (s.node n).lines = g (s.node n).lines) : s.updLines n f = s.updLines n g :=
  congrArg (fun x => s.updNode n fun c => { c with lines := x }) h

theorem updLines_of_eq {f : LineUnit → LineUnit} (h : f (s.node n).lines = (s.node n).lines) : s.updLines n f = s := by
  refine (updLines_congr (g := fun u => u) h).trans ?_
  change { s with nodes := s.nodes.set n s.nodes[n] } = s
  rw [Fin.getElem_fin, Vector.set_getElem_self]

/-! ## A change of view -/

theorem viewMarker_lines (old new : View) (s : State) (m : Node) : ((viewMarker n old new s).node m).lines = (s.node m).lines := by
  unfold viewMarker
  split
  · rw [(undisturbed_appendMarker ..).lines, updRx_lines]
  · split
    · rw [(undisturbed_appendMarker ..).lines, updRx_lines]
    · rfl

theorem deliverView_lines (old new : View) (s : State) (m : Node) : ((deliverView n old new s).node m).lines = (s.node m).lines := by
  unfold deliverView
  rw [latch_node, (aligned_of_base (base_connectTest ..)).lines]
  split
  · rw [goDark, updNode_node]
    split
    · subst_vars
      exact viewMarker_lines ..
    · exact viewMarker_lines ..
  · exact viewMarker_lines ..

/-- A node whose view leaves RUNNING goes dark (R66, R72). -/
theorem deliverView_dark (new : View) (s : State) : ((deliverView n .running new s).node n).tx.queue = [] ∧
    ((deliverView n .running new s).node n).tx.inProgress = none ∧ ((deliverView n .running new s).node n).window = [] := by
  unfold deliverView
  rw [latch_node, (aligned_of_base (base_connectTest ..)).tx, (aligned_of_base (base_connectTest ..)).window, if_pos rfl, goDark,
    updNode_node_self]
  exact ⟨rfl, rfl, rfl⟩

/-- What a change of view leaves of the history is its marker's (R47, R86). -/
theorem deliverView_tail (old new : View) (s : State) :
    ((deliverView n old new s).node n).hist.current = ((viewMarker n old new s).node n).hist.current ∧
      ((deliverView n old new s).node n).hist.next = ((viewMarker n old new s).node n).hist.next := by
  have hdark (u : State) : ((goDark n u).node n).hist = (u.node n).hist := by rw [goDark, updNode_node_self]
  obtain ⟨hcurrent, hnext⟩ := connectTest_tail n (if old = .running then goDark n (viewMarker n old new s) else viewMarker n old new s)
  unfold deliverView
  rw [latch_node, hcurrent, hnext]
  split
  · rw [hdark]
    exact ⟨rfl, rfl⟩
  · exact ⟨rfl, rfl⟩

theorem deliverView_levels (old new : View) (s : State) : (deliverView n old new s).events.levels = s.events.levels :=
  (steady_deliverView (.refl s) n old new).levels

/-- A change of view is latched with both views (R86). -/
theorem deliverView_detail (old new : View) (s : State) (h : s.events.recs[(Source.node n .powerChange).id].level ≠ 0) :
    (deliverView n old new s).events.recs[(Source.node n .powerChange).id].lastDetail = new.num + 256 * old.num := by
  have hlevels := deliverView_levels (n := n) old new s
  unfold deliverView at hlevels ⊢
  rw [levels_latch] at hlevels
  exact latch_lastDetail (by rw [level_of_levels hlevels]; exact h) _

/-- A port whose node is not RUNNING has its pull-up off after a change of view (R122). -/
theorem deliverView_pullUp (old : View) {new : View} (s : State) (h : (s.node n).lines.view ≠ .running) :
    ((deliverView n old new s).node n).port.pullUp = false := by
  rw [Bool.eq_false_iff]
  intro hp
  have hconnects := attaches_deliverView n old new s (.inl hp)
  simp only [NodeState.connects, Bool.and_eq_true, decide_eq_true_eq, deliverView_lines] at hconnects
  exact h hconnects.1.2

/-! ## The view is recomputed -/

/-- The state in which a new view is delivered (R86). -/
def State.viewed (s : State) (n : Node) : State := s.updLines n fun v => { v with view := (s.node n).lines.computed }

theorem recomputeView_changed (h : (s.node n).lines.computed ≠ (s.node n).lines.view) :
    recomputeView n s = deliverView n (s.node n).lines.view (s.node n).lines.computed (s.viewed n) := if_neg h

/-- The view becomes the one the lines give, and nothing else of the line unit changes (R85). -/
theorem recomputeView_lines (n : Node) (s : State) :
    ((recomputeView n s).node n).lines = { (s.node n).lines with view := (s.node n).lines.computed } := by
  by_cases h : (s.node n).lines.computed = (s.node n).lines.view
  · rw [recomputeView, if_pos h, h]
  · rw [recomputeView_changed h, deliverView_lines, State.viewed, updLines_node_self]

/-- A node that ceases to be RUNNING goes dark and loses its pull-up (R66, R72, R122). -/
theorem recomputeView_dark (hv : (s.node n).lines.view = .running) (hc : (s.node n).lines.computed ≠ .running) :
    ((recomputeView n s).node n).tx.queue = [] ∧ ((recomputeView n s).node n).tx.inProgress = none ∧
      ((recomputeView n s).node n).window = [] ∧ ((recomputeView n s).node n).port.pullUp = false := by
  rw [recomputeView_changed (by rw [hv]; exact hc), hv]
  obtain ⟨hqueue, hprogress, hwindow⟩ := deliverView_dark (n := n) (s.node n).lines.computed (s.viewed n)
  refine ⟨hqueue, hprogress, hwindow, deliverView_pullUp _ _ ?_⟩
  rw [State.viewed, updLines_node_self]
  exact hc

theorem recomputeView_detail (h : (s.node n).lines.computed ≠ (s.node n).lines.view)
    (hl : s.events.recs[(Source.node n .powerChange).id].level ≠ 0) :
    (recomputeView n s).events.recs[(Source.node n .powerChange).id].lastDetail =
      (s.node n).lines.computed.num + 256 * (s.node n).lines.view.num := by
  rw [recomputeView_changed h]
  exact deliverView_detail _ _ _ hl

/-- The marker of a change of view into or out of RUNNING stands last (R47). -/
theorem recomputeView_marker (h : (s.node n).lines.computed ≠ (s.node n).lines.view) {code detail : Nat}
    (hm : ∀ t, viewMarker n (s.node n).lines.view (s.node n).lines.computed t = appendMarker n code detail t) :
    ((recomputeView n s).node n).hist.current.getLast? =
      some { seq := ((recomputeView n s).node n).hist.next - 1, timestamp := s.timebase, body := .marker code detail } := by
  obtain ⟨hcurrent, hnext⟩ := deliverView_tail (n := n) (s.node n).lines.view (s.node n).lines.computed (s.viewed n)
  rw [hm] at hcurrent hnext
  rw [recomputeView_changed h, hcurrent, hnext, appendMarker_last]
  rfl

/-! ## The executor sees nothing -/

theorem waitingOn_idle (h : (s.node n).exec.run = none) (st : ExecState) : s.waitingOn n st = none := by
  simp only [State.waitingOn, h]

/-- An IDLE executor makes nothing of a change of view (R86). -/
theorem withView_idle {f : State → State} (h : ((f s).node n).exec.run = none) : withView n f s = f s := by
  rw [withView, execOnView, waitingOn_idle h, waitingOn_idle h]
  exact ite_self _

/-- Without a change of view the executor sees none (R86). -/
theorem withView_same {f : State → State} (h : ((f s).node n).lines.view = (s.node n).lines.view) : withView n f s = f s := if_pos h

/-! ## Lines that are driven -/

section

variable {o : Output} {active : Bool} {pulse : Option Pulse}

/-- A line other than CUT, or a CUT that keeps its level, is driven without a change of view (R83). -/
theorem driveLine_plain (h : o ≠ .cut ∨ (s.output n .cut).active = active) :
    driveLine n o active pulse s = s.updOutput n o fun l => { l with active := active, pulse := pulse } := by
  refine if_neg ?_
  rintro ⟨rfl, hne⟩
  exact hne (h.resolve_left fun e => e rfl)

theorem driveLine_cut (h : (s.output n .cut).active ≠ active) : driveLine n .cut active pulse s =
    cutChanged n active (s.updOutput n .cut fun l => { l with active := active, pulse := pulse }) := if_pos ⟨rfl, h⟩

/-- The view that a CUT line of a new level gives (R85). -/
theorem computed_cut : ((s.updOutput n .cut fun l => { l with active := active, pulse := pulse }).node n).lines.computed =
    if active = true then .cutOff else if (s.node n).lines.pgood.active = true then .running else .standby := by
  rw [State.updOutput, updLines_node_self, LineUnit.computed]
  simp

/-- A CUT line that changes its level gives the new view and starts or stops the cut-settle timer (R83, R85, R87). -/
theorem cutChanged_lines (n : Node) (active : Bool) (s : State) : ((cutChanged n active s).node n).lines =
    { (s.node n).lines with
      view := (s.node n).lines.computed, settleStart := if active = true then some s.timebase else none,
      cutFault := active && (s.node n).lines.cutFault } := by
  rw [cutChanged, updLines_node_self, recomputeView_lines]
  cases active <;> rfl

end

end Sys2Proof.Machine

/-! # Requests on outputs -/

namespace Sys2Proof.Machine

open Sys2Proof

variable {s : State} {n : Node} {o : Output}

/-! ## LINE_SET -/

theorem lineOf_outIdx (o : Output) : lineOf (BitVec.ofNat 8 (outIdx o)).toNat = some (.inl o) := by cases o <;> rfl

/-- LINE_SET of a line, whose time is the last field of its payload (R84). -/
theorem exec_lineSet (h : Ready s) (tag : Byte) (n : Node) (o : Output) {action : Byte} {a : LineAction}
    (ha : lineActionOf action.toNat = some a) {v : Nat} (hv : v < 65536) :
    exec (.lineSet tag ([BitVec.ofNat 8 n, BitVec.ofNat 8 (outIdx o), action] ++ le 2 v)) s =
      .next (replyTo 0x21 tag (if (s.node n).exec.run.isSome then refused .busy (heard s)
        else accepted (decide (a = .pulse ∧ v = 0)) (lineSetFields (lineSetOp n o a v (heard s)) n o) (lineSetOp n o a v (heard s)))) := by
  have hrun : exec (.lineSet tag ([BitVec.ofNat 8 n, BitVec.ofNat 8 (outIdx o), action] ++ le 2 v)) s = .next (replyTo 0x21 tag
      (lineSetRequest ([BitVec.ofNat 8 n, BitVec.ofNat 8 (outIdx o), action] ++ le 2 v) (heard s))) :=
    live_request (k := 0x21) tag h (by decide) (by simp) rfl
  have hnode : nodeOf (u8 ([BitVec.ofNat 8 n, BitVec.ofNat 8 (outIdx o), action] ++ le 2 v) 0) = some n := nodeOf_byte n
  have hline : lineOf (u8 ([BitVec.ofNat 8 n, BitVec.ofNat 8 (outIdx o), action] ++ le 2 v) 1) = some (.inl o) := lineOf_outIdx o
  have haction : lineActionOf (u8 ([BitVec.ofNat 8 n, BitVec.ofNat 8 (outIdx o), action] ++ le 2 v) 2) = some a := ha
  have htime : u16 ([BitVec.ofNat 8 n, BitVec.ofNat 8 (outIdx o), action] ++ le 2 v) 3 = v :=
    fieldAt_append_le_last [BitVec.ofNat 8 n, BitVec.ofNat 8 (outIdx o), action] 2 v hv
  simp only [lineSetRequest, hnode, hline, haction, htime, ← Bool.decide_and] at hrun
  exact hrun

/-- The level a LINE_SET gives its line (R84). -/
def LineAction.level : LineAction → Bool
  | .set active => active
  | .pulse => true

/-- The pulse a LINE_SET gives its line (R84). -/
def LineAction.pulseOf (a : LineAction) (now : Word32) (v : Nat) : Option Pulse :=
  match a with
  | .set _ => none
  | .pulse => some { source := .host, start := now, ms := max 1 v }

theorem lineSetOp_eq (n : Node) (o : Output) (a : LineAction) (v : Nat) (s : State) :
    lineSetOp n o a v s = withView n (driveLine n o a.level (a.pulseOf s.timebase v)) s := by
  cases a <;> rfl

/-- On an IDLE executor a LINE_SET drives its line (R84). -/
theorem lineSetOp_idle (hr : (s.node n).exec.run = none) (a : LineAction) (v : Nat) :
    lineSetOp n o a v s = driveLine n o a.level (a.pulseOf s.timebase v) s := by
  rw [lineSetOp_eq]
  exact withView_idle (by rw [(sustains_driveLine ..).exec]; exact hr)

/-- The fields of the reply for a line that has been driven (section 11.3). -/
theorem lineSetFields_driven {t : State} {a : LineAction} {v : Nat} (ht : t.output n o = { s.output n o with active := a.level, pulse := a.pulseOf t.timebase v }) :
    lineSetFields t n o = flag1 a.level ++ byte1 (pulseSourceNum (a.pulseOf t.timebase v)) ++
      le 2 (if a = .pulse then max 1 v else 0xFFFF) ++ byte1 (t.node n).lines.view.num := by
  rw [lineSetFields, pulseLeft, ht]
  cases a with
  | set active => rfl
  | pulse =>
    have hleft : t.timeLeft t.timebase (max 1 v) = max 1 v := by simp [State.timeLeft, State.elapsed]
    simp [LineAction.pulseOf, left2, hleft]

/-! ## LINE_CONFIG of an output -/

/-- LINE_CONFIG of an output (R81). -/
theorem exec_lineConfig_output (h : Ready s) (tag : Byte) (n : Node) (o : Output) (od hi : Bool) {v : Nat} (hv : v < 65536) :
    exec (.lineConfig tag ([BitVec.ofNat 8 n, BitVec.ofNat 8 (outIdx o), if od = true then 1 else 0, if hi = true then 1 else 0] ++ le 2 v)) s =
      .next (replyTo 0x20 tag (configOutput n o od hi v (heard s))) := by
  have hflag (b : Bool) : onOff (if b = true then (1 : Byte) else 0).toNat = some b := by cases b <;> rfl
  refine (live_request (k := 0x20) tag h (by decide) (by simp) rfl).trans ?_
  refine congrArg (fun x => Host.Outcome.next (replyTo 0x20 tag x)) ?_
  change lineConfigRequest _ _ = _
  have hnode : nodeOf (u8 ([BitVec.ofNat 8 n, BitVec.ofNat 8 (outIdx o), if od = true then 1 else 0, if hi = true then 1 else 0] ++ le 2 v) 0) = some n := nodeOf_byte n
  have hline : lineOf (u8 ([BitVec.ofNat 8 n, BitVec.ofNat 8 (outIdx o), if od = true then 1 else 0, if hi = true then 1 else 0] ++ le 2 v) 1) = some (.inl o) := lineOf_outIdx o
  have hod : onOff (u8 ([BitVec.ofNat 8 n, BitVec.ofNat 8 (outIdx o), if od = true then 1 else 0, if hi = true then 1 else 0] ++ le 2 v) 2) = some od := hflag od
  have hhi : onOff (u8 ([BitVec.ofNat 8 n, BitVec.ofNat 8 (outIdx o), if od = true then 1 else 0, if hi = true then 1 else 0] ++ le 2 v) 3) = some hi := hflag hi
  have htime : u16 ([BitVec.ofNat 8 n, BitVec.ofNat 8 (outIdx o), if od = true then 1 else 0, if hi = true then 1 else 0] ++ le 2 v) 4 = v :=
    fieldAt_append_le_last [BitVec.ofNat 8 n, BitVec.ofNat 8 (outIdx o), if od = true then 1 else 0, if hi = true then 1 else 0] 2 v hv
  simp only [lineConfigRequest, hnode, hline, hod, hhi, htime]

/-- An IDLE output is configured, CUT with its settle time (R81). -/
theorem configOutput_idle (ha : (s.output n o).active = false) (hdue : .cutSettle n ∉ s.due) (od hi : Bool) (v : Nat) :
    configOutput n o od hi v s = accepted (decide (o = .cut ∧ clamp 500 10000 v ≠ v))
      ([BitVec.ofNat 8 (outIdx o), if od = true then 1 else 0, if hi = true then 1 else 0]
        ++ le 2 (if o = .cut then clamp 500 10000 v else 0) ++ [0, BitVec.ofNat 8 (s.node n).lines.view.num])
      ((s.updOutput n o fun l => { l with openDrain := od, activeHigh := hi }).updLines n fun u =>
        { u with cutSettle := if o = .cut then clamp 500 10000 v else u.cutSettle }) := by
  have hactive : ((s.updOutput n o fun l => { l with openDrain := od, activeHigh := hi }).output n o).active = false := by
    rw [updOutput_output, if_pos rfl]
    exact ha
  have hview : ((s.updOutput n o fun l => { l with openDrain := od, activeHigh := hi }).node n).lines.view = (s.node n).lines.view := by
    rw [State.updOutput, updLines_node_self]
  rw [configOutput, if_neg (by rw [ha]; exact Bool.false_ne_true)]
  by_cases ho : o = .cut
  · subst ho
    have hactive' : (((s.updOutput n .cut fun l => { l with openDrain := od, activeHigh := hi }).updLines n fun u =>
        { u with cutSettle := clamp 500 10000 v }).output n .cut).active = false := by
      rw [State.output, updLines_node_self]
      exact hactive
    have hview' : (((s.updOutput n .cut fun l => { l with openDrain := od, activeHigh := hi }).updLines n fun u =>
        { u with cutSettle := clamp 500 10000 v }).node n).lines.view = (s.node n).lines.view := by
      rw [updLines_node_self]
      exact hview
    have hclear : ((s.updOutput n .cut fun l => { l with openDrain := od, activeHigh := hi }).updLines n fun u =>
        { u with cutSettle := clamp 500 10000 v }).clearDue (.cutSettle n) =
          (s.updOutput n .cut fun l => { l with openDrain := od, activeHigh := hi }).updLines n fun u =>
            { u with cutSettle := clamp 500 10000 v } := clearDue_of_notMem (by exact hdue)
    simp only [if_true, true_and, decide_true, Bool.true_and, moved_eq, hclear, ite_self, hactive', hview']
    cases od <;> cases hi <;> rfl
  · have hsame : ((s.updOutput n o fun l => { l with openDrain := od, activeHigh := hi }).updLines n fun u => { u with cutSettle := u.cutSettle }) =
        s.updOutput n o fun l => { l with openDrain := od, activeHigh := hi } := updLines_of_eq rfl
    simp only [ho, if_false, hsame, hactive, hview, false_and, decide_false, Bool.false_and]
    cases o <;> cases od <;> cases hi <;> rfl

/-! ## The expiry of a pulse -/

/-- A pulse that expires ends on a line other than CUT (R83). -/
theorem withView_release (ho : o ≠ .cut) :
    withView n (releaseLine n o) s = s.updOutput n o fun l => { l with active := false, pulse := none } := by
  have hrelease : releaseLine n o s = s.updOutput n o fun l => { l with active := false, pulse := none } := driveLine_plain (.inl ho)
  rw [withView_same, hrelease]
  rw [hrelease, State.updOutput, updLines_node_self]

theorem exists_pulse (h : s.isDue (.pulse n o) = true) : ∃ p, (s.output n o).pulse = some p := by
  simp only [State.isDue, Bool.and_eq_true, expired] at h
  obtain ⟨-, hexpired⟩ := h
  cases hp : (s.output n o).pulse with
  | none => simp [hp] at hexpired
  | some p => exact ⟨p, rfl⟩

theorem pulseExpires_host {p : Pulse} (hp : (s.output n o).pulse = some p) (hs : p.source = .host) (ho : o ≠ .cut) :
    pulseExpires n o s = s.updOutput n o fun l => { l with active := false, pulse := none } := by
  rw [pulseExpires, hp, withView_release ho]
  simp [hs]

theorem pulseExpires_plan {p : Pulse} (hp : (s.output n o).pulse = some p) (hs : p.source = .plan) (ho : o ≠ .cut) {k : StepKind}
    (hw : s.waitingOn n .pulsing = some k) :
    pulseExpires n o s = completeStep n (s.updOutput n o fun l => { l with active := false, pulse := none }) := by
  have hwaits : (s.updOutput n o fun l => { l with active := false, pulse := none }).waitingOn n .pulsing = some k := by
    rw [← hw]
    simp [State.waitingOn, State.currentStep, State.planSteps]
  simp only [pulseExpires, hp, withView_release ho, hwaits, hs, decide_true, Option.isSome_some, and_self, if_true]

/-! ## The statement -/

/-- The actions of LINE_SET, with the level and the pulse each gives (section 11.1). -/
theorem exists_lineAction {action : Byte} (h : action.toNat ≤ 2) :
    ∃ a, lineActionOf action.toNat = some a ∧ a.level = decide (action.toNat ≠ 0) ∧ (a = .pulse ↔ action = 2) := by
  have hvalue : action = BitVec.ofNat 8 action.toNat := by simp
  generalize action.toNat = k at h hvalue
  subst hvalue
  interval_cases k
  · exact ⟨.set false, by decide⟩
  · exact ⟨.set true, by decide⟩
  · exact ⟨.pulse, by decide⟩

theorem LineAction.pulseOf_eq (a : LineAction) (now : Word32) (v : Nat) :
    a.pulseOf now v = if a = .pulse then some { source := .host, start := now, ms := if v = 0 then 1 else v } else none := by
  have hms : max 1 v = if v = 0 then 1 else v := by split <;> omega
  cases a
  · rfl
  · simp [pulseOf, hms]

theorem lineSetBytes_eq (a : LineAction) (now : Word32) (v : Nat) :
    flag1 a.level ++ byte1 (pulseSourceNum (a.pulseOf now v)) ++ le 2 (if a = .pulse then max 1 v else 0xFFFF) =
      [if a.level = true then 1 else 0, if a = .pulse then 1 else 0] ++
        (if a = .pulse then le 2 (if v = 0 then 1 else v) else [0xFF, 0xFF]) := by
  have hms : max 1 v = if v = 0 then 1 else v := by split <;> omega
  cases a with
  | set active =>
    simp only [reduceCtorEq, if_false]
    cases active <;> rfl
  | pulse =>
    simp only [if_true, hms]
    rfl

theorem driveLine_driven {a : LineAction} {v : Nat} {now : Word32} (h : (driveLine n o a.level (a.pulseOf now v) s).timebase = now) :
    (driveLine n o a.level (a.pulseOf now v) s).output n o = { s.output n o with
      active := a.level, pulse := a.pulseOf (driveLine n o a.level (a.pulseOf now v) s).timebase v } := by
  rw [h, driveLine_output, if_pos rfl]

section

variable {action : Byte} {v : Nat}

theorem lineSet_busy (h : Ready s) (tag : Byte) (hv : v < 65536) (ha : action.toNat ≤ 2) (hr : (s.node n).exec.run.isSome = true) :
    exec (.lineSet tag ([BitVec.ofNat 8 n, BitVec.ofNat 8 (outIdx o), action] ++ le 2 v)) s =
      .next ((heard s).enqueueReply 0x21 tag (Reply.refuse .busy)) := by
  obtain ⟨a, haction, -⟩ := exists_lineAction ha
  rw [exec_lineSet h tag n o haction hv, if_pos hr, replyTo_refused]

/-- On an IDLE executor a LINE_SET drives its line and answers with what it drives (R84). -/
theorem lineSet_idle (h : Ready s) (tag : Byte) (hv : v < 65536) (ha : action.toNat ≤ 2) (hr : (s.node n).exec.run = none) :
    exec (.lineSet tag ([BitVec.ofNat 8 n, BitVec.ofNat 8 (outIdx o), action] ++ le 2 v)) s =
      .next ((driveLine n o (decide (action.toNat ≠ 0))
        (if action = 2 then some { source := .host, start := s.timebase, ms := if v = 0 then 1 else v } else none)
          (heard s)).enqueueReply 0x21 tag (Reply.okay (decide (action = 2 ∧ v = 0))
          ([if decide (action.toNat ≠ 0) = true then 1 else 0, if action = 2 then 1 else 0]
            ++ (if action = 2 then le 2 (if v = 0 then 1 else v) else [0xFF, 0xFF])
            ++ [BitVec.ofNat 8 ((driveLine n o (decide (action.toNat ≠ 0))
        (if action = 2 then some { source := .host, start := s.timebase, ms := if v = 0 then 1 else v } else none)
          (heard s)).node n).lines.view.num]))) := by
  obtain ⟨a, haction, hlevel, hpulse⟩ := exists_lineAction ha
  have htime : (driveLine n o a.level (a.pulseOf s.timebase v) (heard s)).timebase = s.timebase := (sustains_driveLine ..).timebase
  rw [exec_lineSet h tag n o haction hv, if_neg (by rw [hr]; exact Bool.false_ne_true), replyTo_accepted,
    lineSetOp_idle (s := heard s) (by exact hr)]
  change Host.Outcome.next (State.enqueueReply _ _ _ (Reply.okay _ (lineSetFields (driveLine n o a.level (a.pulseOf s.timebase v) (heard s)) n o))) = _
  rw [lineSetFields_driven (a := a) (v := v) (driveLine_driven htime), htime, lineSetBytes_eq]
  simp only [LineAction.pulseOf_eq, hlevel, hpulse, heard_timebase]
  rfl

end

/-! ## CUT -/

section

variable {active : Bool} {pulse : Option Pulse}

theorem driveLine_cut_lines (h : (s.output n .cut).active ≠ active) : ((driveLine n .cut active pulse s).node n).lines =
    { (s.node n).lines with
      outputs := (s.node n).lines.outputs.set (outIdx .cut) { s.output n .cut with active := active, pulse := pulse },
      view := if active = true then .cutOff else if (s.node n).lines.pgood.active = true then .running else .standby,
      settleStart := if active = true then some s.timebase else none, cutFault := active && (s.node n).lines.cutFault } := by
  rw [driveLine_cut h, cutChanged_lines, computed_cut, State.updOutput, updLines_node_self]
  rfl

/-- A node that is cut off while RUNNING goes dark and loses its pull-up (R66, R72, R122). -/
theorem driveLine_cut_dark (h : (s.output n .cut).active ≠ true) (hv : (s.node n).lines.view = .running) :
    ((driveLine n .cut true pulse s).node n).tx.queue = [] ∧ ((driveLine n .cut true pulse s).node n).tx.inProgress = none ∧
      ((driveLine n .cut true pulse s).node n).window = [] ∧ ((driveLine n .cut true pulse s).node n).port.pullUp = false := by
  rw [driveLine_cut h, cutChanged, updLines_node_self]
  refine recomputeView_dark ?_ ?_
  · rw [State.updOutput, updLines_node_self]
    exact hv
  · rw [computed_cut, if_pos rfl]
    exact View.noConfusion

/-- A change of view by CUT is latched with both views (R86). -/
theorem driveLine_cut_detail (h : (s.output n .cut).active ≠ active)
    (hv : (s.node n).lines.view ≠ ((driveLine n .cut active pulse s).node n).lines.view)
    (hl : s.events.recs[(Source.node n .powerChange).id].level ≠ 0) :
    (driveLine n .cut active pulse s).events.recs[(Source.node n .powerChange).id].lastDetail =
      ((driveLine n .cut active pulse s).node n).lines.view.num + 256 * (s.node n).lines.view.num := by
  rw [driveLine_cut_lines h] at hv ⊢
  have hold : ((s.updOutput n .cut fun l => { l with active := active, pulse := pulse }).node n).lines.view = (s.node n).lines.view := by
    rw [State.updOutput, updLines_node_self]
  have hdetail := recomputeView_detail (s := s.updOutput n .cut fun l => { l with active := active, pulse := pulse }) (n := n)
    (by rw [computed_cut, hold]; exact hv.symm) hl
  rw [computed_cut, hold] at hdetail
  rw [driveLine_cut h, cutChanged]
  exact hdetail

end

/-- Settles O43. -/
theorem outputsAreDriven : Obligations.OutputsAreDriven := by
  unfold Obligations.OutputsAreDriven
  refine ⟨fun s tag n o action v h hv ha => ⟨lineSet_busy h tag hv ha, fun hr hplain => ?_, fun hr ho hcut => ?_⟩,
    fun s tag n o od hi v h hv => ⟨fun hactive => ?_, fun hidle hdue => ?_⟩,
    fun s n o hporst => ⟨live_fire_of_not_due hporst, fun hdue ho hhost => ?_, fun r k hdue hplan hr hw hlast ho => ?_⟩⟩
  · rw [lineSet_idle h tag hv ha hr, driveLine_plain (s := heard s) hplain, State.updOutput, updLines_node_self]
    rfl
  · subst ho
    have hlines := driveLine_cut_lines (s := heard s) (n := n) (active := decide (action.toNat ≠ 0))
      (pulse := if action = 2 then some { source := .host, start := s.timebase, ms := if v = 0 then 1 else v } else none) hcut
    refine ⟨_, lineSet_idle h tag hv ha hr, (driveLine_output ..).trans (if_pos rfl), congrArg LineUnit.view hlines,
      congrArg LineUnit.settleStart hlines, congrArg LineUnit.cutFault hlines, fun hv hactive => ?_,
      fun hv hl => driveLine_cut_detail (s := heard s) hcut hv hl⟩
    rw [hactive] at hcut
    simp only [hactive]
    exact driveLine_cut_dark (s := heard s) hcut hv
  · rw [exec_lineConfig_output h tag n o od hi hv, configOutput, if_pos (by exact hactive), replyTo_refused]
  · rw [exec_lineConfig_output h tag n o od hi hv, configOutput_idle (s := heard s) hidle hdue, replyTo_accepted, clamp]
    rfl
  · obtain ⟨p, hp⟩ := exists_pulse hdue
    exact (live_fired hporst hdue).trans (congrArg _ (pulseExpires_host (s := s.fired (.pulse n o)) hp (hhost p hp) ho))
  · obtain ⟨p, hp⟩ := exists_pulse hdue
    refine ⟨_, (live_fired hporst hdue).trans (congrArg _ (pulseExpires_plan (s := s.fired (.pulse n o)) hp (hplan p hp) ho hw)), ?_⟩
    have hrun : (((s.fired (.pulse n o)).updOutput n o fun l => { l with active := false, pulse := none }).node n).exec.run = some r := by
      rw [updOutput_exec]
      exact hr
    have houtput := endExec_output (result := .ok) (step := r.step) hrun o
    rw [if_neg (by simp), updOutput_output, if_pos rfl] at houtput
    rw [completeStep_last hrun (by exact hlast), houtput]
    exact ⟨rfl, rfl, endExec_exec hrun _ _⟩

end Sys2Proof.Machine

/-! # The inputs -/

namespace Sys2Proof.Machine

open Sys2Proof

variable {s : State} {n : Node} {i : Input}

/-! ## Changes of an input -/

theorem updInput_updInput (s : State) (n : Node) (i : Input) (f g : InLine → InLine) :
    (s.updInput n i f).updInput n i g = s.updInput n i fun l => g (f l) := by
  cases i <;> exact updLines_updLines ..

theorem updInput_congr {f g : InLine → InLine} (h : f ((s.node n).lines.input i) = g ((s.node n).lines.input i)) :
    s.updInput n i f = s.updInput n i g := by
  cases i
  · exact updLines_congr (congrArg (fun x => { (s.node n).lines with pgood := x }) h)
  · exact updLines_congr (congrArg (fun x => { (s.node n).lines with auxin := x }) h)

theorem updInput_input (s : State) (n : Node) (i : Input) (f : InLine → InLine) :
    ((s.updInput n i f).node n).lines.input i = f ((s.node n).lines.input i) := by
  cases i <;> rw [State.updInput, updLines_node_self] <;> rfl

/-! ## Accepted changes on an IDLE executor -/

theorem execOnInput_idle (h : (s.node n).exec.run = none) (i : Input) : execOnInput n i s = s := by
  rw [execOnInput, waitingOn_idle h]

/-- An accepted AUXIN is latched (R90). -/
theorem acceptedChange_auxin (h : (s.node n).exec.run = none) :
    acceptedChange n .auxin s = latch (.node n .auxChange) (if (s.node n).lines.auxin.active = true then 1 else 0) s :=
  execOnInput_idle (by rw [latch_node]; exact h) .auxin

/-- An accepted PGOOD gives the view, and clears the cut-fault flag when it is INACTIVE (R85, R88). -/
theorem acceptedChange_pgood (h : (s.node n).exec.run = none) : acceptedChange n .pgood s =
    (recomputeView n s).updLines n fun u => { u with cutFault := (s.node n).lines.pgood.active && u.cutFault } := by
  have hidle : ((recomputeView n s).node n).exec.run = none := by
    rw [(steady_recomputeView (.refl s) n).exec]
    exact h
  rw [acceptedChange, withView_idle hidle]
  cases hactive : (s.node n).lines.pgood.active
  · exact execOnInput_idle (s := (recomputeView n s).updLines n fun u => { u with cutFault := false })
      (by rw [updLines_node_self]; exact hidle) .pgood
  · have hsame : ((recomputeView n s).updLines n fun u => { u with cutFault := true && u.cutFault }) = recomputeView n s :=
      updLines_of_eq rfl
    rw [hsame]
    exact execOnInput_idle hidle _

/-! ## A pin takes a level -/

theorem pinChanges_returns {high : Bool} (h : high = ((s.node n).lines.input i).accepted) :
    pinChanges n i high s = s.updInput n i fun l => { l with pin := high, candidate := none } :=
  (if_pos h).trans (updInput_updInput ..)

/-- A level opposite the accepted one becomes a candidate, unless it is one (R79). -/
theorem pinChanges_candidate {high : Bool} (h : high ≠ ((s.node n).lines.input i).accepted)
    (hd : 0 < ((s.node n).lines.input i).debounce) : pinChanges n i high s = s.updInput n i fun l =>
      { l with pin := high, candidate := if l.candidate.isSome = true then l.candidate else some s.timebase } := by
  rw [pinChanges, if_neg h]
  split
  · rename_i hc
    exact updInput_congr (by rw [if_pos hc])
  · rename_i hc
    rw [if_neg hd.ne', updInput_updInput]
    exact updInput_congr (by rw [if_neg hc])

/-- Without a debounce time the level is accepted at once (R79). -/
theorem pinChanges_accepted {high : Bool} (h : high ≠ ((s.node n).lines.input i).accepted)
    (hd : ((s.node n).lines.input i).debounce = 0) (hc : ((s.node n).lines.input i).candidate = none) :
    pinChanges n i high s = acceptedChange n i (s.updInput n i fun l => { l with pin := high, accepted := high }) := by
  rw [pinChanges, if_neg h, if_neg (by simp [hc]), if_pos hd, acceptLevel, updInput_updInput]
  exact congrArg _ (updInput_congr (by rw [hc]))

theorem flipped_active (l : InLine) : ({ l with accepted := !l.accepted, candidate := none } : InLine).active = !l.active := by
  rw [InLine.active, InLine.active]
  cases l.accepted <;> cases l.activeHigh <;> rfl

/-! ## PGOOD is accepted -/

/-- The state in which an accepted level of PGOOD is handed on (R79). -/
def State.accepting (s : State) (n : Node) : State :=
  (s.fired (.debounce n .pgood)).updInput n .pgood fun l => { l with accepted := !l.accepted, candidate := none }

theorem accepting_lines (s : State) (n : Node) : ((s.accepting n).node n).lines = { (s.node n).lines with
    pgood := { (s.node n).lines.pgood with accepted := !(s.node n).lines.pgood.accepted, candidate := none } } := by
  rw [State.accepting, State.updInput, updLines_node_self]
  rfl

theorem accepting_active (s : State) (n : Node) :
    ((s.accepting n).node n).lines.pgood.active = !(s.node n).lines.pgood.active := by
  rw [accepting_lines]
  exact flipped_active _

theorem accepting_computed (s : State) (n : Node) : ((s.accepting n).node n).lines.computed =
    if (s.output n .cut).active = true then .cutOff else if (s.node n).lines.pgood.active = true then .standby else .running := by
  rw [LineUnit.computed, accepting_active, accepting_lines]
  cases (s.node n).lines.pgood.active <;> rfl

theorem debounceExpiry_pgood (hporst : s.porst = false) (hdue : s.isDue (.debounce n .pgood) = true) (hr : (s.node n).exec.run = none) :
    exec (.debounceExpiry n .pgood) s = .next ((recomputeView n (s.accepting n)).updLines n fun u =>
      { u with cutFault := !(s.node n).lines.pgood.active && u.cutFault }) := by
  rw [← accepting_active]
  exact (live_fired hporst hdue).trans (congrArg _ (acceptedChange_pgood (s := s.accepting n) (by
    rw [State.accepting, updInput_exec]
    exact hr)))

/-! ## LINE_CONFIG of AUXIN -/

theorem exec_lineConfig_auxin (h : Ready s) (tag : Byte) (n : Node) (drive : Byte) (hi : Bool) {v : Nat} (hv : v < 65536) :
    exec (.lineConfig tag ([BitVec.ofNat 8 n, 5, drive, if hi = true then 1 else 0] ++ le 2 v)) s =
      .next (replyTo 0x20 tag (configInput n .auxin hi v (heard s))) := by
  refine (live_request (k := 0x20) tag h (by decide) (by simp) rfl).trans ?_
  refine congrArg (fun x => Host.Outcome.next (replyTo 0x20 tag x)) ?_
  change lineConfigRequest _ _ = _
  have hnode : nodeOf (u8 ([BitVec.ofNat 8 n, 5, drive, if hi = true then 1 else 0] ++ le 2 v) 0) = some n := nodeOf_byte n
  have hline : lineOf (u8 ([BitVec.ofNat 8 n, 5, drive, if hi = true then 1 else 0] ++ le 2 v) 1) = some (.inr .auxin) := rfl
  have hhi : onOff (u8 ([BitVec.ofNat 8 n, 5, drive, if hi = true then 1 else 0] ++ le 2 v) 3) = some hi := by
    cases hi <;> rfl
  have htime : u16 ([BitVec.ofNat 8 n, 5, drive, if hi = true then 1 else 0] ++ le 2 v) 4 = v :=
    fieldAt_append_le_last [BitVec.ofNat 8 n, 5, drive, if hi = true then 1 else 0] 2 v hv
  simp only [lineConfigRequest, hnode, hline, hhi, htime]

/-- The state after AUXIN has taken its new configuration (R82). -/
def State.auxinSet (s : State) (n : Node) (hi : Bool) (time : Nat) : State :=
  s.updInput n .auxin fun l => { l with activeHigh := hi, debounce := time }

/-- A changed active level of AUXIN is an accepted change (R82). -/
theorem setInput_auxin (hr : (s.node n).exec.run = none) (hdue : .debounce n .auxin ∉ s.due) (hi : Bool) (time : Nat) :
    setInput n .auxin hi time s = if hi ≠ (s.node n).lines.auxin.activeHigh then
        latch (.node n .auxChange) (if (s.node n).lines.auxin.accepted = hi then 1 else 0) (s.auxinSet n hi time)
      else s.auxinSet n hi time := by
  have hrun : ((s.auxinSet n hi time).node n).exec.run = none := by
    rw [State.auxinSet, updInput_exec]
    exact hr
  have hclear : (s.auxinSet n hi time).clearDue (.debounce n .auxin) = s.auxinSet n hi time := clearDue_of_notMem hdue
  have hactive : ((s.auxinSet n hi time).node n).lines.auxin.active = ((s.node n).lines.auxin.accepted == hi) :=
    congrArg InLine.active (updInput_input s n .auxin _)
  rw [setInput]
  change (if _ then acceptedChange n .auxin (if _ then (s.auxinSet n hi time).clearDue (.debounce n .auxin) else s.auxinSet n hi time)
    else (if _ then (s.auxinSet n hi time).clearDue (.debounce n .auxin) else s.auxinSet n hi time)) = _
  rw [hclear, ite_self, acceptedChange_auxin hrun, hactive]
  simp only [beq_iff_eq]
  rfl

theorem setInput_auxin_lines (hr : (s.node n).exec.run = none) (hdue : .debounce n .auxin ∉ s.due) (hi : Bool) (time : Nat) :
    ((setInput n .auxin hi time s).node n).lines =
      { (s.node n).lines with auxin := { (s.node n).lines.auxin with activeHigh := hi, debounce := time } } := by
  have hset : ((s.auxinSet n hi time).node n).lines =
      { (s.node n).lines with auxin := { (s.node n).lines.auxin with activeHigh := hi, debounce := time } } := by
    rw [State.auxinSet, State.updInput, updLines_node_self]
  rw [setInput_auxin hr hdue]
  split
  · rw [latch_node, hset]
  · exact hset

/-- LINE_CONFIG of AUXIN answers with its new active level and its level (R81, R82). -/
theorem configInput_auxin (hr : (s.node n).exec.run = none) (hdue : .debounce n .auxin ∉ s.due) (hi : Bool) (v : Nat) :
    configInput n .auxin hi v s = accepted (decide (clamp 0 255 v ≠ v))
      ([5, 0, if hi = true then 1 else 0] ++ le 2 (clamp 0 255 v) ++
        [if (s.node n).lines.auxin.accepted = hi then 1 else 0, BitVec.ofNat 8 (s.node n).lines.view.num])
      (setInput n .auxin hi (clamp 0 255 v) s) := by
  have hactive : (({ (s.node n).lines with auxin := { (s.node n).lines.auxin with activeHigh := hi, debounce := clamp 0 255 v } } :
      LineUnit).input .auxin).active = ((s.node n).lines.auxin.accepted == hi) := rfl
  rw [configInput]
  rw [setInput_auxin_lines hr hdue, hactive, moved_eq, List.append_assoc]
  cases hi <;> cases (s.node n).lines.auxin.accepted <;> rfl

/-! ## The statement -/

/-- A change of view by PGOOD leaves its marker last, and its lines as R85 and R88 give them (R47, R85, R88). -/
theorem accepted_lines (s : State) (n : Node) : (((recomputeView n (s.accepting n)).updLines n fun u =>
      { u with cutFault := !(s.node n).lines.pgood.active && u.cutFault }).node n).lines = { (s.node n).lines with
    pgood := { (s.node n).lines.pgood with accepted := !(s.node n).lines.pgood.accepted, candidate := none },
    view := ((s.accepting n).node n).lines.computed, cutFault := !(s.node n).lines.pgood.active && (s.node n).lines.cutFault } := by
  rw [updLines_node_self, recomputeView_lines]
  dsimp only
  rw [accepting_lines]

theorem viewMarker_up (t : State) : viewMarker n .standby .running t = appendMarker n 1 1 t :=
  (if_neg View.noConfusion).trans (if_pos rfl)

theorem viewMarker_down (t : State) : viewMarker n .running .standby t = appendMarker n 2 1 t := if_pos rfl

theorem accepting_marker {view : View} (hc : ((s.accepting n).node n).lines.computed = view) (hv : view ≠ (s.node n).lines.view)
    {code detail : Nat} (hm : ∀ t, viewMarker n (s.node n).lines.view view t = appendMarker n code detail t) :
    ((recomputeView n (s.accepting n)).node n).hist.current.getLast? =
      some { seq := ((recomputeView n (s.accepting n)).node n).hist.next - 1, timestamp := s.timebase, body := .marker code detail } := by
  have hold : ((s.accepting n).node n).lines.view = (s.node n).lines.view := by rw [accepting_lines]
  have hchanged : ((s.accepting n).node n).lines.computed ≠ ((s.accepting n).node n).lines.view := by
    rw [hc, hold]
    exact hv
  exact recomputeView_marker hchanged fun t => by rw [hold, hc]; exact hm t

theorem accepting_dark (hc : ((s.accepting n).node n).lines.computed = .standby) (hold : (s.node n).lines.view = .running) :
    ((recomputeView n (s.accepting n)).node n).tx.queue = [] ∧ ((recomputeView n (s.accepting n)).node n).window = [] := by
  have hrunning : ((s.accepting n).node n).lines.view = .running := by rw [accepting_lines]; exact hold
  have hleaves : ((s.accepting n).node n).lines.computed ≠ .running := by
    rw [hc]
    decide
  obtain ⟨hqueue, -, hwindow, -⟩ := recomputeView_dark hrunning hleaves
  exact ⟨hqueue, hwindow⟩

/-- Settles O44. -/
theorem inputsAreFollowed : Obligations.InputsAreFollowed := by
  unfold Obligations.InputsAreFollowed
  refine ⟨fun s n i high => ⟨fun hporst => congrArg _ (if_pos hporst), fun hporst h => ?_, fun hporst h hd => ?_⟩,
    fun s n high hporst h hd hc hr => ?_, fun s n i hporst => live_fire_of_not_due hporst, fun s n hporst hdue hr => ?_,
    fun s n hporst hdue hr => ?_, fun s n hporst => ⟨live_fire_of_not_due hporst, fun hdue => ?_⟩,
    fun s tag n drive hi v h hv hr hdue => ?_⟩
  · exact congrArg _ ((if_neg (by simp [hporst])).trans (pinChanges_returns h))
  · exact congrArg _ ((if_neg (by simp [hporst])).trans (pinChanges_candidate h hd))
  · refine congrArg _ ((if_neg (by simp [hporst])).trans ((pinChanges_accepted (i := .auxin) h hd hc).trans ?_))
    rw [acceptedChange_auxin (by rw [updInput_exec]; exact hr)]
    have hinput := updInput_input s n .auxin fun l => { l with pin := high, accepted := high }
    have hactive : (((s.updInput n .auxin fun l => { l with pin := high, accepted := high }).node n).lines.auxin.active) =
        (high == (s.node n).lines.auxin.activeHigh) := congrArg InLine.active hinput
    rw [hactive]
    simp only [beq_iff_eq]
  · refine (live_fired hporst hdue).trans (congrArg _ ((acceptedChange_auxin (by rw [updInput_exec]; exact hr)).trans ?_))
    have hactive : (((s.fired (.debounce n .auxin)).updInput n .auxin fun l =>
        { l with accepted := !l.accepted, candidate := none }).node n).lines.auxin.active = !(s.node n).lines.auxin.active :=
      (congrArg InLine.active (updInput_input (s.fired (.debounce n .auxin)) n .auxin _)).trans (flipped_active _)
    change latch _ (if (((s.fired (.debounce n .auxin)).updInput n .auxin fun l =>
        { l with accepted := !l.accepted, candidate := none }).node n).lines.auxin.active = true then 1 else 0) _ = _
    rw [hactive]
    cases (s.node n).lines.auxin.active <;> rfl
  · have hview := congrArg LineUnit.view (accepted_lines s n)
    refine ⟨_, debounceExpiry_pgood hporst hdue hr, congrArg LineUnit.pgood (accepted_lines s n), hview.trans (accepting_computed s n),
      congrArg LineUnit.cutFault (accepted_lines s n), fun hold hnew => ?_, fun hold hnew => ?_⟩
    · rw [updLines_hist]
      exact accepting_marker (hview.symm.trans hnew) (by rw [hold]; decide) fun t => by rw [hold]; exact viewMarker_up t
    · rw [updLines_hist, updLines_tx, updLines_window]
      obtain ⟨hqueue, hwindow⟩ := accepting_dark (hview.symm.trans hnew) hold
      exact ⟨hqueue, hwindow, accepting_marker (hview.symm.trans hnew) (by rw [hold]; decide) fun t => by rw [hold]; exact viewMarker_down t⟩
  · refine (live_fired hporst hdue).trans (congrArg _ ?_)
    change cutSettleExpires n (s.fired (.cutSettle n)) = _
    change (if (s.node n).lines.pgood.active = true then _ else _) = _
    split
    · rename_i hactive
      refine congrArg (latch _ _) (updLines_congr ?_)
      change _ = { (s.node n).lines with
        settleStart := none, cutFault := (s.node n).lines.cutFault || (s.node n).lines.pgood.active }
      rw [hactive, Bool.or_true]
      rfl
    · rename_i hactive
      refine updLines_congr ?_
      change _ = { (s.node n).lines with
        settleStart := none, cutFault := (s.node n).lines.cutFault || (s.node n).lines.pgood.active }
      rw [Bool.eq_false_iff.2 hactive, Bool.or_false]
      rfl
  · rw [exec_lineConfig_auxin h tag n drive hi hv, configInput_auxin (s := heard s) (by exact hr) (by exact hdue), replyTo_accepted,
      setInput_auxin (s := heard s) (by exact hr) (by exact hdue)]
    have htime : clamp 0 255 v = if 255 < v then 255 else v := if_neg (Nat.not_lt_zero v)
    rw [htime]
    rfl

end Sys2Proof.Machine

/-! # The ports' sessions and the events of a bus -/

namespace Sys2Proof.Machine

open Sys2Proof

variable {s : State} {n : Node}

/-! ## A session ends -/

/-- The state of a port whose session ends, its context cleared (R124, R127). -/
def State.sessionLost (s : State) (n : Node) : State :=
  clearContext n (s.updPort n fun p => { p with control := none, pendingIn := none, pendingAddress := none })

theorem disconnect_eq (n : Node) (s : State) :
    disconnect n s = portChange n .disconnected ((s.sessionLost n).updPort n fun p => p.fresh p.restState) := rfl

/-- Nothing of the session is left but the settings, the descriptor set, the idle time and the answer (R124, R127). -/
theorem sessionLost_fresh (s : State) (n : Node) (st : PortState) : ((s.sessionLost n).node n).port.fresh st = { Port.reset with
    state := st, enabled := (s.node n).port.enabled, always := (s.node n).port.always, delay := (s.node n).port.delay,
    fullSpeedOnly := (s.node n).port.fullSpeedOnly, desc := (s.node n).port.desc, idleSince := (s.node n).port.idleSince,
    answer := (s.node n).port.answer } := by
  rw [State.sessionLost, clearContext_port, updPort_node_self]
  rfl

theorem sessionLost_settings (s : State) (n : Node) : ((s.sessionLost n).node n).port.enabled = (s.node n).port.enabled ∧
    ((s.sessionLost n).node n).port.fullSpeedOnly = (s.node n).port.fullSpeedOnly := by
  rw [State.sessionLost, clearContext_port, updPort_node_self]
  exact ⟨rfl, rfl⟩

theorem sessionLost_ctx (s : State) (n : Node) :
    ((s.sessionLost n).node n).ctx = { Context.reset with fwdTicket := (s.node n).ctx.fwdTicket } := by
  rw [State.sessionLost, clearContext_ctx, updPort_ctx]

theorem sessionLost_level (s : State) (n : Node) (i : Fin 52) : (s.sessionLost n).events.recs[i].level = s.events.recs[i].level :=
  level_of_levels (levels_clearContext ..) i

theorem portChange_detail (h : s.events.recs[(Source.node n .portChange).id].level ≠ 0) (c : PortCause) :
    (portChange n c s).events.recs[(Source.node n .portChange).id].lastDetail =
      c.num + 256 * (if (s.node n).port.high then 1 else 0) := latch_lastDetail h _

/-- A port that disconnects is at rest, with a context of the reset, and PORT_CHANGE is latched at FULL speed (R124). -/
theorem disconnect_node (n : Node) (s : State) :
    ((disconnect n s).node n).port = ((s.sessionLost n).node n).port.fresh (s.node n).port.restState ∧
      ((disconnect n s).node n).ctx = { Context.reset with fwdTicket := (s.node n).ctx.fwdTicket } ∧
      (s.events.recs[(Source.node n .portChange).id].level ≠ 0 →
        (disconnect n s).events.recs[(Source.node n .portChange).id].lastDetail = 2) := by
  obtain ⟨henabled, -⟩ := sessionLost_settings s n
  rw [disconnect_eq]
  refine ⟨?_, ?_, fun h => ?_⟩
  · rw [portChange_node, updPort_node_self, Port.restState, Port.restState, henabled]
  · rw [portChange_node, updPort_ctx, sessionLost_ctx]
  · rw [portChange_detail (by rw [updPort_events, sessionLost_level]; exact h), updPort_node_self]
    rfl

/-! ## The events of a bus -/

/-- A bus reset leaves DEFAULT at the settled speed, a cleared context, and PORT_CHANGE latched (R127, R128). -/
theorem busReset_node (h : (s.node n).port.pullUp = true) (answered : Bool) :
    ((busResetOp n answered s).node n).port = { ((s.sessionLost n).node n).port.fresh .defaulted with
        resetSeen := true, high := answered && !(s.node n).port.fullSpeedOnly, idleSince := s.timebase } ∧
      ((busResetOp n answered s).node n).ctx = { Context.reset with fwdTicket := (s.node n).ctx.fwdTicket } ∧
      (∀ e ∈ (busResetOp n answered s).cache.writes.toList, ∀ w, e.use = some w → w.node = n → w.cancelled = true) ∧
      (s.events.recs[(Source.node n .portChange).id].level ≠ 0 →
        (busResetOp n answered s).events.recs[(Source.node n .portChange).id].lastDetail =
          3 + 256 * (if (answered && !(s.node n).port.fullSpeedOnly) = true then 1 else 0)) := by
  have hop : busResetOp n answered s = portChange n .busReset ((s.sessionLost n).updPort n fun p =>
      { p.fresh .defaulted with resetSeen := true, high := answered && !p.fullSpeedOnly, idleSince := s.timebase }) := if_pos h
  obtain ⟨-, hspeed⟩ := sessionLost_settings s n
  rw [hop]
  refine ⟨?_, ?_, ?_, fun h => ?_⟩
  · rw [portChange_node, updPort_node_self, hspeed]
  · rw [portChange_node, updPort_ctx, sessionLost_ctx]
  · rw [portChange, latch_cache, updPort_cache]
    exact clearContext_writes n _
  · rw [portChange_detail (by rw [updPort_events, sessionLost_level]; exact h), updPort_node_self, hspeed]
    rfl

theorem pullUp_of_suspended (h : (s.node n).port.state = .suspended) : (s.node n).port.pullUp = true := by
  rw [Port.pullUp, h]

/-- Activity on the bus of a port that is not SUSPENDED starts its idle time again (R129). -/
theorem busActivity_awake (h : (s.node n).port.pullUp = true) (hs : (s.node n).port.state ≠ .suspended) :
    busActivityOp n s = s.updPort n fun q => { q with idleSince := s.timebase } := by
  rw [busActivityOp, if_pos h]
  split
  · rename_i hstate _
    exact absurd hstate hs
  · rfl

/-- A SUSPENDED port returns to the state it remembers (R129). -/
theorem busActivity_returns {r : PortState} (hs : (s.node n).port.state = .suspended) (hr : (s.node n).port.remembered = some r) :
    busActivityOp n s = latch (.node n .portChange) (5 + 256 * (if (s.node n).port.high = true then 1 else 0))
      (s.updPort n fun q => { q with idleSince := s.timebase, state := r, remembered := none }) := by
  have hback : (s.updPort n fun p => { p with idleSince := s.timebase }).updPort n (fun p => { p with state := r, remembered := none }) =
      s.updPort n fun q => { q with idleSince := s.timebase, state := r, remembered := none } := by
    simp [State.updPort, State.updNode]
  rw [busActivityOp, if_pos (pullUp_of_suspended hs), hs, hr]
  dsimp only
  rw [hback, portChange, updPort_node_self]
  rfl

/-- Settles O49. -/
theorem busEventsAct : Obligations.BusEventsAct := by
  unfold Obligations.BusEventsAct
  intro s n hporst
  have hlive (f : State → State) : live f s = .next (f s) := live_of_porst_eq_false hporst f
  refine ⟨fun answered h => ?_, fun answered h => ?_, live_fire_of_not_due hporst, fun hdue => ?_, fun h => ⟨?_, ?_⟩,
    fun h hs => ⟨?_, ?_⟩, fun r hs hr => ⟨?_, ?_⟩⟩
  · exact (hlive _).trans (congrArg _ (if_neg (by rw [h]; exact Bool.false_ne_true)))
  · obtain ⟨hport, hctx, hwrites, hdetail⟩ := busReset_node h answered
    refine ⟨_, hlive _, ?_, hctx, hwrites, hdetail⟩
    rw [hport, sessionLost_fresh]
  · refine (live_fired hporst hdue).trans (congrArg _ ?_)
    change portChange n .suspended ((s.fired (.suspend n)).updPort n _) = _
    rw [portChange, updPort_node_self]
    rfl
  · exact (hlive _).trans (congrArg _ (if_neg (by rw [h]; exact Bool.false_ne_true)))
  · exact (hlive _).trans (congrArg _ (if_neg (by rw [h]; exact Bool.false_ne_true)))
  · exact (hlive _).trans (congrArg _ (busActivity_awake h hs))
  · refine (hlive _).trans (congrArg _ ((if_pos h).trans ?_))
    rw [busActivity_awake h hs, setAnswer]
    simp [State.updPort, State.updNode, onBus]
  · exact (hlive _).trans (congrArg _ (busActivity_returns hs hr))
  · refine (hlive _).trans (congrArg _ ((if_pos (pullUp_of_suspended hs)).trans ?_))
    rw [busActivity_returns hs hr]
    rfl

end Sys2Proof.Machine

/-! # Ports that connect -/

namespace Sys2Proof.Machine

open Sys2Proof

variable {s : State} {n : Node}

/-! ## The connect conditions -/

theorem connectHolds_iff (s : State) (n : Node) : connectHolds s n = true ↔ (s.node n).port.enabled = true ∧ (s.node n).port.desc ≠ none ∧
    (s.node n).lines.view = .running ∧ ((s.node n).port.always = true ∨ (s.drive n 0).image ≠ none ∨ (s.drive n 1).image ≠ none) := by
  have hzero : (s.node n).drives[0] = s.drive n 0 := rfl
  have hone : (s.node n).drives[1] = s.drive n 1 := rfl
  simp only [connectHolds, connectConditions, hzero, hone, List.all_cons, List.all_nil, id, Bool.and_eq_true, Bool.or_eq_true,
    decide_eq_true_eq, Option.isSome_iff_ne_none, and_true, or_assoc, ne_eq]

/-- A port whose conditions hold stays as it is while its pull-up is applied or it is CONNECTING (R122). -/
theorem connectTest_stays (h : (s.node n).port.pullUp = true ∨ (s.node n).port.state = .connecting) (hc : connectHolds s n = true) :
    connectTest n s = s := by
  unfold connectTest
  dsimp only
  rw [if_pos hc, if_pos hc]
  split
  · rfl
  · rename_i hp
    exact if_pos (h.resolve_left hp)

/-- A port that is neither waits its connect delay when its conditions hold (R123). -/
theorem connectTest_starts (hp : (s.node n).port.pullUp = false) (hs : (s.node n).port.state ≠ .connecting) (hc : connectHolds s n = true)
    (hd : 0 < (s.node n).port.delay) :
    connectTest n s = s.updPort n fun p => { p with state := .connecting, connectStart := some s.timebase } := by
  unfold connectTest
  dsimp only
  rw [if_neg (by rw [hp]; exact Bool.false_ne_true), if_neg hs, if_pos hc, startConnect, if_neg hd.ne']

/-- A port without a pull-up that does not connect is at rest (R122). -/
theorem connectTest_rests (hp : (s.node n).port.pullUp = false) (hs : (s.node n).port.state ≠ .connecting) (hc : connectHolds s n ≠ true) :
    connectTest n s = s.updPort n fun p => { p with state := p.restState } := by
  unfold connectTest
  dsimp only
  rw [if_neg (by rw [hp]; exact Bool.false_ne_true), if_neg hs, if_neg hc]

/-- A CONNECTING port whose conditions fail is at rest, its timer stopped (R123). -/
theorem connectTest_abandons (hs : (s.node n).port.state = .connecting) (hc : connectHolds s n ≠ true) :
    connectTest n s = s.updPort n fun p => { p with state := p.restState, connectStart := none } := by
  have hp : (s.node n).port.pullUp ≠ true := by
    rw [Port.pullUp, hs]
    exact Bool.false_ne_true
  unfold connectTest
  dsimp only
  rw [if_neg hp, if_pos hs, if_neg hc]

theorem connectTest_drops (hp : (s.node n).port.pullUp = true) (hc : connectHolds s n ≠ true) : connectTest n s = disconnect n s := by
  unfold connectTest
  dsimp only
  rw [if_pos hp, if_neg hc]

/-! ## PORT_CONFIG -/

/-- The state of a port's new settings (R121). -/
def State.portSet (s : State) (n : Node) (en always fs : Bool) (delay : Nat) : State :=
  s.updPort n fun p => { p with enabled := en, always := always, delay := delay, fullSpeedOnly := fs }

/-- PORT_CONFIG answers with its settings and the port's state after the connect test (R121). -/
theorem exec_portConfig (h : Ready s) (tag : Byte) (n : Node) (en always fs : Bool) {v : Nat} (hv : v < 65536) (hdue : .connect n ∉ s.due) :
    exec (.portConfig tag ([BitVec.ofNat 8 n, if en = true then 1 else 0, if always = true then 1 else 0] ++ le 2 v
      ++ [if fs = true then 1 else 0])) s =
    .next ((connectTest n ((heard s).portSet n en always fs (clamp 0 10000 v))).enqueueReply 0x30 tag
      (Reply.okay (decide (clamp 0 10000 v ≠ v)) ([if en = true then 1 else 0, if always = true then 1 else 0] ++
        le 2 (clamp 0 10000 v) ++ [if fs = true then 1 else 0,
          BitVec.ofNat 8 ((connectTest n ((heard s).portSet n en always fs (clamp 0 10000 v))).node n).port.state.num]))) := by
  have hflag (b : Bool) : onOff (if b = true then (1 : Byte) else 0).toNat = some b := by cases b <;> rfl
  refine (live_request (k := 0x30) tag h (by decide) (by simp) rfl).trans ?_
  have hnode : nodeOf (u8 ([BitVec.ofNat 8 n, if en = true then 1 else 0, if always = true then 1 else 0] ++ le 2 v ++
      [if fs = true then 1 else 0]) 0) = some n := nodeOf_byte n
  have hen : onOff (u8 ([BitVec.ofNat 8 n, if en = true then 1 else 0, if always = true then 1 else 0] ++ le 2 v ++
      [if fs = true then 1 else 0]) 1) = some en := hflag en
  have halways : onOff (u8 ([BitVec.ofNat 8 n, if en = true then 1 else 0, if always = true then 1 else 0] ++ le 2 v ++
      [if fs = true then 1 else 0]) 2) = some always := hflag always
  have hfs : onOff (u8 ([BitVec.ofNat 8 n, if en = true then 1 else 0, if always = true then 1 else 0] ++ le 2 v ++
      [if fs = true then 1 else 0]) 5) = some fs := hflag fs
  have hdelay : u16 ([BitVec.ofNat 8 n, if en = true then 1 else 0, if always = true then 1 else 0] ++ le 2 v ++
      [if fs = true then 1 else 0]) 3 = v := by
    rw [List.append_assoc]
    exact fieldAt_append_le [BitVec.ofNat 8 n, if en = true then 1 else 0, if always = true then 1 else 0] _ 2 v hv
  have hset : setPort n en always (clamp 0 10000 v) fs (heard s) = connectTest n ((heard s).portSet n en always fs (clamp 0 10000 v)) := by
    have hclear : ((heard s).portSet n en always fs (clamp 0 10000 v)).clearDue (.connect n) =
        (heard s).portSet n en always fs (clamp 0 10000 v) := clearDue_of_notMem (by exact hdue)
    rw [setPort]
    change connectTest n (if clamp 0 10000 v ≠ (s.node n).port.delay then
      ((heard s).portSet n en always fs (clamp 0 10000 v)).clearDue (.connect n)
      else (heard s).portSet n en always fs (clamp 0 10000 v)) = _
    rw [hclear, ite_self]
  refine congrArg Host.Outcome.next ?_
  change replyTo 0x30 tag (portConfigRequest _ (heard s)) = _
  simp only [portConfigRequest, hnode, hen, halways, hfs, hdelay, hset, replyTo_accepted, moved_eq]
  cases en <;> cases always <;> rfl

theorem portSet_port (s : State) (n : Node) (en always fs : Bool) (delay : Nat) : ((s.portSet n en always fs delay).node n).port =
    { (s.node n).port with enabled := en, always := always, delay := delay, fullSpeedOnly := fs } := by
  rw [State.portSet, updPort_node_self]

theorem connectHolds_portSet (s : State) (n : Node) (en always fs : Bool) (delay : Nat) :
    connectHolds (s.portSet n en always fs delay) n = true ↔ en = true ∧ (s.node n).port.desc ≠ none ∧
      (s.node n).lines.view = .running ∧ (always = true ∨ (s.drive n 0).image ≠ none ∨ (s.drive n 1).image ≠ none) := by
  rw [connectHolds_iff, portSet_port, State.portSet, updPort_lines, State.drive, State.drive, updPort_drives]
  rfl

theorem portSet_pullUp (s : State) (n : Node) (en always fs : Bool) (delay : Nat) :
    ((s.portSet n en always fs delay).node n).port.pullUp = (s.node n).port.pullUp := by
  rw [portSet_port]
  rfl

theorem portSet_state (s : State) (n : Node) (en always fs : Bool) (delay : Nat) :
    ((s.portSet n en always fs delay).node n).port.state = (s.node n).port.state := by
  rw [portSet_port]

/-! ## DESC_LOAD -/

theorem entryAt_flatten (es : List (List Byte)) (k : Nat) : entryAt (es.map List.length) es.flatten k = es.getD k [] := by
  induction es generalizing k with
  | nil => simp [entryAt, bytesAt]
  | cons e es ih =>
    cases k with
    | zero => simp [entryAt, bytesAt]
    | succ k =>
      have hrest := ih k
      simp only [entryAt, bytesAt] at hrest ⊢
      simpa [← List.drop_drop] using hrest

/-- The entries of a descriptor set, in their order (section 11.7). -/
def DescSet.entries (d : DescSet) : List (List Byte) := [d.device, d.config] ++ d.strings.toList ++ d.inquiry.toList

theorem descEntries_length (d : DescSet) : d.entries.length = 8 := by simp [DescSet.entries]

theorem descLengths {n : Node} {d : DescSet} (h : ∀ e ∈ d.entries, e.length < 256) :
    (bytesAt (descRecord n d) 1 8).map BitVec.toNat = d.entries.map List.length := by
  have hlengths : bytesAt (descRecord n d) 1 8 = d.entries.map fun e => byteOf e.length := by
    have hbytes : (d.entries.map fun e => byteOf e.length).length = 8 := by rw [List.length_map, descEntries_length]
    change ((d.entries.map fun e => byteOf e.length) ++ d.entries.flatten).take 8 = _
    rw [← hbytes, List.take_left]
  rw [hlengths, List.map_map]
  refine List.map_congr_left fun e he => ?_
  have := h e he
  simp only [Function.comp_apply, byteOf, BitVec.toNat_ofNat]
  omega

/-- A descriptor set is read as it is sent (section 11.7). -/
theorem descOf_descRecord {n : Node} {d : DescSet} (h : ∀ e ∈ d.entries, e.length < 256) : descOf (descRecord n d) = d := by
  have hbody : (descRecord n d).drop 9 = d.entries.flatten := by
    have hbytes : (d.entries.map fun e => byteOf e.length).length = 8 := by rw [List.length_map, descEntries_length]
    change ((d.entries.map fun e => byteOf e.length) ++ d.entries.flatten).drop 8 = _
    rw [← hbytes, List.drop_left]
  unfold descOf
  rw [descLengths h, hbody]
  simp only [entryAt_flatten]
  obtain ⟨device, config, ⟨⟨strings⟩, hstrings⟩, ⟨⟨inquiry⟩, hinquiry⟩⟩ := d
  obtain ⟨a, b, c, d, rfl⟩ := List.length_eq_four.1 hstrings
  obtain ⟨e, f, rfl⟩ := List.length_eq_two.1 hinquiry
  rfl

theorem descRecord_length (n : Node) (d : DescSet) : (descRecord n d).length = 9 + (d.entries.map List.length).sum := by
  have hlengths : (d.entries.map fun e => byteOf e.length).length = 8 := by rw [List.length_map, descEntries_length]
  change ([byteOf n] ++ (d.entries.map fun e => byteOf e.length) ++ d.entries.flatten).length = _
  rw [List.length_append, List.length_append, hlengths, List.length_flatten]
  rfl

/-- DESC_LOAD of a descriptor set (R125). -/
theorem exec_descLoad (h : Ready s) (tag : Byte) (n : Node) {d : DescSet} (hd : ∀ e ∈ d.entries, e.length < 256)
    (hlen : (descRecord n d).length ≤ 600) : exec (.descLoad tag (descRecord n d)) s = .next (replyTo 0x31 tag
      (if (s.node n).port.pullUp = true then refused .busy (heard s)
      else if d.ok = true then
        match obtainDescPage n (heard s) with
        | none => refused .noSpace (heard s)
        | some t => accepted false [BitVec.ofNat 8 ((connectTest n (t.updPort n fun q => { q with desc := some d })).node n).port.state.num]
            (connectTest n (t.updPort n fun q => { q with desc := some d }))
      else refused .badArg (heard s))) := by
  have hlength : requestLength (0x31 : Byte).toNat (descRecord n d) = some true := by
    have hsum := descRecord_length n d
    change some (decide (9 ≤ (descRecord n d).length) && (descRecord n d).length == 9 + ((bytesAt (descRecord n d) 1 8).map BitVec.toNat).sum) = _
    rw [descLengths hd, hsum]
    simp
  refine (live_request (k := 0x31) tag h (by decide) hlen hlength).trans (congrArg (fun x => Host.Outcome.next (replyTo 0x31 tag x)) ?_)
  change descLoadRequest (descRecord n d) (heard s) = _
  have hnode : nodeOf (u8 (descRecord n d) 0) = some n := nodeOf_byte n
  simp only [descLoadRequest, hnode, descOf_descRecord hd]
  rfl

/-- A descriptor page comes from the free ones where the port holds none (R34). -/
theorem obtainDescPage_of_free (h : (s.node n).port.desc ≠ none ∨ 0 < s.pool.free) : obtainDescPage n s =
    some (s.updPool fun q => { q with free := if (s.node n).port.desc = none then q.free - 1 else q.free }) := by
  unfold obtainDescPage
  by_cases hd : (s.node n).port.desc = none
  · rw [if_neg (by simp [hd]), if_pos (h.resolve_left fun e => e hd)]
    simp only [hd, if_true]
  · rw [if_pos (Option.isSome_iff_ne_none.2 hd)]
    simp only [hd, if_false]
    rfl

/-- The state of a port with its descriptor set loaded (R34, R125). -/
def State.described (s : State) (n : Node) (d : DescSet) : State :=
  (s.updPool fun q => { q with free := if (s.node n).port.desc = none then q.free - 1 else q.free }).updPort n fun q =>
    { q with desc := some d }

theorem described_port (s : State) (n : Node) (d : DescSet) :
    ((s.described n d).node n).port = { (s.node n).port with desc := some d } := by
  rw [State.described, updPort_node_self]
  rfl

theorem described_lines (s : State) (n : Node) (d : DescSet) : ((s.described n d).node n).lines = (s.node n).lines := by
  rw [State.described, updPort_lines]
  rfl

theorem obtainDescPage_none (hd : (s.node n).port.desc = none) (hf : s.pool.free = 0) (hl : ∀ l ∈ s.cache.lines, l.evictable = false) :
    obtainDescPage n s = none := by
  have hevict : s.cache.lines.any Line.evictable = false := List.any_eq_false.2 fun l hl' => by simp [hl l hl']
  rw [obtainDescPage, if_neg (by simp [hd]), if_neg (by omega), evictLine, if_neg (by rw [hevict]; exact Bool.false_ne_true)]
  rfl

theorem updPort_updPort (s : State) (n : Node) (f g : Port → Port) : (s.updPort n f).updPort n g = s.updPort n fun p => g (f p) := by
  simp [State.updPort, State.updNode]

theorem updPort_congr {f g : Port → Port} (h : f (s.node n).port = g (s.node n).port) : s.updPort n f = s.updPort n g :=
  congrArg (fun x => s.updNode n fun c => { c with port := x }) h

theorem enqueueReply_node (s : State) (k t : Byte) (r : Reply) (n : Node) : (s.enqueueReply k t r).node n = s.node n := rfl

theorem enqueueReply_events (s : State) (k t : Byte) (r : Reply) : (s.enqueueReply k t r).events = s.events := rfl

/-- Settles O48. -/
theorem portsConnect : Obligations.PortsConnect := by
  unfold Obligations.PortsConnect
  refine ⟨fun s tag n en always fs v h hv hdue => ?_, fun s tag n d h hdevice hconfig hrest hlen => ?_,
    fun s n hporst => ⟨live_fire_of_not_due hporst, fun hdue => ?_⟩⟩
  · have hholds := connectHolds_portSet (heard s) n en always fs (clamp 0 10000 v)
    have hpull := portSet_pullUp (heard s) n en always fs (clamp 0 10000 v)
    have hstate := portSet_state (heard s) n en always fs (clamp 0 10000 v)
    have hport := portSet_port (heard s) n en always fs (clamp 0 10000 v)
    have hexec := exec_portConfig h tag n en always fs hv hdue
    have hclamp : clamp 0 10000 v = if 10000 < v then 10000 else v := if_neg (Nat.not_lt_zero v)
    have hmoved : decide ((if 10000 < v then 10000 else v) ≠ v) = decide (10000 < v) := by
      split
      · rename_i hover
        simp only [hover, decide_true, decide_eq_true_eq]
        omega
      · rename_i hover
        simp [hover]
    rw [hclamp] at hholds hpull hstate hport hexec
    rw [hmoved] at hexec
    clear hclamp hmoved
    dsimp only
    generalize (if 10000 < v then 10000 else v) = delay at *
    refine ⟨fun hp hs hc hd => ?_, fun hp hs hc => ?_, fun hs hc => ?_, fun hs hc => ?_, fun hp hc => ?_⟩
    · rw [connectTest_starts (hpull.trans hp) (by rw [hstate]; exact hs) (hholds.2 hc) (by rw [hport]; exact hd), updPort_node_self] at hexec
      exact hexec
    · have htest := (connectTest_rests (hpull.trans hp) (by rw [hstate]; exact hs) (mt hholds.1 hc)).trans
        (updPort_congr (g := fun p => { p with state := if en = true then .disconnected else .disabled }) (by rw [hport]; rfl))
      rw [htest, updPort_node_self] at hexec
      exact hexec
    · have htest := (connectTest_abandons (hstate.trans hs) (mt hholds.1 hc)).trans
        (updPort_congr (g := fun p => { p with state := if en = true then .disconnected else .disabled, connectStart := none })
          (by rw [hport]; rfl))
      rw [htest, updPort_node_self] at hexec
      exact hexec
    · rw [connectTest_stays (by rw [hpull, hstate]; exact hs) (hholds.2 hc), hstate] at hexec
      exact hexec
    · obtain ⟨hport', hctx, hdetail⟩ := disconnect_node n ((heard s).portSet n en always fs delay)
      rw [connectTest_drops (hpull.trans hp) (mt hholds.1 hc)] at hexec
      rw [sessionLost_fresh, hport] at hport'
      refine ⟨_, hexec, ?_, ?_, ?_⟩
      · rw [enqueueReply_node, hport']
        rfl
      · rw [enqueueReply_node, hctx, State.portSet, updPort_ctx]
        rfl
      · rw [enqueueReply_events]
        exact hdetail
  · have hentries : ∀ e ∈ d.entries, e.length < 256 := by
      intro e he
      simp only [DescSet.entries, List.append_assoc, List.mem_append, List.mem_cons, List.not_mem_nil, or_false] at he
      rcases he with (rfl | rfl) | he
      · exact hdevice
      · exact hconfig
      · exact hrest e (List.mem_append.2 he)
    have hexec := exec_descLoad h tag n hentries hlen
    refine ⟨fun hp => ?_, fun hp hok => ?_, fun hp hok hdesc hfree hlines => ?_, fun hp hok hpage hen hs => ?_,
      fun hp hok hdesc hfree hen hs halways hview hdelay => ?_⟩
    · rw [if_pos hp, replyTo_refused] at hexec
      exact hexec
    · rw [if_neg (by rw [hp]; exact Bool.false_ne_true), if_neg (by rw [hok]; exact Bool.false_ne_true), replyTo_refused] at hexec
      exact hexec
    · rw [if_neg (by rw [hp]; exact Bool.false_ne_true), if_pos hok,
        obtainDescPage_none (s := heard s) (by exact hdesc) (by exact hfree) (by exact hlines)] at hexec
      exact hexec
    · rw [if_neg (by rw [hp]; exact Bool.false_ne_true), if_pos hok, obtainDescPage_of_free (s := heard s) (by exact hpage)] at hexec
      have hport := described_port (heard s) n d
      have hcondition : connectHolds ((heard s).described n d) n ≠ true := by
        rw [Ne, connectHolds_iff, hport]
        exact fun ⟨henabled, _⟩ => absurd (henabled.symm.trans hen) (by decide)
      have htest : connectTest n ((heard s).described n d) = ((heard s).updPool fun q =>
          { q with free := if (s.node n).port.desc = none then q.free - 1 else q.free }).updPort n fun q =>
            { q with desc := some d, state := .disabled } :=
        (connectTest_rests (by rw [hport]; exact hp) (by rw [hport]; exact hs) hcondition).trans
          ((updPort_congr (g := fun p => { p with state := .disabled }) (by rw [hport, Port.restState]; simp only [heard_node, hen]; rfl)).trans
            (updPort_updPort ..))
      change _ = Host.Outcome.next (replyTo _ _ (accepted _ [BitVec.ofNat 8 ((connectTest n ((heard s).described n d)).node n).port.state.num]
        (connectTest n ((heard s).described n d)))) at hexec
      rw [htest, updPort_node_self, replyTo_accepted] at hexec
      exact hexec
    · have hport := described_port (heard s) n d
      have hcondition : connectHolds ((heard s).described n d) n = true := by
        rw [connectHolds_iff, hport, described_lines]
        exact ⟨hen, by simp, hview, .inl halways⟩
      rw [if_neg (by rw [hp]; exact Bool.false_ne_true), if_pos hok, obtainDescPage_of_free (s := heard s) (.inr hfree)] at hexec
      have htest : connectTest n ((heard s).described n d) = ((heard s).updPool fun q => { q with free := q.free - 1 }).updPort n fun q =>
            { q with desc := some d, state := .connecting, connectStart := some s.timebase } := by
        rw [connectTest_starts (by rw [hport]; exact hp) (by rw [hport]; exact hs) hcondition (by rw [hport]; exact hdelay), State.described,
          updPort_updPort]
        simp only [heard_node, hdesc, if_true]
        rfl
      change _ = Host.Outcome.next (replyTo _ _ (accepted _ [BitVec.ofNat 8 ((connectTest n ((heard s).described n d)).node n).port.state.num]
        (connectTest n ((heard s).described n d)))) at hexec
      rw [htest, updPort_node_self, replyTo_accepted] at hexec
      exact hexec
  · refine (live_fired hporst hdue).trans (congrArg _ ?_)
    change portChange n .connected ((s.fired (.connect n)).updPort n fun p => p.fresh .defaulted) = _
    rw [portChange, updPort_node_self]
    rfl

end Sys2Proof.Machine

/-! # Reads that wait -/

namespace Sys2Proof.Machine

open Sys2Proof

variable {s : State} {n : Node}

/-! ## A read that fails -/

@[simp] theorem enterStatus_pool (n : Node) (s : State) : (enterStatus n s).pool = s.pool := by
  unfold enterStatus
  dsimp only
  split <;> rfl

@[simp] theorem readFails_pool (n : Node) (x : Sense) (s : State) : (readFails n x s).pool = s.pool := by
  unfold readFails closeFailed
  dsimp only
  split
  · split
    · split <;> simp
    · rfl
  · rfl

/-- A failure leaves the line that was asked for to the detachment. -/
theorem readFails_ask (n : Node) (x : Sense) (s : State) : ((readFails n x s).node n).ctx.ask = (s.node n).ctx.ask := by
  have hstatus (t : State) : ((enterStatus n t).node n).ctx.ask = (t.node n).ctx.ask := by
    unfold enterStatus
    dsimp only
    split
    · rfl
    · rw [updCtx_node_self, updDrive_ctx]
  unfold readFails closeFailed
  dsimp only
  split
  · split
    · split
      · rw [updCtx_node_self, updCtx_node_self]
      · rw [hstatus, updCtx_node_self]
    · rw [updCtx_node_self]
  · rfl

/-- A read that fails has its sense for a result (R159). -/
theorem readFails_result {k : Command} (h : Reading s n k) (x : Sense) : ((readFails n x s).node n).ctx.result = .failed x := by
  obtain ⟨hcommand, hphase, hmode, hrunning, hresult, hpending⟩ := h
  rw [readFails, if_pos ⟨hphase, hrunning, hresult⟩]
  dsimp only
  rw [if_pos ⟨hmode, hpending⟩, closeFailed]
  split
  · rw [updCtx_node_self, updCtx_node_self]
  · rw [enterStatus_ctx (k := k) (by rw [updCtx_node_self]; exact hcommand), updCtx_node_self]

/-- A read that is not attached to a line has none to detach from (R173). -/
theorem detach_waiting {a : Ask} (h : (s.node n).ctx.ask = some a) (ha : a.state ≠ .attached) : detach n s = s := by
  simp only [detach, h]
  exact if_neg ha

theorem failRead_waiting {a : Ask} (h : (s.node n).ctx.ask = some a) (ha : a.state ≠ .attached) (x : Sense) :
    failRead n x s = (readFails n x s).updCtx n Context.forget := by
  rw [failRead, detach_waiting (by rw [readFails_ask]; exact h) ha]
  rfl

theorem cmdLun_of_command {k : Command} (h : (s.node n).ctx.command = some k) : s.cmdLun n = k.lun := by
  rw [State.cmdLun, h]

theorem mediaError_detail (h : s.events.recs[(Source.node n .mediaError).id].level ≠ 0) (c : MediaCause) (u : Lun) :
    (mediaError n c u s).events.recs[(Source.node n .mediaError).id].lastDetail = c.num + 256 * u := latch_lastDetail h _

/-- A waiting read that has waited too long fails with 03/11/00, and MEDIA_ERROR is latched (R176). -/
theorem waitExpires {t : State} {k : Command} {a : Ask} (h : Reading t n k) (ha : (t.node n).ctx.ask = some a) (hw : a.state ≠ .attached) :
    (mediaError n .fetchTimeout k.lun (failRead n senseRead t)).cache = t.cache ∧
    (mediaError n .fetchTimeout k.lun (failRead n senseRead t)).pool = t.pool ∧
    ((mediaError n .fetchTimeout k.lun (failRead n senseRead t)).node n).ctx.result = .failed { key := 3, code := 0x11, qualifier := 0 } ∧
    ((mediaError n .fetchTimeout k.lun (failRead n senseRead t)).node n).ctx.ask = none ∧
    (t.events.recs[(Source.node n .mediaError).id].level ≠ 0 →
      (mediaError n .fetchTimeout k.lun (failRead n senseRead t)).events.recs[(Source.node n .mediaError).id].lastDetail = 7 + 256 * k.lun) := by
  have hfail := failRead_waiting ha hw senseRead
  refine ⟨?_, ?_, ?_, ?_, fun hl => mediaError_detail (by rw [level_of_levels (levels_failRead ..)]; exact hl) ..⟩
  · rw [mediaError, latch_cache, hfail, updCtx_cache, readFails_cache]
  · rw [mediaError, latch_pool, hfail, updCtx_pool, readFails_pool]
  · rw [mediaError, latch_node, hfail, updCtx_node_self]
    exact readFails_result h senseRead
  · rw [mediaError, latch_node, hfail, updCtx_node_self]
    rfl

/-! ## The slot-wait list -/

theorem grantSlots_of_nil (h : s.cache.slotWait = []) : grantSlots s = s := by rw [grantSlots, h, grantList]

/-- Without a FREE slot no waiting read is granted one (R176). -/
theorem grantSlots_of_none (h : s.lowestFreeSlot = none) : grantSlots s = s := by
  unfold grantSlots
  cases s.cache.slotWait with
  | nil => rfl
  | cons w ws =>
    rw [grantList, h]

@[simp] theorem offerMedia_slotWait (i : Fin 16) (s : State) : (offerMedia (.fetch i) s).cache.slotWait = s.cache.slotWait := by
  unfold offerMedia sendMedia
  split
  · dsimp only
    split <;> rfl
  · rfl

theorem attachNew_slotWait (n : Node) (i : Fin 16) (s : State) : (attachNew n i s).cache.slotWait = s.cache.slotWait := by
  rw [attachNew, createLine, offerMedia_slotWait]
  rfl

/-- The state in which a slot is reserved for the one read that waits (R176). -/
def State.granting (s : State) (n : Node) (i : Fin 16) : State :=
  ((s.updCache fun c => { c with slotWait := [] }).setSlotUse i (.reserved n)).updPool fun p => { p with free := p.free - 8 }

/-- The one read that waits is attached to its new line, where the pages are free (R29, R176). -/
theorem grantSlots_grants {w : Waiter} {i : Fin 16} (hw : s.cache.slotWait = [w]) (hi : s.lowestFreeSlot = some i)
    (hroom : s.cache.lines.length < s.cache.limit ∧ 8 ≤ s.pool.free) : grantSlots s = attachNew w.node i (s.granting w.node i) := by
  have hgot : demandAlloc ((s.updCache fun c => { c with slotWait := [] }).setSlotUse i (.reserved w.node)) = .got (s.granting w.node i) :=
    demandAlloc_of_free (s := (s.updCache fun c => { c with slotWait := [] }).setSlotUse i (.reserved w.node)) hroom
  have hallocate : allocateFor w.node i ((s.updCache fun c => { c with slotWait := [] }).setSlotUse i (.reserved w.node)) =
      attachNew w.node i (s.granting w.node i) := by
    rw [allocateFor, hgot]
  rw [grantSlots, hw, grantList, hi]
  exact hallocate

/-! ## A read leaves its lists -/

/-- The state after a read has left the slot-wait list and the pool's waiting list (R31, R176). -/
def State.unlisted (s : State) (n : Node) : State :=
  (s.updCache fun c => { c with slotWait := c.slotWait.filter (·.node ≠ n) }).updPool fun p =>
    { p with waiting := p.waiting.filter (·.node ≠ n) }

theorem leaveLists_unreserved (h : s.reservedSlot n = none) : leaveLists n s = s.unlisted n := by
  have hunlisted : (s.unlisted n).reservedSlot n = none := h
  rw [leaveLists, h, dropWaits]
  change (match (s.unlisted n).reservedSlot n with
    | none => s.unlisted n
    | some i => (s.unlisted n).setSlotUse i .free) = _
  rw [hunlisted]

/-- The slot reserved for a read that leaves becomes FREE (R31). -/
theorem leaveLists_reserved {i : Fin 16} (h : s.reservedSlot n = some i) (hwait : s.cache.slotWait = []) :
    leaveLists n s = (s.unlisted n).setSlotUse i .free := by
  have hunlisted : (s.unlisted n).reservedSlot n = some i := h
  have hdrop : dropWaits n s = (s.unlisted n).setSlotUse i .free := by
    change (match (s.unlisted n).reservedSlot n with
      | none => s.unlisted n
      | some i => (s.unlisted n).setSlotUse i .free) = _
    rw [hunlisted]
  have hnil : ((s.unlisted n).setSlotUse i .free).cache.slotWait = [] := by
    change s.cache.slotWait.filter (·.node ≠ n) = []
    rw [hwait]
    rfl
  rw [leaveLists, h]
  exact (congrArg grantSlots hdrop).trans (grantSlots_of_nil hnil)

theorem reservedSlot_of_ne (h : ∀ i : Fin 16, s.cache.slots[i].use ≠ .reserved n) : s.reservedSlot n = none :=
  List.find?_eq_none.2 fun i _ => by simpa using h i

/-- Settles O57. -/
theorem waitingReadsEnd : Obligations.WaitingReadsEnd := by
  unfold Obligations.WaitingReadsEnd
  refine ⟨fun s hporst => ⟨fun h => ?_, fun w i k a hw hi hlimit hfree hk ha => ?_⟩,
    fun s n hporst => ⟨live_fire_of_not_due hporst, live_fire_of_not_due hporst⟩,
    fun s n k a hporst hread ha => ⟨fun hdue hwait hnone => ?_, fun i hdue hwait hi hslots => ?_⟩⟩
  · exact (live_of_porst_eq_false hporst grantSlots).trans (congrArg _ (h.elim grantSlots_of_nil grantSlots_of_none))
  · obtain ⟨b, -, hnew⟩ := attachNew_fetches (s := s.granting w.node i) (i := i) hk ha
    refine ⟨_, (live_of_porst_eq_false hporst grantSlots).trans (congrArg _ (grantSlots_grants hw hi ⟨hlimit, hfree⟩)),
      attachNew_slotWait .., congrArg Pool.free hnew.pool, hnew.ticket.trans ?_, hnew.use, hnew.lines⟩
    have hslot := congrArg FetchSlot.ticket (slot_updSlot (s.updCache fun c => { c with slotWait := [] }) i fun x =>
      { x with use := .reserved w.node })
    exact congrArg (· + 1) hslot
  · have hleft := leaveLists_unreserved (s := s.fired (.slotWait n)) (reservedSlot_of_ne (s := s.fired (.slotWait n)) hnone)
    obtain ⟨hcache, -, hresult, hask, hdetail⟩ := waitExpires (t := (s.fired (.slotWait n)).unlisted n) hread ha
      (by rw [hwait]; decide)
    have hop : slotWaitExpires n (s.fired (.slotWait n)) =
        mediaError n .fetchTimeout k.lun (failRead n senseRead ((s.fired (.slotWait n)).unlisted n)) := by
      rw [slotWaitExpires, hleft, cmdLun_of_command (s := s.fired (.slotWait n)) hread.1]
    exact ⟨_, (live_fired hporst hdue).trans (congrArg _ hop), congrArg Cache.slotWait hcache, hresult, hask, hdetail⟩
  · have hleft := leaveLists_reserved (s := s.fired (.allocationWait n)) hi hslots
    obtain ⟨hcache, hpool, hresult, hask, hdetail⟩ := waitExpires
      (t := ((s.fired (.allocationWait n)).unlisted n).setSlotUse i .free) hread ha (by rw [hwait]; decide)
    have hop : allocationExpires n (s.fired (.allocationWait n)) =
        mediaError n .fetchTimeout k.lun (failRead n senseRead (((s.fired (.allocationWait n)).unlisted n).setSlotUse i .free)) := by
      rw [allocationExpires, hleft, cmdLun_of_command (s := s.fired (.allocationWait n)) hread.1]
    refine ⟨_, (live_fired hporst hdue).trans (congrArg _ hop), hpool, ?_, hresult, hask, hdetail⟩
    rw [hcache, setSlotUse_use, if_pos rfl]

end Sys2Proof.Machine

/-! # The end of a fetch -/

namespace Sys2Proof.Machine

open Sys2Proof

variable {s : State} {n : Node} {i : Fin 16}

/-! ## Where no allocation waits -/

/-- Where no allocation waits, a detachment changes the pins of the node's lines and what its read asked for (R173). -/
theorem detach_drained (h : s.pool.waiting = []) (n : Node) : ∃ g, Unpins n g ∧
    (detach n s = s.updCache (Cache.unpin g) ∨ detach n s = (s.updCtx n Context.forget).updCache (Cache.unpin g)) := by
  cases ha : (s.node n).ctx.ask with
  | none => exact ⟨id, unpins_id n, .inl (by simp only [detach, ha]; exact (updCache_unpin_id s).symm)⟩
  | some a =>
    by_cases hattached : a.state = .attached
    · refine ⟨fun l => if l.isFor n (s.cmdLun n) a.generation a.index then { l with pins := l.pins - 1 } else l,
        fun l => ⟨?_, fun hl => if_neg (by simp [Line.isFor, hl])⟩, .inr ?_⟩
      · dsimp only
        split
        · exact ⟨_, rfl⟩
        · exact ⟨l.pins, rfl⟩
      · simp only [detach, ha]
        rw [if_pos hattached]
        split
        · rfl
        · rw [retryWaiting_of_nil (by exact h), ite_self]
          rfl
    · exact ⟨id, unpins_id n, .inl (by rw [detach_waiting ha hattached]; exact (updCache_unpin_id s).symm)⟩

/-- Where no allocation waits, a read that fails is told of no further line, and only the pins of its node's lines change
(R159, R173). -/
theorem failRead_drained (h : s.pool.waiting = []) (n : Node) (x : Sense) : ∃ g, Unpins n g ∧
    failRead n x s = ((readFails n x s).updCtx n Context.forget).updCache (Cache.unpin g) := by
  obtain ⟨g, hg, e⟩ := detach_drained (s := readFails n x s) (by rw [readFails_pool]; exact h) n
  refine ⟨g, hg, ?_⟩
  rcases e with e | e
  · exact congrArg (State.updCtx · n Context.forget) e
  · refine (congrArg (State.updCtx · n Context.forget) e).trans ?_
    exact congrArg (State.updCache · (Cache.unpin g)) (updCtx_updCtx (readFails n x s) n Context.forget Context.forget)

/-- The state of a lost fetch of a FETCHING line, before its reader is told (R175, R179). -/
def State.fetchLost (s : State) (i : Fin 16) (l : Line) (c : MediaCause) : State := mediaError l.node c l.lun (fetchFreed i s)

theorem fetchFails_drained {l : Line} (hl : s.slotLine i = some l) (hs : l.state = .fetching i) (hslots : s.cache.slotWait = [])
    (hwait : s.pool.waiting = []) (c : MediaCause) (x : Sense) :
    fetchFails i c x s = if 0 < l.pins then failRead l.node x (s.fetchLost i l c) else s.fetchLost i l c := by
  have hfreed : grantSlots (retryWaiting ((freeSlotLine i (withdraw (.fetch i) s)).setSlotUse i .free)) = fetchFreed i s := by
    change grantSlots (retryWaiting (fetchFreed i s)) = _
    rw [retryWaiting_of_nil (by exact hwait), grantSlots_of_nil (by exact hslots)]
  simp only [fetchFails, hl, hs, hfreed]
  rfl

theorem fetchFails_unread {l : Line} (hl : s.slotLine i = some l) (hs : l.state = .fetching i) (hp : l.pins = 0)
    (hslots : s.cache.slotWait = []) (hwait : s.pool.waiting = []) (c : MediaCause) (x : Sense) :
    fetchFails i c x s = latch (.node l.node .mediaError) (c.num + 256 * l.lun)
      ((((s.updLink fun q => { q with waiting := q.waiting.filter (· ≠ .fetch i) }).updCache fun q =>
          { q with lines := q.lines.eraseP fun x => x.inSlot i }).updPool fun q => { q with free := q.free + 8 }).updSlot i fun x =>
        { x with use := .free }) :=
  (fetchFails_drained hl hs hslots hwait c x).trans (if_neg (by rw [hp]; exact lt_irrefl 0))

theorem fetchFails_read {l : Line} (hl : s.slotLine i = some l) (hs : l.state = .fetching i) (hp : 0 < l.pins)
    (hslots : s.cache.slotWait = []) (hwait : s.pool.waiting = []) (c : MediaCause) (x : Sense) :
    fetchFails i c x s = failRead l.node x (s.fetchLost i l c) :=
  (fetchFails_drained hl hs hslots hwait c x).trans (if_pos hp)

theorem inSlot_of_slotLine {l : Line} (hl : s.slotLine i = some l) : l.inSlot i = true :=
  List.find?_some (p := fun x : Line => x.inSlot i) hl

/-- Erasing the first element that a test picks leaves one less of them. -/
theorem length_filter_eraseP {α : Type} {p : α → Bool} {l : List α} (h : l.any p = true) :
    ((l.eraseP p).filter p).length + 1 = (l.filter p).length := by
  induction l with
  | nil => simp at h
  | cons a l ih =>
    by_cases hp : p a = true
    · simp [hp]
    · have hrest : l.any p = true := by simpa [hp] using h
      simpa [hp] using ih hrest

theorem forget_result (x : Context) : x.forget.result = x.result := rfl

theorem fetchFreed_use (i : Fin 16) (s : State) : (fetchFreed i s).cache.slots[i].use = .free := by
  rw [fetchFreed, setSlotUse_use, if_pos rfl]

/-- The read that waits for a lost fetch fails; slot and line are free (R175, R179). -/
theorem fetchLost_reader {l : Line} {q : Command} (hl : s.slotLine i = some l) (hwait : s.pool.waiting = []) (h : Reading s l.node q)
    (c : MediaCause) (x : Sense) :
    ((failRead l.node x (s.fetchLost i l c)).node l.node).ctx.result = .failed x ∧
      (failRead l.node x (s.fetchLost i l c)).cache.slots[i].use = .free ∧
      (failRead l.node x (s.fetchLost i l c)).pool.free = s.pool.free + 8 ∧
      ((failRead l.node x (s.fetchLost i l c)).cache.lines.filter fun y => y.inSlot i).length + 1 =
        (s.cache.lines.filter fun y => y.inSlot i).length := by
  have hnode : (s.fetchLost i l c).node l.node = s.node l.node := latch_node ..
  have hread : Reading (s.fetchLost i l c) l.node q := by
    unfold Reading
    rw [hnode]
    exact h
  have hcache : (s.fetchLost i l c).cache = (fetchFreed i s).cache := latch_cache ..
  have hpool : (s.fetchLost i l c).pool = (fetchFreed i s).pool := latch_pool ..
  obtain ⟨g, hg, hfail⟩ := failRead_drained (s := s.fetchLost i l c) (by rw [hpool]; exact hwait) l.node x
  have hslot : (fun y : Line => y.inSlot i) ∘ g = fun y => y.inSlot i := funext fun y => by
    obtain ⟨⟨k, hk⟩, -⟩ := hg y
    simp [hk, Line.inSlot]
  rw [hfail]
  refine ⟨?_, ?_, ?_, ?_⟩
  · rw [updCache_node, updCtx_node_self, forget_result]
    exact readFails_result hread x
  · change (readFails l.node x (s.fetchLost i l c)).cache.slots[i].use = _
    rw [readFails_cache, hcache]
    exact fetchFreed_use i s
  · rw [updCache_pool, updCtx_pool, readFails_pool, hpool]
    rfl
  · change (((readFails l.node x (s.fetchLost i l c)).cache.lines.map g).filter fun y => y.inSlot i).length + 1 = _
    rw [readFails_cache, hcache, List.filter_map, List.length_map, hslot]
    exact length_filter_eraseP (List.any_eq_true.2 ⟨l, List.mem_of_find?_eq_some hl, inSlot_of_slotLine hl⟩)

/-! ## Answers that are current -/

theorem fetchCurrent_far {slot : Nat} (h : 16 ≤ slot) (ticket generation : Nat) : fetchCurrent s slot ticket generation = none := by
  have hindex : indexOf 16 slot = none := dif_neg (by omega)
  rw [fetchCurrent, hindex]

/-- An answer is current for its SENT slot with its ticket and generation, and for no other (R178). -/
theorem fetchCurrent_eq {l : Line} {start : Word32} {ms : Nat} (hu : s.cache.slots[i].use = .sent start ms)
    (hl : s.slotLine i = some l) : fetchCurrent s i s.cache.slots[i].ticket.toNat l.generation.toNat = some (i, l) := by
  have hindex : indexOf 16 (i : Nat) = some i := indexOf_val i
  simp only [fetchCurrent, hindex, hu, hl, and_self, if_true]

theorem fetchCurrent_stale {ticket generation : Byte} (h : (∀ start ms, s.cache.slots[i].use ≠ .sent start ms) ∨
    s.cache.slots[i].ticket ≠ ticket ∨ ∀ l, s.slotLine i = some l → l.generation ≠ generation) :
    fetchCurrent s i ticket.toNat generation.toNat = none := by
  have hindex : indexOf 16 (i : Nat) = some i := indexOf_val i
  simp only [fetchCurrent, hindex]
  split
  · rename_i start ms l hu hl
    refine if_neg fun ⟨ht, hg⟩ => ?_
    rcases h with h | h | h
    · exact h start ms hu
    · exact h (BitVec.eq_of_toNat_eq ht)
    · exact h l hl (BitVec.eq_of_toNat_eq hg)
  · rfl

/-! ## FETCH_DATA and FETCH_FAIL -/

theorem exec_fetchData (h : Fresh s) (ho : s.link.online = .online) (tag slot ticket generation k : Byte) {data : List Byte}
    (hmin : 1 ≤ data.length) (hmax : data.length ≤ 512) :
    exec (.fetchData tag ([slot, ticket, generation, k] ++ data)) s =
      .next (fetchDataAnswer ([slot, ticket, generation, k] ++ data) (heard s)) := by
  have hp : ([slot, ticket, generation, k] ++ data).length = 4 + data.length := by simp; omega
  have hl : answerLengthOk 0x60 ([slot, ticket, generation, k] ++ data) = true := by
    simp only [answerLengthOk, Bool.and_eq_true, decide_eq_true_eq]
    omega
  exact live_answer (a := 0x60) tag h ho (by decide) (by omega) hl

theorem exec_fetchFail (h : Fresh s) (ho : s.link.online = .online) (tag slot ticket generation k : Byte) :
    exec (.fetchFail tag [slot, ticket, generation, k]) s = .next (fetchFailAnswer [slot, ticket, generation, k] (heard s)) :=
  live_answer (a := 0x61) tag h ho (by decide) (by simp) rfl

section

variable {slot ticket generation : Byte}

theorem fetchDataAnswer_stale (h : fetchCurrent s slot.toNat ticket.toNat generation.toNat = none)
    (k : Byte) (data : List Byte) : fetchDataAnswer ([slot, ticket, generation, k] ++ data) s = latch .staleAnswer 0x60 s := by
  have hcurrent : fetchCurrent s (u8 ([slot, ticket, generation, k] ++ data) 0) (u8 ([slot, ticket, generation, k] ++ data) 1)
      (u8 ([slot, ticket, generation, k] ++ data) 2) = none := h
  simp only [fetchDataAnswer, hcurrent]
  rfl

theorem fetchFailAnswer_stale (h : fetchCurrent s slot.toNat ticket.toNat generation.toNat = none)
    (k : Byte) : fetchFailAnswer [slot, ticket, generation, k] s = latch .staleAnswer 0x61 s := by
  have hcurrent : fetchCurrent s (u8 [slot, ticket, generation, k] 0) (u8 [slot, ticket, generation, k] 1)
      (u8 [slot, ticket, generation, k] 2) = none := h
  simp only [fetchFailAnswer, hcurrent]
  rfl

variable {l : Line} (h : fetchCurrent s slot.toNat ticket.toNat generation.toNat = some (i, l)) {k : Byte} {data : List Byte}

include h

/-- A chunk of a bad index or length fails the fetch (R178). -/
theorem fetchDataAnswer_bad (hbad : 8 ≤ k.toNat ∨ chunkCount ((s.drive l.node l.lun).lineLength l.index) ≤ k.toNat ∨
      data.length ≠ chunkLength ((s.drive l.node l.lun).lineLength l.index) k.toNat) :
    fetchDataAnswer ([slot, ticket, generation, k] ++ data) s = fetchFails i .badChunk senseRead s := by
  have hcurrent : fetchCurrent s (u8 ([slot, ticket, generation, k] ++ data) 0) (u8 ([slot, ticket, generation, k] ++ data) 1)
      (u8 ([slot, ticket, generation, k] ++ data) 2) = some (i, l) := h
  have hk : u8 ([slot, ticket, generation, k] ++ data) 3 = k.toNat := rfl
  have hdata : ([slot, ticket, generation, k] ++ data).drop 4 = data := rfl
  simp only [fetchDataAnswer, hcurrent, hk, hdata]
  cases hindex : indexOf 8 k.toNat with
  | none => rfl
  | some j =>
    have hj : (j : Nat) = k.toNat := (val_of_indexOf (v := k.toNat) hindex).symm
    have hlt := j.isLt
    exact if_pos (by rw [hj]; exact hbad.resolve_left (by omega))

/-- A good chunk is stored, unless it has been received (R178). -/
theorem fetchDataAnswer_good {j : Fin 8} (hj : (j : Nat) = k.toNat)
    (hcount : (j : Nat) < chunkCount ((s.drive l.node l.lun).lineLength l.index))
    (hlength : data.length = chunkLength ((s.drive l.node l.lun).lineLength l.index) j) :
    fetchDataAnswer ([slot, ticket, generation, k] ++ data) s = if l.chunks[j].isSome then s else storeChunk i j data s := by
  have hcurrent : fetchCurrent s (u8 ([slot, ticket, generation, k] ++ data) 0) (u8 ([slot, ticket, generation, k] ++ data) 1)
      (u8 ([slot, ticket, generation, k] ++ data) 2) = some (i, l) := h
  have hindex : indexOf 8 (u8 ([slot, ticket, generation, k] ++ data) 3) = some j := (congrArg (indexOf 8) hj.symm).trans (indexOf_val j)
  have hdata : ([slot, ticket, generation, k] ++ data).drop 4 = data := rfl
  simp only [fetchDataAnswer, hcurrent, hindex, hdata]
  exact if_neg fun e => e.elim (by omega) fun e => e hlength

theorem fetchFailAnswer_current : fetchFailAnswer [slot, ticket, generation, k] s =
    fetchFails i (if k = 2 then .fetchGone else .fetchReadError) senseRead s := by
  have hcurrent : fetchCurrent s (u8 [slot, ticket, generation, k] 0) (u8 [slot, ticket, generation, k] 1)
      (u8 [slot, ticket, generation, k] 2) = some (i, l) := h
  have hk : u8 [slot, ticket, generation, k] 3 = 2 ↔ k = 2 := BitVec.toNat_inj (y := 2)
  simp only [fetchFailAnswer, hcurrent, hk]

end

/-! ## A chunk is stored -/

/-- A line with a chunk stored (R178). -/
def Line.stored (l : Line) (j : Fin 8) (data : List Byte) : Line := { l with chunks := l.chunks.set j (some data) }

/-- The state in which a chunk stands in the line of its slot (R178). -/
def State.chunkStored (s : State) (i : Fin 16) (j : Fin 8) (data : List Byte) : State :=
  s.updCache fun c => { c with lines := c.lines.map fun x => if x.inSlot i = true then x.stored j data else x }

theorem chunkStored_slotLine {l : Line} (hl : s.slotLine i = some l) (j : Fin 8) (data : List Byte) :
    (s.chunkStored i j data).slotLine i = some (l.stored j data) := by
  have hin : (fun x : Line => x.inSlot i) ∘ (fun x => if x.inSlot i = true then x.stored j data else x) = fun x => x.inSlot i := by
    funext x
    dsimp only [Function.comp_apply]
    split <;> rfl
  have hfind : (s.cache.lines.find? fun x => x.inSlot i) = some l := hl
  change (s.cache.lines.map fun x => if x.inSlot i = true then x.stored j data else x).find? (fun x => x.inSlot i) = _
  rw [List.find?_map, hin, hfind, Option.map_some, if_pos (inSlot_of_slotLine hl)]

theorem storeChunk_eq {l : Line} (hl : s.slotLine i = some l) (j : Fin 8) (data : List Byte) : storeChunk i j data s =
    if (l.stored j data).complete ((s.drive l.node l.lun).lineLength l.index) = true then
      fetchCompletes i (l.stored j data) (s.chunkStored i j data) else s.chunkStored i j data := by
  have hline := chunkStored_slotLine hl j data
  unfold storeChunk
  change (match (s.chunkStored i j data).slotLine i with
    | none => s.chunkStored i j data
    | some x => if x.complete (((s.chunkStored i j data).drive x.node x.lun).lineLength x.index) then
        fetchCompletes i x (s.chunkStored i j data) else s.chunkStored i j data) = _
  rw [hline]
  rfl

/-- The last chunk of a line with a reader makes it VALID, and frees its slot (R178). -/
theorem fetchCompletes_pinned {l : Line} (hs : l.state = .fetching i) (hp : 0 < l.pins) (hslots : s.cache.slotWait = [])
    (j : Fin 8) (data : List Byte) : fetchCompletes i (l.stored j data) (s.chunkStored i j data) =
      (s.updCache fun c =>
        { c with lines := c.lines.map fun x => if x.inSlot i = true then { x.stored j data with state := .valid } else x }).updSlot i
          fun x => { x with use := .free } := by
  have hvalid : ((s.chunkStored i j data).updCache fun c =>
      { c with lines := c.lines.map fun x => if x.inSlot i then { x with state := .valid } else x }) =
      (s.updCache fun c =>
        { c with lines := c.lines.map fun x => if x.inSlot i = true then { x.stored j data with state := .valid } else x }) := by
    have hboth : (fun x : Line => if x.inSlot i = true then { x with state := .valid } else x) ∘
        (fun x => if x.inSlot i = true then x.stored j data else x) =
        (fun x => if x.inSlot i = true then { x.stored j data with state := .valid } else x) := by
      funext x
      by_cases hx : x.inSlot i = true
      · have hstored : (x.stored j data).inSlot i = true := hx
        simp only [Function.comp_apply, hx, hstored, if_true]
      · have hstored : (if x.inSlot i = true then x.stored j data else x) = x := if_neg hx
        rw [Function.comp_apply, hstored, if_neg hx, if_neg hx]
    simp only [State.chunkStored, State.updCache, List.map_map, hboth]
  have hstate : (l.stored j data).state = .fetching i := hs
  have hpins : ¬(l.stored j data).pins = 0 := hp.ne'
  simp only [fetchCompletes, hstate, hvalid]
  rw [if_neg hpins, grantSlots_of_nil (by exact hslots)]
  rfl

/-! ## The statement -/

theorem chunkCount_eq (len : Nat) : chunkCount len = (len + 511) / 512 := by
  unfold chunkCount Config.chunkBytes
  omega

/-- Settles O56. -/
theorem fetchesEnd : Obligations.FetchesEnd := by
  unfold Obligations.FetchesEnd
  refine ⟨fun s tag slot ticket generation k data h ho hmin hmax => ?answers, fun s i l hporst => ?timeout⟩
  case answers =>
    have hdata := exec_fetchData h ho tag slot ticket generation k hmin hmax
    have hfail := exec_fetchFail h ho tag slot ticket generation k
    have hstale (hnone : fetchCurrent (heard s) slot.toNat ticket.toNat generation.toNat = none) :
        exec (.fetchData tag ([slot, ticket, generation, k] ++ data)) s = .next (latch .staleAnswer 0x60 (heard s)) ∧
          exec (.fetchFail tag [slot, ticket, generation, k]) s = .next (latch .staleAnswer 0x61 (heard s)) :=
      ⟨hdata.trans (congrArg _ (fetchDataAnswer_stale hnone k data)), hfail.trans (congrArg _ (fetchFailAnswer_stale hnone k))⟩
    refine ⟨fun hslot => hstale (fetchCurrent_far (by omega) _ _), fun i hi => ⟨fun hold => hstale ?_, fun l start ms hu ht hl hg => ?_⟩⟩
    · rw [← hi]
      exact fetchCurrent_stale (s := heard s) hold
    have hcurrent : fetchCurrent (heard s) slot.toNat ticket.toNat generation.toNat = some (i, l) := by
      rw [← hi, ← ht, ← hg]
      exact fetchCurrent_eq (s := heard s) hu hl
    refine ⟨fun j hj hcount hlength => ?_, fun hs hp hslots hwait => ⟨fun hbad => ?_, ?_⟩, fun q hs hp hslots hwait hread => ?_⟩
    · have hgood := hdata.trans (congrArg _ (fetchDataAnswer_good hcurrent hj (by rw [chunkCount_eq]; exact hcount) hlength))
      have hstore := storeChunk_eq (s := heard s) hl j data
      refine ⟨fun hchunk => ?_, fun hchunk => ⟨fun hpart => ?_, fun hfull hs hp hslots => ?_⟩⟩
      · rw [if_pos (Option.isSome_iff_ne_none.2 hchunk)] at hgood
        exact hgood
      · rw [if_neg (by rw [hchunk]; exact Bool.false_ne_true), hstore] at hgood
        exact hgood.trans (congrArg _ (if_neg (ne_true_of_eq_false hpart)))
      · rw [if_neg (by rw [hchunk]; exact Bool.false_ne_true), hstore] at hgood
        exact hgood.trans (congrArg _ ((if_pos hfull).trans (fetchCompletes_pinned (s := heard s) hs hp hslots j data)))
    · exact hdata.trans (congrArg _ ((fetchDataAnswer_bad hcurrent hbad).trans
        (fetchFails_unread (s := heard s) hl hs hp hslots hwait .badChunk senseRead)))
    · have hfails := fetchFails_unread (s := heard s) hl hs hp hslots hwait (if k = 2 then .fetchGone else .fetchReadError) senseRead
      have hcause : (if k = 2 then MediaCause.fetchGone else .fetchReadError).num = if k = 2 then 5 else 4 := by split <;> rfl
      rw [hcause] at hfails
      exact hfail.trans (congrArg _ ((fetchFailAnswer_current hcurrent).trans hfails))
    · exact ⟨_, hfail.trans (congrArg _ ((fetchFailAnswer_current hcurrent).trans
          (fetchFails_read (s := heard s) hl hs hp hslots hwait _ senseRead))),
        fetchLost_reader (s := heard s) hl hwait hread _ senseRead⟩
  case timeout =>
    refine ⟨live_fire_of_not_due hporst, fun hdue hl hs hp hslots hwait => ?_⟩
    exact (live_fired hporst hdue).trans (congrArg _
      (fetchFails_unread (s := s.fired (.fetch i)) hl hs hp hslots hwait .fetchTimeout senseRead))

end Sys2Proof.Machine

/-! # Packets on a bus -/

namespace Sys2Proof.Machine

open Sys2Proof

variable {s : State} {n : Node}

/-! ## A port that answers -/

theorem onBus_port (n : Node) (s : State) :
    ((onBus n s).node n).port = { (s.node n).port with idleSince := s.timebase, answer := .silent } := by rw [onBus, updPort_node_self]

@[simp] theorem onBus_ctx (n : Node) (s : State) (m : Node) : ((onBus n s).node m).ctx = (s.node m).ctx := updPort_ctx ..

@[simp] theorem onBus_drive (n : Node) (s : State) (m : Node) (u : Lun) : (onBus n s).drive m u = s.drive m u := by
  rw [State.drive, onBus, updPort_drives]
  rfl

theorem pullUp_of_answering (h : Answering s n) : (s.node n).port.pullUp = true := by
  obtain ⟨-, -, hhears⟩ := h
  simp only [State.hears, Bool.and_eq_true] at hhears
  unfold Port.pullUp
  cases hstate : (s.node n).port.state <;> simp_all

theorem silent_busActivity (h : Answering s n) : setAnswer n .silent (busActivityOp n s) = onBus n s := by
  rw [busActivity_awake (pullUp_of_answering h) h.2.1, setAnswer, updPort_updPort]
  rfl

theorem hears_onBus (addr : BitVec 7) (n : Node) (s : State) : (onBus n s).hears n addr = s.hears n addr := by
  rw [State.hears, onBus_port]
  rfl

/-- A port that answers handles the packet with its idle time restarted (R129, R131). -/
theorem onPacket_answering (h : Answering s n) (f : State → State) : onPacket n (s.node n).port.address f s = f (onBus n s) := by
  rw [onPacket, if_pos (pullUp_of_answering h), silent_busActivity h]
  exact if_pos ((hears_onBus ..).trans h.2.2)

/-- A packet for another address is activity, and no more (R129, R131). -/
theorem onPacket_elsewhere (h : Answering s n) {addr : BitVec 7} (ha : addr ≠ (s.node n).port.address) (f : State → State) :
    onPacket n addr f s = onBus n s := by
  have hdeaf : s.hears n addr ≠ true := by
    intro e
    simp only [State.hears, Bool.and_eq_true, decide_eq_true_eq] at e
    obtain ⟨-, haddr⟩ := e
    exact ha haddr.symm
  rw [onPacket, if_pos (pullUp_of_answering h), silent_busActivity h]
  exact if_neg (by rw [hears_onBus]; exact hdeaf)

/-! ## Updates of the port and the context -/

theorem updPort_updCtx (s : State) (n : Node) (f : Port → Port) (g : Context → Context) :
    (s.updPort n f).updCtx n g = (s.updCtx n g).updPort n f := by
  simp [State.updCtx, State.updPort, State.updNode]

/-- The lowest entry that a test picks. -/
theorem find?_finRange {k : Nat} {p : Fin k → Bool} {i : Fin k} (hi : p i = true) (hlt : ∀ j, j < i → p j = false) :
    (List.finRange k).find? p = some i := by
  refine List.find?_eq_some_iff_getElem.2 ⟨hi, i, by simp, by simp, fun j hj => ?_⟩
  have := hlt ⟨j, by omega⟩ (by exact hj)
  simpa using this

/-! ## Write units -/

/-- A write entry that is offered stays as it is but for its being sent, and nothing but the link and the entry changes (R184). -/
theorem offerMedia_write {i : Fin 32} {w : WriteUse} (hw : s.cache.writes[i].use = some w) :
    (∀ m, (offerMedia (.write i) s).node m = s.node m) ∧ (offerMedia (.write i) s).pool = s.pool ∧
      (offerMedia (.write i) s).cache.writes[i].ticket = s.cache.writes[i].ticket ∧
      ∃ sent, (offerMedia (.write i) s).cache.writes[i].use = some { w with sent := sent } := by
  unfold offerMedia sendMedia
  split
  · simp only [hw]
    refine ⟨fun m => rfl, rfl, ?_, true, ?_⟩
    · simp [State.updEntry]
    · simp [State.updEntry]
  · exact ⟨fun m => rfl, rfl, rfl, w.sent, hw⟩

/-- The state in which a unit of 512 bytes has a staging page and is full (R33, R160). -/
def State.unitFull (s : State) (n : Node) (data : List Byte) : State :=
  ((s.updPool fun p => { p with free := p.free - 1 }).updPort n fun p => { p with stagingBlocked := false }).updCtx n fun x =>
    { x with moved := (s.node n).ctx.moved + 512, filling := some ((s.node n).ctx.moved / 512, data) }

/-- A packet that fills a unit, with more to come, hands it to the cache (R33, R160, R184). -/
theorem takeWriteData_fills {k : Command} {data : List Byte} (hdata : data.length = 512) (hsize : s.maxPacket n = 512)
    (hcommand : (s.node n).ctx.command = some k) (hresult : (s.node n).ctx.result = .passed) (hfilling : (s.node n).ctx.filling = none)
    (hmore : (s.node n).ctx.moved + 512 < (s.node n).ctx.dn) (hdn : (s.node n).ctx.dn ≤ k.expected) (hpages : s.stagingPages n < 8)
    (hfree : 0 < s.pool.free) :
    takeWriteData n data s = (true, handOver n ((s.node n).ctx.moved / 512) data (s.unitFull n data)) := by
  have huseful : data.take ((s.node n).ctx.dn - (s.node n).ctx.moved) = data := List.take_of_length_le (by omega)
  have hne : data ≠ [] := by
    rintro rfl
    simp at hdata
  have hafter : (s.node n).ctx.movedAfter 512 = (s.node n).ctx.moved + 512 := by
    simp only [Context.movedAfter, Context.expected, hcommand]
    omega
  have hexpected : (s.node n).ctx.expected = k.expected := by simp only [Context.expected, hcommand]
  have hrequest : requestStaging n s = (true, (s.updPool fun p => { p with free := p.free - 1 }).updPort n fun p =>
      { p with stagingBlocked := false }) := (if_neg (by rw [Config.stagingPages]; omega)).trans (if_pos hfree)
  have hlast : ¬(s.node n).ctx.moved + 512 = k.expected := by omega
  unfold takeWriteData
  simp only [hresult, hfilling, huseful, hrequest, if_true, hne, ne_eq, not_false_eq_true, and_self, if_false,
    List.nil_append, Config.chunkBytes, hdata, hsize, hafter, hexpected, lt_irrefl, false_and, false_or, hlast]
  rfl

/-- The write entry of a full unit, as it is offered (R184). -/
def State.unitEntry (s : State) (n : Node) (k : Command) (offset : Nat) (data : List Byte) : WriteUse :=
  { sent := false, node := n, lun := k.lun, handle := ((s.drive n k.lun).image.map Image.handle).getD 0,
    offset := offset, data := data, start := s.timebase, timeout := s.cache.timeout, cancelled := false }

/-- A full unit takes the lowest FREE entry, with its next ticket, and is offered (R184). -/
theorem handOver_offers {k : Command} {i : Fin 32} {j : Nat} {data : List Byte} (hcommand : (s.node n).ctx.command = some k)
    (honline : s.link.online = .online) (hi : s.cache.writes[i].use = none) (hlow : ∀ j, j < i → s.cache.writes[j].use ≠ none) :
    handOver n j data s = offerMedia (.write i) ((s.updCtx n fun x => { x with filling := none }).updEntry i fun e =>
      { ticket := e.ticket + 1, use := some (s.unitEntry n k ((s.node n).ctx.startByte + 512 * j) data) }) := by
  have hfind : (allEntries.find? fun i => decide (s.cache.writes[i].use = none)) = some i :=
    find?_finRange (by simpa using hi) fun j hj => by simpa using hlow j hj
  have hlun := cmdLun_of_command hcommand
  simp only [handOver, hfind, hlun, honline]
  rfl

theorem exec_bulkOut (h : Answering s n) (toggle : Bool) (data : List Byte) :
    exec (.bulkOutPacket n (s.node n).port.address toggle data) s = .next (answerBulkOut n toggle data (onBus n s)) := by
  refine (live_of_porst_eq_false h.1 _).trans (congrArg _ ?_)
  exact onPacket_answering h (answerBulkOut n toggle data)

/-- A packet with the toggle the port waits for is offered to the context, which takes it or does not (R133). -/
theorem answerBulkOut_eq {toggle : Bool} {data : List Byte} (hs : (s.node n).port.state = .configured) (hlen : data.length ≤ s.maxPacket n)
    (hhalt : (s.node n).port.haltOut = false) (hrecovery : (s.node n).port.recovery = false) (htoggle : (s.node n).port.toggleOut = toggle) :
    answerBulkOut n toggle data s = if (takeOut n data s).1 = true then
        setAnswer n .ack ((takeOut n data s).2.updPort n fun p => { p with toggleOut := !p.toggleOut })
      else setAnswer n .nak (takeOut n data s).2 := by
  have hconfigured : s.configured n = true := decide_eq_true hs
  rw [answerBulkOut, if_pos ⟨hconfigured, hlen⟩]
  dsimp only
  rw [if_neg (by simp [hhalt, hrecovery]), if_neg (fun e => e htoggle.symm)]

end Sys2Proof.Machine

/-! # The writes -/

namespace Sys2Proof.Machine

open Sys2Proof

variable {s : State} {n : Node} {i : Fin 32}

/-! ## A packet that fills a unit -/

/-- The state in which a full unit stands in its entry (R184). -/
def State.unitHanded (s : State) (n : Node) (k : Command) (i : Fin 32) (data : List Byte) : State :=
  ((s.unitFull n data).updCtx n fun x => { x with filling := none }).updEntry i fun e =>
    { ticket := e.ticket + 1, use := some (s.unitEntry n k ((s.node n).ctx.startByte + 512 * ((s.node n).ctx.moved / 512)) data) }

theorem unitFull_ctx (s : State) (n : Node) (data : List Byte) : ((s.unitFull n data).node n).ctx =
    { (s.node n).ctx with moved := (s.node n).ctx.moved + 512, filling := some ((s.node n).ctx.moved / 512, data) } := by
  rw [State.unitFull, updCtx_node_self, updPort_ctx]
  rfl

theorem unitFull_drive (s : State) (n : Node) (data : List Byte) (m : Node) (u : Lun) : (s.unitFull n data).drive m u = s.drive m u := by
  rw [State.drive, State.unitFull, updCtx_drives, updPort_drives]
  rfl

theorem unitHanded_node (s : State) (n : Node) (k : Command) (i : Fin 32) (data : List Byte) :
    ((s.unitHanded n k i data).node n).ctx = { (s.node n).ctx with moved := (s.node n).ctx.moved + 512, filling := none } ∧
      ((s.unitHanded n k i data).node n).port = { (s.node n).port with stagingBlocked := false } := by
  constructor
  · rw [State.unitHanded, updEntry_node, updCtx_node_self, unitFull_ctx]
  · rw [State.unitHanded, updEntry_node, updCtx_port, State.unitFull, updCtx_port, updPort_node_self]
    rfl

theorem unitHanded_entry (s : State) (n : Node) (k : Command) (i : Fin 32) (data : List Byte) :
    (s.unitHanded n k i data).cache.writes[i] =
      { ticket := s.cache.writes[i].ticket + 1,
        use := some (s.unitEntry n k ((s.node n).ctx.startByte + 512 * ((s.node n).ctx.moved / 512)) data) } := by
  simp [State.unitHanded, State.updEntry, State.unitFull]

/-- A packet that fills a unit, with more to come, is taken and offered to the host (R33, R160, R184). -/
theorem takeOut_fills {k : Command} {data : List Byte} (hdata : data.length = 512) (hsize : s.maxPacket n = 512)
    (hphase : (s.node n).ctx.phase = .dataOut) (hmode : (s.node n).ctx.mode = .write)
    (hcommand : (s.node n).ctx.command = some k) (hresult : (s.node n).ctx.result = .passed) (hfilling : (s.node n).ctx.filling = none)
    (hmore : (s.node n).ctx.moved + 512 < (s.node n).ctx.dn) (hdn : (s.node n).ctx.dn ≤ k.expected) (hpages : s.stagingPages n < 8)
    (hfree : 0 < s.pool.free) (honline : s.link.online = .online) (hi : s.cache.writes[i].use = none)
    (hlow : ∀ j, j < i → s.cache.writes[j].use ≠ none) :
    takeOut n data s = (true, offerMedia (.write i) (s.unitHanded n k i data)) := by
  have htake : takeOut n data s = takeWriteData n data s := by simp only [takeOut, hphase, hmode]
  have hentry : (s.unitFull n data).unitEntry n k ((s.node n).ctx.startByte + 512 * ((s.node n).ctx.moved / 512)) data =
      s.unitEntry n k ((s.node n).ctx.startByte + 512 * ((s.node n).ctx.moved / 512)) data := by
    rw [State.unitEntry, unitFull_drive]
    rfl
  rw [htake, takeWriteData_fills hdata hsize hcommand hresult hfilling hmore hdn hpages hfree,
    handOver_offers (k := k) (by rw [unitFull_ctx]; exact hcommand) (by exact honline) (by exact hi) (by exact hlow), unitFull_ctx, hentry]
  rfl

/-! ## WRITE_DONE -/

theorem exec_writeDone (h : Fresh s) (ho : s.link.online = .online) (tag entry ticket status : Byte) :
    exec (.writeDone tag [entry, ticket, status]) s = .next (writeDoneAnswer [entry, ticket, status] (heard s)) :=
  live_answer (a := 0x62) tag h ho (by decide) (by simp) rfl

theorem writeDoneAnswer_far {entry : Byte} (h : 31 < entry.toNat) (ticket status : Byte) :
    writeDoneAnswer [entry, ticket, status] s = latch .staleAnswer 0x62 s := by
  have hindex : indexOf 32 (u8 [entry, ticket, status] 0) = none := indexOf_eq_none h
  simp only [writeDoneAnswer, hindex]
  rfl

section

variable {entry : Byte} (hi : (i : Nat) = entry.toNat)

include hi

theorem writeDoneAnswer_stale {ticket : Byte} (h : (∀ w, s.cache.writes[i].use = some w → w.sent = false) ∨ s.cache.writes[i].ticket ≠ ticket)
    (status : Byte) : writeDoneAnswer [entry, ticket, status] s = latch .staleAnswer 0x62 s := by
  have hindex : indexOf 32 (u8 [entry, ticket, status] 0) = some i := (congrArg (indexOf 32) hi.symm).trans (indexOf_val i)
  simp only [writeDoneAnswer, hindex]
  split
  · rfl
  · rename_i w hw
    refine if_neg fun ⟨hsent, hticket⟩ => ?_
    rcases h with h | h
    · exact absurd (h w hw) (by simp [hsent])
    · exact h (BitVec.eq_of_toNat_eq hticket)

/-- WRITE_DONE for a SENT entry with its ticket ends the entry (R185). -/
theorem writeDoneAnswer_current {w : WriteUse} (hw : s.cache.writes[i].use = some w) (hsent : w.sent = true) (status : Byte) :
    writeDoneAnswer [entry, s.cache.writes[i].ticket, status] s =
      if status = 0 then entryPasses i w s else entryFails i w .writeFailed s := by
  have hindex : indexOf 32 (u8 [entry, s.cache.writes[i].ticket, status] 0) = some i := (congrArg (indexOf 32) hi.symm).trans (indexOf_val i)
  have hticket : u8 [entry, s.cache.writes[i].ticket, status] 1 = s.cache.writes[i].ticket.toNat := rfl
  have hstatus : u8 [entry, s.cache.writes[i].ticket, status] 2 = 0 ↔ status = 0 := BitVec.toNat_inj (y := 0)
  simp only [writeDoneAnswer, hindex, hw, hsent, hticket, hstatus, and_self, if_true]

end

/-! ## The end of an entry -/

/-- The state after an entry has ended, where no allocation waits (R185). -/
def State.entryFreed (s : State) (i : Fin 32) : State :=
  ((s.updLink fun q => { q with waiting := q.waiting.filter (· ≠ .write i) }).updEntry i fun e => { e with use := none }).updPool fun q =>
    { q with free := q.free + 1 }

theorem endEntry_drained (h : s.pool.waiting = []) (i : Fin 32) : endEntry i s = s.entryFreed i :=
  pagesJoin_of_nil (s := (withdraw (.write i) s).updEntry i fun e => { e with use := none }) h 1

/-- The entries of a node's command that are in use are none, where the entry that ends was the last (R161). -/
theorem entryFreed_owned (h : ∀ j v, s.cache.writes[j].use = some v → v.node = n → v.cancelled = false → j = i) {t : State}
    (ht : t.cache.writes = (s.entryFreed i).cache.writes) (p : WriteUse → Bool) : t.ownedEntries n p = [] := by
  refine List.filter_eq_nil_iff.2 fun j _ => ?_
  have huse : t.cache.writes[j].use = if i = j then none else s.cache.writes[j].use := by
    rw [ht]
    exact updEntry_use _ i j none
  rw [huse]
  by_cases hj : i = j
  · rw [if_pos hj]
    exact Bool.false_ne_true
  · rw [if_neg hj]
    split
    · exact Bool.false_ne_true
    · rename_i v hv
      intro e
      simp only [Bool.and_eq_true, beq_iff_eq, Bool.not_eq_true'] at e
      exact hj (h j v hv e.1.1 e.1.2).symm

/-- A WRITE(10) that waits for the host's answers alone, its entries apart (R161). -/
structure Awaits (s : State) (n : Node) (k : Command) : Prop where
  command : (s.node n).ctx.command = some k
  phase : (s.node n).ctx.phase = .awaitHost
  running : (s.node n).ctx.running = true
  result : (s.node n).ctx.result = .passed
  filling : (s.node n).ctx.filling = none

theorem Awaits.of_ctx {t : State} {k : Command} (h : Awaits s n k) (e : (t.node n).ctx = (s.node n).ctx) : Awaits t n k := by
  obtain ⟨hcommand, hphase, hrunning, hresult, hfilling⟩ := h
  exact ⟨e ▸ hcommand, e ▸ hphase, e ▸ hrunning, e ▸ hresult, e ▸ hfilling⟩

/-- A WRITE(10) that waits for nothing more enters STATUS (R161). -/
theorem checkAwait_enters {k : Command} (h : Awaits s n k) (howned : ∀ p, s.ownedEntries n p = []) : checkAwait n s = enterStatus n s :=
  if_pos ⟨h.phase, h.running, howned _⟩

/-- A WRITE(10) that waits for nothing more and fails enters STATUS with its sense (R161). -/
theorem failWrite_enters {k : Command} (h : Awaits s n k) (howned : ∀ p, s.ownedEntries n p = []) (x : Sense) :
    checkAwait n (failWrite n x s) = enterStatus n (s.updCtx n fun c => { c with result := .failed x }) := by
  let t := s.updCtx n fun c => { c with result := .failed x }
  have hctx : (t.node n).ctx = { (s.node n).ctx with result := .failed x } := by rw [updCtx_node_self]
  have hdiscard : discardUnit n t = t := if_neg (by rw [hctx]; simp [h.filling])
  have hcheck : checkAwait n t = enterStatus n t :=
    if_pos ⟨by rw [hctx]; exact h.phase, by rw [hctx]; exact h.running, howned _⟩
  have hfail : failWrite n x s = enterStatus n t := by
    have howned' : t.ownedEntries n (fun w => !w.sent) = [] := howned _
    unfold failWrite
    dsimp only
    rw [if_pos ⟨.inr h.phase, h.running, h.result⟩, howned', List.foldl_nil]
    exact (congrArg (checkAwait n) hdiscard).trans hcheck
  have hstatus := enterStatus_ctx (s := t) (n := n) (k := k) (by rw [hctx]; exact h.command)
  rw [hfail, checkAwait, if_neg (by rw [hstatus]; simp)]

/-- The last answer of a WRITE(10) in AWAIT_HOST gives its status (R161, R185). -/
theorem lastAnswer {w : WriteUse} {k : Command} (hwait : s.pool.waiting = []) (hc : w.cancelled = false) (h : Awaits s w.node k)
    (hlast : ∀ j v, s.cache.writes[j].use = some v → v.node = w.node → v.cancelled = false → j = i) (status : Byte) :
    let t := if status = 0 then entryPasses i w s else entryFails i w .writeFailed s
    t.cache = (s.entryFreed i).cache ∧ t.pool = (s.entryFreed i).pool ∧ (t.node w.node).ctx.phase = .status ∧
      (t.node w.node).ctx.result = (if status = 0 then .passed else .failed { key := 3, code := 0x0C, qualifier := 0 }) ∧
      (t.node w.node).ctx.statusBytes = le 4 0x53425355 ++ le 4 k.tag.toNat ++
        le 4 (k.expected - (s.node w.node).ctx.moved) ++ [if status = 0 then 0 else 1] := by
  have hfreed : Awaits (s.entryFreed i) w.node k := h.of_ctx rfl
  by_cases hstatus : status = 0
  · have hpass : entryPasses i w s = enterStatus w.node (s.entryFreed i) := by
      rw [entryPasses, if_neg (by rw [hc]; exact Bool.false_ne_true), endEntry_drained hwait]
      exact checkAwait_enters hfreed (entryFreed_owned hlast rfl)
    simp only [hstatus, if_true, hpass, enterStatus_cache, enterStatus_pool, enterStatus_ctx hfreed.command]
    exact ⟨trivial, trivial, trivial, hfreed.result, by rw [hfreed.result]; rfl⟩
  · have hcache : (mediaError w.node .writeFailed w.lun (s.entryFreed i)).cache = (s.entryFreed i).cache := latch_cache ..
    have hpool : (mediaError w.node .writeFailed w.lun (s.entryFreed i)).pool = (s.entryFreed i).pool := latch_pool ..
    have hnode : ((mediaError w.node .writeFailed w.lun (s.entryFreed i)).node w.node).ctx = (s.node w.node).ctx :=
      congrArg (·.ctx) (latch_node (.node w.node .mediaError) _ (s.entryFreed i) w.node)
    have hfail : entryFails i w .writeFailed s = enterStatus w.node ((mediaError w.node .writeFailed w.lun (s.entryFreed i)).updCtx w.node
        fun c => { c with result := .failed senseWrite }) := by
      rw [entryFails, endEntry_drained hwait]
      exact (if_neg (by rw [hc]; exact Bool.false_ne_true)).trans
        (failWrite_enters (h.of_ctx hnode) (entryFreed_owned hlast (congrArg Cache.writes hcache)) senseWrite)
    have hctx := enterStatus_ctx (k := k) (s := (mediaError w.node .writeFailed w.lun (s.entryFreed i)).updCtx w.node
      fun c => { c with result := .failed senseWrite }) (by rw [updCtx_node_self]; exact (h.of_ctx hnode).command)
    simp only [hstatus, if_false, hfail, enterStatus_cache, enterStatus_pool, hctx, updCtx_node_self, updCtx_cache, updCtx_pool, hcache,
      hpool, hnode]
    exact ⟨trivial, trivial, trivial, rfl, rfl⟩

/-- The end of an entry whose command is gone latches a failure, and does no more (R185). -/
theorem entryFails_cancelled {w : WriteUse} (hwait : s.pool.waiting = []) (hc : w.cancelled = true) (c : MediaCause) :
    entryFails i w c s = latch (.node w.node .mediaError) (c.num + 256 * w.lun) (s.entryFreed i) := by
  rw [entryFails, endEntry_drained hwait]
  exact if_pos hc

theorem entryPasses_cancelled {w : WriteUse} (hwait : s.pool.waiting = []) (hc : w.cancelled = true) :
    entryPasses i w s = s.entryFreed i := by
  rw [entryPasses, endEntry_drained hwait]
  exact if_pos hc

/-- Settles O58. -/
theorem writesAreAnswered : Obligations.WritesAreAnswered := by
  unfold Obligations.WritesAreAnswered
  refine ⟨fun s n toggle data k i h => ?fills, fun s tag entry ticket status h ho => ?done, fun s i w hporst hw => ?timeout⟩
  case fills =>
    intro p x hs hhalt hrecovery htoggle hhigh hdata hcommand hphase hmode hrunning hresult hfilling hunit hmore hdn hpages hfree honline hfind
    have hport := onBus_port n s
    have hctx := onBus_ctx n s n
    have hsize : (onBus n s).maxPacket n = 512 := by
      rw [State.maxPacket, hport, Port.maxPacket]
      exact if_pos hhigh
    have hpages' : (onBus n s).stagingPages n < 8 := by
      rw [State.stagingPages, hctx]
      exact hpages
    have htake := takeOut_fills (s := onBus n s) (n := n) (k := k) (i := i) hdata hsize (by rw [hctx]; exact hphase) (by rw [hctx]; exact hmode)
      (by rw [hctx]; exact hcommand) (by rw [hctx]; exact hresult) (by rw [hctx]; exact hfilling) (by rw [hctx]; exact hmore)
      (by rw [hctx]; exact hdn) hpages' hfree honline hfind.1 hfind.2
    have hexec := exec_bulkOut h toggle data
    rw [answerBulkOut_eq (by rw [hport]; exact hs) (by rw [hsize, hdata]) (by rw [hport]; exact hhalt) (by rw [hport]; exact hrecovery)
      (by rw [hport]; exact htoggle), htake, if_pos rfl] at hexec
    have hentry := unitHanded_entry (onBus n s) n k i data
    obtain ⟨hnode, hpool, hticket, sent, huse⟩ := offerMedia_write (congrArg WriteEntry.use hentry)
    obtain ⟨hctx', hport'⟩ := unitHanded_node (onBus n s) n k i data
    have hwhole : (s.node n).ctx.moved % 512 = 0 := hunit
    have hoffset : (s.node n).ctx.startByte + 512 * ((s.node n).ctx.moved / 512) = (s.node n).ctx.startByte + (s.node n).ctx.moved := by
      omega
    refine ⟨_, hexec, ?_, ?_, ?_, ?_, ?_, sent, ?_⟩
    · rw [setAnswer, updPort_node_self]
    · rw [setAnswer, updPort_node_self, updPort_node_self, hnode, hport', hport]
      exact congrArg not htoggle
    · rw [setAnswer, updPort_ctx, updPort_ctx, hnode, hctx', hctx, ← hfilling]
    · exact hpool
    · exact hticket.trans (congrArg WriteEntry.ticket hentry)
    · refine huse.trans ?_
      rw [State.unitEntry, hctx, onBus_drive, hoffset]
      rfl
  case done =>
    have hexec := exec_writeDone h ho tag entry ticket status
    refine ⟨fun hentry => hexec.trans (congrArg _ (writeDoneAnswer_far hentry ticket status)), fun i hi => ⟨fun hstale => ?_,
      fun w hw hsent hticket hwait => ?_⟩⟩
    · exact hexec.trans (congrArg _ (writeDoneAnswer_stale (s := heard s) hi hstale status))
    have hanswer := writeDoneAnswer_current (s := heard s) hi hw hsent status
    subst hticket
    have hdone := hexec.trans (congrArg _ hanswer)
    refine ⟨fun hc => ⟨fun hstatus => ?_, fun hstatus => ?_⟩, fun k hc hcommand hphase hrunning hlast hresult hfilling => ?_⟩
    · rw [if_pos hstatus] at hdone
      exact hdone.trans (congrArg _ (entryPasses_cancelled (s := heard s) hwait hc))
    · rw [if_neg hstatus] at hdone
      exact hdone.trans (congrArg _ (entryFails_cancelled (s := heard s) hwait hc .writeFailed))
    · exact ⟨_, hdone, lastAnswer (s := heard s) hwait hc ⟨hcommand, hphase, hrunning, hresult, hfilling⟩ hlast status⟩
  case timeout =>
    refine ⟨live_fire_of_not_due hporst, fun hdue hc hwait => ?_⟩
    have hop : entryExpires i (s.fired (.write i)) = entryFails i w .writeTimeout (s.fired (.write i)) := by
      have hw' : (s.fired (.write i)).cache.writes[i].use = some w := hw
      simp only [entryExpires, hw']
    exact (live_fired hporst hdue).trans (congrArg _ (hop.trans (entryFails_cancelled (s := s.fired (.write i)) hwait hc .writeTimeout)))

end Sys2Proof.Machine

/-! # Images and generations -/

namespace Sys2Proof.Machine

open Sys2Proof

variable {s t : State} {n : Node} {u : Lun}

/-! ## What a drive keeps -/

/-- A drive's image and its generation. -/
def Drive.mark (d : Drive) : Option Image × Byte := (d.image, d.generation)

/-- The images and the generations of all drives, which only inserts, ejects and cache drops change (R145, R146, R180). -/
def State.marks (s : State) : Vector (Vector (Option Image × Byte) 2) 4 := s.nodes.map fun c => c.drives.map Drive.mark

theorem mark_of_marks (h : t.marks = s.marks) (n : Node) (u : Lun) : (t.drive n u).mark = (s.drive n u).mark := by
  have e := congrArg (fun v : Vector (Vector (Option Image × Byte) 2) 4 => v[n][u]) h
  simp only [State.marks, Fin.getElem_fin, Vector.getElem_map] at e
  exact e

theorem marks_of_core (h : t.core = s.core) : t.marks = s.marks := by
  have hmarks (x : State) : x.marks = x.core.map fun c => c.drives.map Drive.mark := by
    rw [State.core, State.marks, Vector.map_map]
    rfl
  rw [hmarks, hmarks, h]

theorem marks_updNode (s : State) (n : Node) (f : NodeState → NodeState) (h : (f (s.node n)).drives.map Drive.mark = (s.node n).drives.map Drive.mark) :
    (s.updNode n f).marks = s.marks := by
  refine Vector.ext fun i hi => ?_
  by_cases e : (n : Nat) = i
  · subst e
    simpa [State.marks, State.updNode, State.node] using h
  · simp [State.marks, State.updNode, Vector.getElem_set_ne, e]

@[simp] theorem marks_updCtx (s : State) (n : Node) (f : Context → Context) : (s.updCtx n f).marks = s.marks := marks_updNode s n _ rfl

@[simp] theorem marks_updPort (s : State) (n : Node) (f : Port → Port) : (s.updPort n f).marks = s.marks := marks_updNode s n _ rfl

theorem marks_updDrive (s : State) (n : Node) (u : Lun) (f : Drive → Drive) (h : ∀ d, (f d).mark = d.mark) : (s.updDrive n u f).marks = s.marks := by
  refine marks_updNode s n _ (Vector.ext fun i hi => ?_)
  by_cases e : (u : Nat) = i
  · subst e
    simp [h]
  · simp [Vector.getElem_set_ne, e]

@[simp] theorem marks_updPool (s : State) (f : Pool → Pool) : (s.updPool f).marks = s.marks := rfl

@[simp] theorem marks_updCache (s : State) (f : Cache → Cache) : (s.updCache f).marks = s.marks := rfl

@[simp] theorem marks_setSlotUse (s : State) (i : Fin 16) (v : SlotUse) : (s.setSlotUse i v).marks = s.marks := rfl

@[simp] theorem marks_withdraw (o : MediaOwner) (s : State) : (withdraw o s).marks = s.marks := rfl

@[simp] theorem marks_latch (src : Source) (d : Nat) (s : State) : (latch src d s).marks = s.marks := marks_of_core (core_latch ..)

@[simp] theorem marks_pagesJoin (k : Nat) (s : State) : (pagesJoin k s).marks = s.marks := marks_of_core (core_pagesJoin ..)

/-! ## Contexts that fail -/

@[simp] theorem marks_enterStatus (n : Node) (s : State) : (enterStatus n s).marks = s.marks := by
  unfold enterStatus
  dsimp only
  split
  · rfl
  · rw [marks_updCtx]
    exact marks_updDrive _ _ _ _ fun _ => rfl

@[simp] theorem marks_readFails (n : Node) (x : Sense) (s : State) : (readFails n x s).marks = s.marks := by
  unfold readFails closeFailed
  dsimp only
  split
  · split
    · split <;> simp
    · simp
  · rfl

@[simp] theorem marks_failRead (n : Node) (x : Sense) (s : State) : (failRead n x s).marks = s.marks := by
  rw [failRead, marks_updCtx, marks_of_core (core_detach ..), marks_readFails]

@[simp] theorem marks_allocateFor (n : Node) (i : Fin 16) (s : State) : (allocateFor n i s).marks = s.marks := by
  unfold allocateFor
  split
  · rename_i t ht
    rw [marks_of_core (core_attachNew ..), marks_of_core (core_demandAlloc ht)]
  · simp [pressureWait]
  · simp [mediaError]

@[simp] theorem marks_grantSlots (s : State) : (grantSlots s).marks = s.marks := by
  have hlist (ws : List Waiter) : ∀ s : State, (grantList ws s).marks = s.marks := by
    induction ws with
    | nil => exact fun _ => rfl
    | cons w ws ih =>
      intro s
      unfold grantList
      split
      · rfl
      · simp [ih]
  exact hlist _ s

@[simp] theorem marks_discardUnit (n : Node) (s : State) : (discardUnit n s).marks = s.marks := by
  unfold discardUnit
  split <;> simp

@[simp] theorem marks_checkAwait (n : Node) (s : State) : (checkAwait n s).marks = s.marks := by
  unfold checkAwait
  split <;> simp

@[simp] theorem marks_failWrite (n : Node) (x : Sense) (s : State) : (failWrite n x s).marks = s.marks := by
  unfold failWrite
  dsimp only
  split
  · rw [marks_checkAwait, marks_discardUnit]
    exact foldl_keeps (P := fun t => t.marks = s.marks) (f := fun t i => endEntry i t) (fun t i ht => (marks_pagesJoin ..).trans ht) _
      (marks_updCtx ..)
  · rfl

@[simp] theorem marks_failForward (n : Node) (x : Sense) (s : State) : (failForward n x s).marks = s.marks := by
  unfold failForward
  dsimp only
  split
  · simp
  · split <;> simp

@[simp] theorem marks_ejectCommand (n : Node) (u : Lun) (s : State) : (ejectCommand n u s).marks = s.marks := by
  unfold ejectCommand
  dsimp only
  repeat' split
  all_goals simp

/-! ## Ejecting and clearing -/

/-- The slots of a drive's lines at its eject (R180). -/
def slotsFreed (is : List (Fin 16)) (s : State) : State := is.foldl (fun t i => (withdraw (.fetch i) t).setSlotUse i .free) s

theorem slotsFreed_frame (is : List (Fin 16)) (s : State) : (slotsFreed is s).nodes = s.nodes ∧ (slotsFreed is s).pool = s.pool ∧
    (slotsFreed is s).cache.lines = s.cache.lines ∧ (slotsFreed is s).cache.slotWait = s.cache.slotWait :=
  foldl_keeps (P := fun t => t.nodes = s.nodes ∧ t.pool = s.pool ∧ t.cache.lines = s.cache.lines ∧ t.cache.slotWait = s.cache.slotWait)
    (f := fun t i => (withdraw (.fetch i) t).setSlotUse i .free) (fun _ _ ht => ht) is ⟨rfl, rfl, rfl, rfl⟩

@[simp] theorem marks_cacheEject (n : Node) (u : Lun) (s : State) : (cacheEject n u s).marks = s.marks := by
  have hfreed (is : List (Fin 16)) : (is.foldl (fun t i => (withdraw (.fetch i) t).setSlotUse i .free) s).marks = s.marks :=
    marks_of_core (core_of_nodes (slotsFreed_frame is s).1)
  have hdrop (t : State) : (dropWaits n t).marks = t.marks := marks_of_core (core_dropWaits ..)
  unfold cacheEject
  dsimp only
  rw [marks_grantSlots, marks_of_core (core_retryWaiting ..)]
  split
  · rw [hdrop, marks_updPool, marks_updCache, hfreed]
  · rw [marks_updPool, marks_updCache, hfreed]

@[simp] theorem marks_letGo (n : Node) (s : State) : (letGo n s).marks = s.marks := by
  have hdrop (t : State) : (dropWaits n t).marks = t.marks := marks_of_core (core_dropWaits ..)
  rw [letGo, marks_updCtx, marks_of_core (core_detach ..)]
  unfold leaveLists
  split
  · exact hdrop s
  · rw [marks_grantSlots, hdrop]

@[simp] theorem marks_clearContext (n : Node) (s : State) : (clearContext n s).marks = s.marks := by
  rw [clearContext_eq, State.clearing, cancelEntries]
  simp

@[simp] theorem marks_connectTest (n : Node) (s : State) : (connectTest n s).marks = s.marks := by
  unfold connectTest startConnect attach disconnect portChange
  dsimp only
  repeat' split
  all_goals simp

/-- A connect test leaves the node's drives (R122). -/
theorem connectTest_drives (n : Node) (s : State) : ((connectTest n s).node n).drives = (s.node n).drives := by
  unfold connectTest startConnect attach disconnect portChange
  dsimp only
  repeat' split
  all_goals simp [clearContext_drives]

theorem updDrive_drive_ne {m : Node} {v : Lun} (h : (m, v) ≠ (n, u)) (s : State) (f : Drive → Drive) :
    (s.updDrive n u f).drive m v = s.drive m v := by
  by_cases hm : n = m
  · subst hm
    have hv : (u : Nat) ≠ v := fun e => h (by rw [Fin.ext e])
    simp [State.drive, State.updDrive, hv]
  · rw [State.drive, updDrive_node_ne _ _ _ _ _ hm]
    rfl

/-- An eject takes the image and gives the drive its next generation (R146). -/
theorem ejectSteps_mark (n : Node) (u : Lun) (s : State) :
    ((ejectSteps n u s).drive n u).mark = (none, (s.drive n u).generation + 1) := by
  rw [ejectSteps, mark_of_marks (marks_cacheEject ..), mark_of_marks (marks_ejectCommand ..), updDrive_drive_self]
  rfl

/-! ## Inserting -/

/-- The drive as an insert leaves it (R145, R182). -/
theorem insertOp_drive (n : Node) (u : Lun) (i : Image) (s : State) : (insertOp n u i s).drive n u =
    { Drive.reset with
      image := some i, unitAttention := true, remembered := some i,
      generation := (if (s.drive n u).image.isSome = true then (s.drive n u).generation + 1 else (s.drive n u).generation) + 1 } := by
  have hdrive (x : State) : (connectTest n x).drive n u = x.drive n u := congrArg (·[u]) (connectTest_drives n x)
  unfold insertOp
  dsimp only
  rw [hdrive, updDrive_drive_self]
  by_cases h : (s.drive n u).image.isSome = true
  · have hgeneration : ((ejectSteps n u s).drive n u).generation = (s.drive n u).generation + 1 :=
      congrArg Prod.snd (ejectSteps_mark n u s)
    rw [if_pos h, if_pos h, Drive.inserted, hgeneration]
    rfl
  · rw [if_neg h, if_neg h]
    rfl

/-- An insert leaves the images and the generations of the other drives (R145, R146). -/
theorem insertOp_mark_ne {m : Node} {v : Lun} (h : (m, v) ≠ (n, u)) (i : Image) (s : State) :
    ((insertOp n u i s).drive m v).mark = (s.drive m v).mark := by
  unfold insertOp
  dsimp only
  rw [mark_of_marks (marks_connectTest ..), updDrive_drive_ne h]
  split
  · rw [ejectSteps, mark_of_marks (marks_cacheEject ..), mark_of_marks (marks_ejectCommand ..), updDrive_drive_ne h]
  · rfl

/-! ## DRIVE_INSERT -/

/-- An image is read as it is sent, and accepted where it is valid (R143, R145). -/
theorem imageOf_insertRecord (n : Node) (u : Lun) {i : Image} (hsize : i.size < 2 ^ 48) (hblock : i.block < 65536) :
    imageOf (insertRecord n u i) = if i.valid = true then some i else none := by
  have hhandle : w32 (insertRecord n u i) 2 = i.handle := by
    have hfield : fieldAt (insertRecord n u i) 2 4 = i.handle.toNat :=
      fieldAt_append_le [byteOf n, byteOf u] (le 6 i.size ++ le 2 i.block ++ [if i.writable then 1 else 0]) 4 i.handle.toNat i.handle.isLt
    rw [w32, hfield, BitVec.ofNat_toNat, BitVec.setWidth_eq]
  have hsize' : fieldAt (insertRecord n u i) 6 6 = i.size :=
    fieldAt_append_le ([byteOf n, byteOf u] ++ le 4 i.handle.toNat) (le 2 i.block ++ [if i.writable then 1 else 0]) 6 i.size hsize
  have hblock' : u16 (insertRecord n u i) 12 = i.block :=
    fieldAt_append_le ([byteOf n, byteOf u] ++ le 4 i.handle.toNat ++ le 6 i.size) [if i.writable then 1 else 0] 2 i.block hblock
  have hwritable : onOff (u8 (insertRecord n u i) 14) = some i.writable := by
    change onOff (if i.writable = true then (1 : Byte) else 0).toNat = some i.writable
    cases i.writable <;> rfl
  have hvalid : i.valid = true ↔ ¬(i.block ≠ 512 ∧ i.block ≠ 2048) ∧ ¬(i.writable = true ∧ i.block = 2048) ∧
      ¬(i.size < i.block ∨ 2 ^ 32 < i.size / i.block) := by
    simp only [Image.valid, Bool.and_eq_true, Bool.or_eq_true, decide_eq_true_eq, beq_iff_eq, Bool.not_eq_true']
    cases i.writable <;> simp <;> omega
  simp only [imageOf, hhandle, hsize', hblock', hwritable]
  by_cases h : i.valid = true
  · obtain ⟨hb, hw, hs⟩ := hvalid.1 h
    rw [if_neg hb, if_neg hw, if_neg hs, if_pos h]
  · rw [if_neg h]
    split
    · rfl
    · split
      · rfl
      · split
        · rfl
        · exact absurd (hvalid.2 ⟨‹_›, ‹_›, ‹_›⟩) h

/-- DRIVE_INSERT of an image (R145). -/
theorem exec_driveInsert (h : Ready s) (tag : Byte) (n : Node) (u : Lun) {i : Image} (hsize : i.size < 2 ^ 48) (hblock : i.block < 65536) :
    exec (.driveInsert tag (insertRecord n u i)) s = .next (if i.valid = true then
      (insertOp n u i (heard s)).enqueueReply 0x38 tag (Reply.okay false
        ([BitVec.ofNat 8 n, BitVec.ofNat 8 u, 1, ((insertOp n u i (heard s)).drive n u).generation] ++ le 5 (i.size / i.block)))
      else (heard s).enqueueReply 0x38 tag (Reply.refuse .badArg)) := by
  refine (live_request (k := 0x38) tag h (by decide) (by simp [insertRecord]) (by simp [requestLength, insertRecord])).trans ?_
  have hnode : nodeOf (u8 (insertRecord n u i) 0) = some n := nodeOf_byte n
  have hlun : lunOf (u8 (insertRecord n u i) 1) = some u := lunOf_byte u
  change Host.Outcome.next (replyTo 0x38 tag (driveInsertRequest (insertRecord n u i) (heard s))) = _
  have himage := imageOf_insertRecord n u hsize hblock
  by_cases hvalid : i.valid = true
  · have hdrive := insertOp_drive n u i (heard s)
    have hcapacity : ((insertOp n u i (heard s)).drive n u).capacity = i.size / i.block := by rw [hdrive]; rfl
    have hpresent : presentNum ((insertOp n u i (heard s)).drive n u) = true := by rw [hdrive]; rfl
    rw [if_pos hvalid] at himage ⊢
    simp only [driveInsertRequest, hnode, hlun, himage, hcapacity, hpresent, replyTo_accepted]
    rfl
  · rw [if_neg hvalid] at himage ⊢
    simp only [driveInsertRequest, hnode, hlun, himage, replyTo_refused]

/-! ## DRIVE_EJECT -/

/-- DRIVE_EJECT answers with the drive after it (R146). -/
theorem exec_driveEject (h : Ready s) (tag : Byte) (n : Node) (u : Lun) :
    exec (.driveEject tag [BitVec.ofNat 8 n, BitVec.ofNat 8 u]) s = .next ((ejectOp n u (heard s)).enqueueReply 0x39 tag (Reply.okay false
      (flag1 ((ejectOp n u (heard s)).drive n u).image.isSome ++ [((ejectOp n u (heard s)).drive n u).generation] ++
        flag1 ((ejectOp n u (heard s)).drive n u).remembered.isSome))) := by
  refine (live_request (k := 0x39) tag h (by decide) (by simp) (by simp [requestLength])).trans ?_
  have hnode : nodeOf (u8 [BitVec.ofNat 8 n, BitVec.ofNat 8 u] 0) = some n := nodeOf_byte n
  have hlun : lunOf (u8 [BitVec.ofNat 8 n, BitVec.ofNat 8 u] 1) = some u := lunOf_byte u
  change Host.Outcome.next (replyTo 0x39 tag (driveEjectRequest [BitVec.ofNat 8 n, BitVec.ofNat 8 u] (heard s))) = _
  simp only [driveEjectRequest, hnode, hlun, replyTo_accepted]
  rfl

theorem dropWaits_frame (n : Node) (s : State) : (dropWaits n s).nodes = s.nodes ∧ (dropWaits n s).cache.lines = s.cache.lines ∧
    (dropWaits n s).pool.free = s.pool.free ∧ (dropWaits n s).link = s.link := by
  unfold dropWaits
  dsimp only
  split <;> exact ⟨rfl, rfl, rfl, rfl⟩

/-- Where nothing waits, an eject frees the lines of the drive, and leaves the columns (R180). -/
theorem cacheEject_drained (hw : s.pool.waiting = []) (hs : s.cache.slotWait = []) (n : Node) (u : Lun) :
    (cacheEject n u s).nodes = s.nodes ∧ (cacheEject n u s).cache.lines = s.cache.lines.filter (fun l => !l.ofDrive n u) ∧
      (cacheEject n u s).pool.free = s.pool.free + 8 * (s.cache.lines.filter fun l => l.ofDrive n u).length := by
  obtain ⟨hnodes, hpool, hlines, hslots⟩ := slotsFreed_frame (allSlots.filter (s.slotOfDrive n u)) s
  let t := ((slotsFreed (allSlots.filter (s.slotOfDrive n u)) s).updCache fun c =>
    { c with lines := c.lines.filter fun l => !l.ofDrive n u }).updPool fun p =>
      { p with free := p.free + 8 * (s.cache.lines.filter fun l => l.ofDrive n u).length }
  have heject : cacheEject n u s =
      grantSlots (retryWaiting (if (s.node n).ctx.command.isSome ∧ s.cmdLun n = u then dropWaits n t else t)) := rfl
  have hfree : t.pool.free = s.pool.free + 8 * (s.cache.lines.filter fun l => l.ofDrive n u).length :=
    congrArg (fun p : Pool => p.free + 8 * (s.cache.lines.filter fun l => l.ofDrive n u).length) hpool
  have hkept : t.cache.lines = s.cache.lines.filter fun l => !l.ofDrive n u :=
    congrArg (List.filter fun l : Line => !l.ofDrive n u) hlines
  have hwait : t.pool.waiting = [] := (congrArg Pool.waiting hpool).trans hw
  have hslotWait : t.cache.slotWait = [] := hslots.trans hs
  obtain ⟨hdnodes, hdlines, hdfree, -⟩ := dropWaits_frame n t
  have hdwait : (dropWaits n t).pool.waiting = [] := by
    unfold dropWaits
    dsimp only
    split <;> simp [hwait]
  have hdslots : (dropWaits n t).cache.slotWait = [] := by rw [dropWaits_slotWait, hslotWait]; rfl
  rw [heject]
  split
  · rw [retryWaiting_of_nil hdwait, grantSlots_of_nil hdslots]
    exact ⟨hdnodes.trans hnodes, hdlines.trans hkept, hdfree.trans hfree⟩
  · rw [retryWaiting_of_nil hwait, grantSlots_of_nil hslotWait]
    exact ⟨hnodes, hkept, hfree⟩

/-- A connect test that takes no pull-up off leaves the cache, the pool and the context (R122, R123). -/
theorem connectTest_calm (h : (s.node n).port.pullUp = false ∨ connectHolds s n = true) : (connectTest n s).cache = s.cache ∧
    (connectTest n s).pool = s.pool ∧ ((connectTest n s).node n).ctx = (s.node n).ctx := by
  unfold connectTest startConnect attach portChange
  dsimp only
  split
  · rename_i hp
    rw [if_pos (h.resolve_left (by simp [hp]))]
    exact ⟨rfl, rfl, rfl⟩
  · split
    · split
      · exact ⟨rfl, rfl, rfl⟩
      · exact ⟨rfl, rfl, updPort_ctx ..⟩
    · split
      · split
        · exact ⟨latch_cache .., latch_pool .., by rw [latch_node, updPort_ctx]⟩
        · exact ⟨rfl, rfl, updPort_ctx ..⟩
      · exact ⟨rfl, rfl, updPort_ctx ..⟩

theorem Port.settings_of_still {p q : Port} (h : p.still = q.still) : p.enabled = q.enabled ∧ p.desc = q.desc ∧ p.always = q.always ∧
    p.state = q.state := by
  simpa using congrArg (fun r : Port => (r.enabled, r.desc, r.always, r.state)) h

/-- A port that answers ALWAYS keeps its connect conditions when an image goes (R122, R146). -/
theorem connectHolds_ejectSteps (ha : (s.node n).port.always = true) (hc : connectHolds s n = true) (u : Lun) :
    connectHolds (ejectSteps n u s) n = true := by
  obtain ⟨henabled, hdesc, hview, -⟩ := (connectHolds_iff s n).1 hc
  have hstill : (ejectSteps n u s).still = (s.updDrive n u Drive.ejected).still := by
    rw [ejectSteps, still_cacheEject, still_ejectCommand]
  have hport := port_of_still hstill n
  have hlines := (undisturbed_of_still hstill).lines n
  rw [updDrive_port] at hport
  rw [updDrive_lines] at hlines
  obtain ⟨henabled', hdesc', halways', -⟩ := Port.settings_of_still hport
  rw [connectHolds_iff, henabled', hdesc', halways', hlines]
  exact ⟨henabled, hdesc, hview, .inl ha⟩

theorem pullUp_ejectSteps (n : Node) (u : Lun) (s : State) : ((ejectSteps n u s).node n).port.pullUp = (s.node n).port.pullUp := by
  have hstill : (ejectSteps n u s).still = (s.updDrive n u Drive.ejected).still := by
    rw [ejectSteps, still_cacheEject, still_ejectCommand]
  have hport := port_of_still hstill n
  rw [updDrive_port] at hport
  obtain ⟨-, -, -, hstate⟩ := Port.settings_of_still hport
  rw [Port.pullUp, hstate]
  rfl

/-- A command on another drive goes on (R146). -/
theorem ejectCommand_other (h : ∀ k, (s.node n).ctx.command = some k → k.lun ≠ u) : ejectCommand n u s = s := by
  refine if_neg fun ⟨hsome, hlun⟩ => ?_
  obtain ⟨k, hk⟩ := Option.isSome_iff_exists.1 hsome
  exact h k hk ((cmdLun_of_command hk).symm.trans hlun)

/-- A running read of the drive fails with 02/3A/00 (R146). -/
theorem ejectCommand_reading {k : Command} (h : Reading s n k) (hu : k.lun = u) : ejectCommand n u s = failRead n senseNoMedium s := by
  obtain ⟨hcommand, hphase, hmode, hrunning, hresult, hpending⟩ := h
  unfold ejectCommand
  dsimp only
  rw [if_pos ⟨by rw [hcommand]; rfl, (cmdLun_of_command hcommand).trans hu⟩, if_pos ⟨hrunning, hphase⟩]

/-- What an eject that no command notices leaves (R146, R180). -/
theorem ejectSteps_drained (hw : s.pool.waiting = []) (hs : s.cache.slotWait = []) (h : ∀ k, (s.node n).ctx.command = some k → k.lun ≠ u) :
    (ejectSteps n u s).drive n u = (s.drive n u).ejected ∧
      (ejectSteps n u s).cache.lines = s.cache.lines.filter (fun l => !l.ofDrive n u) ∧
      (ejectSteps n u s).pool.free = s.pool.free + 8 * (s.cache.lines.filter fun l => l.ofDrive n u).length := by
  have hother := ejectCommand_other (s := s.updDrive n u Drive.ejected) (n := n) (u := u) (by rw [updDrive_ctx]; exact h)
  obtain ⟨hnodes, hlines, hfree⟩ := cacheEject_drained (s := s.updDrive n u Drive.ejected) hw hs n u
  rw [ejectSteps, hother]
  refine ⟨?_, hlines, hfree⟩
  rw [State.drive, State.node, hnodes]
  exact updDrive_drive_self s n u Drive.ejected

/-- What the eject of the drive of a running read leaves (R146, R180). -/
theorem ejectSteps_reading {k : Command} (hw : s.pool.waiting = []) (hs : s.cache.slotWait = []) (h : Reading s n k) (hu : k.lun = u) :
    ((ejectSteps n u s).node n).ctx.result = .failed senseNoMedium ∧
      ∀ l ∈ (ejectSteps n u s).cache.lines, ¬(l.node = n ∧ l.lun = u) := by
  have hread : Reading (s.updDrive n u Drive.ejected) n k := by
    unfold Reading
    rw [updDrive_ctx, updDrive_port]
    exact h
  obtain ⟨g, hg, hfail⟩ := failRead_drained (s := s.updDrive n u Drive.ejected) hw n senseNoMedium
  have hwait : (failRead n senseNoMedium (s.updDrive n u Drive.ejected)).pool.waiting = [] := by
    rw [hfail, updCache_pool, updCtx_pool, readFails_pool]
    exact hw
  have hslots : (failRead n senseNoMedium (s.updDrive n u Drive.ejected)).cache.slotWait = [] := by
    rw [hfail]
    change (readFails n senseNoMedium (s.updDrive n u Drive.ejected)).cache.slotWait = []
    rw [readFails_cache]
    exact hs
  obtain ⟨hnodes, hlines, -⟩ := cacheEject_drained hwait hslots n u
  rw [ejectSteps, ejectCommand_reading hread hu]
  refine ⟨?_, fun l hl => ?_⟩
  · rw [State.node, hnodes]
    change ((failRead n senseNoMedium (s.updDrive n u Drive.ejected)).node n).ctx.result = _
    rw [hfail, updCache_node, updCtx_node_self, forget_result]
    exact readFails_result hread senseNoMedium
  · rw [hlines] at hl
    have hnot := (List.mem_filter.1 hl).2
    simp only [Line.ofDrive, Bool.not_eq_true', Bool.and_eq_false_iff, beq_eq_false_iff_ne] at hnot
    exact fun ⟨hnode, hlun⟩ => hnot.elim (fun e => e hnode) fun e => e hlun

theorem updPort_of_eq {f : Port → Port} (h : f (s.node n).port = (s.node n).port) : s.updPort n f = s := by
  refine (updPort_congr (g := fun p => p) h).trans ?_
  change { s with nodes := s.nodes.set n s.nodes[n] } = s
  rw [Fin.getElem_fin, Vector.set_getElem_self]

/-- The state of an EMPTY slot with its new image, before the connect test (R145). -/
def State.inserting (s : State) (n : Node) (u : Lun) (i : Image) : State := s.updDrive n u fun _ => (s.drive n u).inserted i

theorem insertOp_empty (h : (s.drive n u).image = none) (i : Image) : insertOp n u i s = connectTest n (s.inserting n u i) := by
  have hset : (s.updDrive n u fun d => d.inserted i) = s.inserting n u i := rfl
  rw [insertOp, if_neg (by simp [h]), hset]

theorem inserting_node (s : State) (n : Node) (u : Lun) (i : Image) : ((s.inserting n u i).node n).port = (s.node n).port ∧
    ((s.inserting n u i).node n).lines = (s.node n).lines := by
  rw [State.inserting, updDrive_port, updDrive_lines]
  exact ⟨rfl, rfl⟩

theorem inserting_image (s : State) (n : Node) (u : Lun) (i : Image) :
    ((s.inserting n u i).drive n 0).image ≠ none ∨ ((s.inserting n u i).drive n 1).image ≠ none := by
  have hself : ((s.inserting n u i).drive n u).image = some i := by rw [State.inserting, updDrive_drive_self]; rfl
  have hsome : ((s.inserting n u i).drive n u).image ≠ none := by rw [hself]; simp
  fin_cases u
  · exact .inl hsome
  · exact .inr hsome

/-- An insert into a port that is DISABLED changes the drive alone (R122, R145). -/
theorem insertOp_disabled (h : (s.drive n u).image = none) (he : (s.node n).port.enabled = false) (hs : (s.node n).port.state = .disabled)
    (i : Image) : insertOp n u i s = s.inserting n u i := by
  obtain ⟨hport, -⟩ := inserting_node s n u i
  have hpull : (s.node n).port.pullUp = false := by rw [Port.pullUp, hs]
  have hholds : connectHolds (s.inserting n u i) n ≠ true := by
    rw [Ne, connectHolds_iff, hport, he]
    exact fun ⟨e, _⟩ => Bool.false_ne_true e
  rw [insertOp_empty h, connectTest_rests (by rw [hport]; exact hpull) (by rw [hport, hs]; decide) hholds]
  have hrest : (s.node n).port.restState = (s.node n).port.state := by
    rw [Port.restState, he, hs]
    rfl
  exact updPort_of_eq (by rw [hport, hrest])

/-- An insert that meets the connect conditions starts the connect delay (R123, R145). -/
theorem insertOp_connects (h : (s.drive n u).image = none) (he : (s.node n).port.enabled = true) (hd : (s.node n).port.desc ≠ none)
    (hv : (s.node n).lines.view = .running) (hs : (s.node n).port.state = .disconnected) (hdelay : 0 < (s.node n).port.delay) (i : Image) :
    insertOp n u i s = (s.inserting n u i).updPort n fun q => { q with state := .connecting, connectStart := some s.timebase } := by
  obtain ⟨hport, hlines⟩ := inserting_node s n u i
  have hpull : (s.node n).port.pullUp = false := by rw [Port.pullUp, hs]
  have hholds : connectHolds (s.inserting n u i) n = true := by
    rw [connectHolds_iff, hport, hlines]
    exact ⟨he, hd, hv, .inr (inserting_image s n u i)⟩
  rw [insertOp_empty h, connectTest_starts (by rw [hport]; exact hpull) (by rw [hport, hs]; decide) hholds (by rw [hport]; exact hdelay)]
  rfl

theorem enqueueReply_cache (s : State) (k t : Byte) (r : Reply) : (s.enqueueReply k t r).cache = s.cache := rfl

theorem drive_enqueueReply (s : State) (k t : Byte) (r : Reply) (n : Node) (u : Lun) : (s.enqueueReply k t r).drive n u = s.drive n u := rfl

theorem ejectOp_present (h : (s.drive n u).image ≠ none) : ejectOp n u s = connectTest n (ejectSteps n u s) :=
  if_pos (Option.isSome_iff_ne_none.2 h)

/-- Settles O53. -/
theorem imagesComeAndGo : Obligations.ImagesComeAndGo := by
  unfold Obligations.ImagesComeAndGo
  refine ⟨fun s tag n u i h hsize hblock => ?insert, fun s tag n u h => ?eject⟩
  case insert =>
    have hexec := exec_driveInsert h tag n u hsize hblock
    have hdrive := insertOp_drive n u i (heard s)
    have hgeneration := congrArg Drive.generation hdrive
    refine ⟨fun hvalid => ?_, fun hvalid hempty hdisabled hstate => ?_, fun hvalid hempty henabled hdesc hview hstate hdelay => ?_,
      fun hvalid hpresent => ?_⟩
    · rw [if_neg (by rw [hvalid]; exact Bool.false_ne_true)] at hexec
      exact hexec
    · rw [if_pos hvalid, hgeneration, if_neg (by rw [heard_drive, hempty]; exact Bool.false_ne_true),
        insertOp_disabled (s := heard s) hempty hdisabled hstate] at hexec
      exact hexec
    · rw [if_pos hvalid, hgeneration, if_neg (by rw [heard_drive, hempty]; exact Bool.false_ne_true),
        insertOp_connects (s := heard s) hempty henabled hdesc hview hstate hdelay] at hexec
      exact hexec
    · rw [if_pos hvalid] at hexec
      refine ⟨_, hexec, ?_, fun m v hne => ?_⟩
      · rw [drive_enqueueReply, hdrive, if_pos (by rw [heard_drive]; exact Option.isSome_iff_ne_none.2 hpresent), heard_drive, BitVec.add_assoc]
        rfl
      · have hmark := insertOp_mark_ne (n := n) (u := u) hne i (heard s)
        exact ⟨congrArg Prod.fst hmark, congrArg Prod.snd hmark⟩
  case eject =>
    have hexec := exec_driveEject h tag n u
    refine ⟨fun hempty => ?_, fun hpresent hw hs hother hport => ?_, fun k hpresent hw hs hread hu halways hc => ?_⟩
    · have hop : ejectOp n u (heard s) = heard s := if_neg (by rw [heard_drive, hempty]; exact Bool.false_ne_true)
      rw [hop, heard_drive, hempty] at hexec
      exact hexec
    · obtain ⟨hdrive, hlines, hfree⟩ := ejectSteps_drained (s := heard s) (n := n) (u := u) hw hs hother
      have hcalm : ((ejectSteps n u (heard s)).node n).port.pullUp = false ∨ connectHolds (ejectSteps n u (heard s)) n = true :=
        hport.imp (fun hp => (pullUp_ejectSteps n u (heard s)).trans hp) fun ⟨ha, hc⟩ => connectHolds_ejectSteps (s := heard s) ha hc u
      obtain ⟨hcache, hpool, -⟩ := connectTest_calm hcalm
      have hkept : (connectTest n (ejectSteps n u (heard s))).drive n u = (s.drive n u).ejected :=
        (congrArg (·[u]) (connectTest_drives n _)).trans hdrive
      rw [ejectOp_present (s := heard s) hpresent, hkept] at hexec
      refine ⟨_, hexec, ?_, ?_, ?_, ?_⟩
      · rw [drive_enqueueReply, hkept]
        rfl
      · refine (List.getLast?_append_of_ne_nil _ (List.cons_ne_nil _ _)).trans ?_
        rfl
      · exact (congrArg Cache.lines hcache).trans hlines
      · exact (congrArg Pool.free hpool).trans hfree
    · obtain ⟨hresult, hlines⟩ := ejectSteps_reading (s := heard s) hw hs hread hu
      obtain ⟨hcache, -, hctx⟩ := connectTest_calm (.inr (connectHolds_ejectSteps (s := heard s) halways hc u))
      rw [ejectOp_present (s := heard s) hpresent] at hexec
      refine ⟨_, hexec, ?_, fun l hl => hlines l ?_⟩
      · rw [enqueueReply_node, hctx, hresult]
        rfl
      · rw [enqueueReply_cache, hcache] at hl
        exact hl

end Sys2Proof.Machine

/-! # The packets of control transfers -/

namespace Sys2Proof.Machine

open Sys2Proof

variable {s : State} {n : Node}

/-! ## The first packet -/

/-- A transfer without a data stage has its status packet to send (R136). -/
theorem nextPacket_answered_zero {u : Setup} (h : u.length = 0) (bytes : List Byte) :
    (answeredTransfer u bytes).nextPacket = some { toggle := true, data := [] } := by
  have hlen : u.length.toNat = 0 := by rw [h]; rfl
  simp only [Control.nextPacket, answeredTransfer, hlen, if_true]

/-- A transfer with a data stage sends its first bytes first (R136). -/
theorem nextPacket_answered {u : Setup} (h : u.length ≠ 0) (bytes : List Byte) :
    (answeredTransfer u bytes).nextPacket = some { toggle := true, data := bytes.take (min u.length.toNat 64) } := by
  have hlen : u.length.toNat ≠ 0 := fun e => h (BitVec.eq_of_toNat_eq e)
  have hfirst : ((bytes.take u.length.toNat).drop 0).take 64 = bytes.take (min u.length.toNat 64) := by
    rw [List.drop_zero, List.take_take, Nat.min_comm]
  simp only [Control.nextPacket, answeredTransfer, hlen, if_false]
  by_cases hbytes : 0 < (bytes.take u.length.toNat).length
  · rw [if_pos hbytes, hfirst]
  · have hnil : bytes.take u.length.toNat = [] := List.eq_nil_of_length_eq_zero (by omega)
    have hempty : bytes.take (min u.length.toNat 64) = [] := by rw [← hfirst, hnil, List.drop_zero, List.take_nil]
    have howed : 0 < u.length.toNat ∧ 0 % 64 = 0 := ⟨by omega, rfl⟩
    rw [if_neg hbytes, hempty]
    simp only [hnil, List.length_nil, howed, and_self, decide_true, if_true]

/-! ## Tokens and acknowledgements -/

section

variable (h : Answering s n)

include h

theorem exec_controlIn : exec (.controlInToken n (s.node n).port.address) s = .next (answerControlIn n (onBus n s)) :=
  (live_of_porst_eq_false h.1 _).trans (congrArg _ (onPacket_answering h (answerControlIn n)))

theorem exec_controlOut : exec (.controlOutToken n (s.node n).port.address) s = .next (answerControlOut n (onBus n s)) :=
  (live_of_porst_eq_false h.1 _).trans (congrArg _ (onPacket_answering h (answerControlOut n)))

variable {c : Control} {k : Packet} (hc : (s.node n).port.control = some c) (hk : c.inFlight = some k)

include hc hk

/-- The acknowledgement of a packet of the data stage (R136). -/
theorem ackControlIn_data (hstage : c.stage = .data) : ackControlIn n s = setControl n (c.acked k) (onBus n s) := by
  simp only [ackControlIn, hc, hk, hstage, silent_busActivity h]

/-- The acknowledgement of the status packet ends the transfer, and a pending address takes effect (R136, R138). -/
theorem ackControlIn_status (hstage : c.stage = .status) :
    ackControlIn n s = (onBus n s).updPort n fun p => { p.takeAddress with control := none } := by
  simp only [ackControlIn, hc, hk, hstage, silent_busActivity h]

end

theorem onBus_control (n : Node) (s : State) : ((onBus n s).node n).port.control = (s.node n).port.control := by rw [onBus_port]

/-- A port without a pending address has none that takes effect (R138). -/
theorem takeAddress_none {p : Port} (h : p.pendingAddress = none) : p.takeAddress = p := by rw [Port.takeAddress, h]

/-- A pending address takes effect in a port that answers and is not CONFIGURED (R138). -/
theorem takeAddress_some {p : Port} {addr : BitVec 7} (h : p.pendingAddress = some addr) (hs : p.state = .defaulted ∨ p.state = .addressed) :
    p.takeAddress = { p with address := addr, pendingAddress := none, state := if addr = 0 then .defaulted else .addressed } := by
  rcases hs with hs | hs <;> simp only [Port.takeAddress, h, hs]

theorem state_of_answering (h : Answering s n) (hs : (s.node n).port.state ≠ .configured) :
    (s.node n).port.state = .defaulted ∨ (s.node n).port.state = .addressed := by
  obtain ⟨-, -, hhears⟩ := h
  unfold State.hears at hhears
  cases hstate : (s.node n).port.state <;> simp_all

/-- Settles O51. -/
theorem controlPacketsMove : Obligations.ControlPacketsMove := by
  unfold Obligations.ControlPacketsMove
  refine ⟨fun u bytes => ⟨rfl, fun hzero => nextPacket_answered_zero hzero bytes,
    fun hlen => nextPacket_answered hlen bytes⟩, fun s n h => ?_⟩
  have hlive (f : State → State) : live f s = .next (f s) := live_of_porst_eq_false h.1 f
  refine ⟨fun hnone => ⟨?_, ?_, ?_⟩, fun c hc => ?_⟩
  · rw [exec_controlIn h, answerControlIn, onBus_control, hnone]
    rfl
  · rw [exec_controlOut h, answerControlOut, onBus_control, hnone]
    rfl
  · refine (hlive _).trans (congrArg _ ?_)
    simp only [ackControlIn, hnone]
  have hcontrol := (onBus_control n s).trans hc
  refine ⟨fun hnext => ?_, fun k hnext => ?_, fun hflight hstage => ?_, fun k hk hstage => ⟨?_, ?_⟩, fun k hk hstage haddr => ?_,
    fun k addr hk hstage haddr hstate => ?_, fun hstage => ?_, fun hstage => ?_⟩
  · simp only [exec_controlIn h, answerControlIn, hcontrol, hnext]
    rfl
  · simp only [exec_controlIn h, answerControlIn, hcontrol, hnext, setAnswer, setControl, updPort_updPort]
  · simp only [Control.nextPacket, hstage, hflight]
  · simp only [Control.nextPacket, hstage, hk]
  · exact (hlive _).trans (congrArg _ (ackControlIn_data h hc hk hstage))
  · refine (hlive _).trans (congrArg _ ((ackControlIn_status h hc hk hstage).trans (updPort_congr ?_)))
    rw [takeAddress_none (by rw [onBus_port]; exact haddr)]
  · refine (hlive _).trans (congrArg _ ((ackControlIn_status h hc hk hstage).trans (updPort_congr ?_)))
    rw [takeAddress_some (by rw [onBus_port]; exact haddr) (by rw [onBus_port]; exact state_of_answering h hstate)]
  · simp only [exec_controlOut h, answerControlOut, hcontrol, hstage, setAnswer, updPort_updPort]
  · simp only [exec_controlOut h, answerControlOut, hcontrol]
    cases hc' : c.stage <;> simp_all [setAnswer]

end Sys2Proof.Machine

/-! # The packets of the bulk endpoints -/

namespace Sys2Proof.Machine

open Sys2Proof

variable {s : State} {n : Node}

theorem updCtx_congr {f g : Context → Context} (h : f (s.node n).ctx = g (s.node n).ctx) : s.updCtx n f = s.updCtx n g :=
  congrArg (fun x => s.updNode n fun c => { c with ctx := x }) h

/-! ## Where the port and its context stand when a packet arrives -/

theorem onBus_maxPacket (n : Node) (s : State) : (onBus n s).maxPacket n = s.maxPacket n := by
  rw [State.maxPacket, onBus_port]
  rfl

theorem onBus_readyLine (n : Node) (s : State) : (onBus n s).readyLine n = s.readyLine n := by
  have hlun : (onBus n s).cmdLun n = s.cmdLun n := by rw [State.cmdLun, State.cmdLun, onBus_ctx]
  have hfind (u : Lun) (g : Byte) (i : Nat) : (onBus n s).findLine n u g i = s.findLine n u g i := rfl
  simp only [State.readyLine, onBus_ctx, hlun, hfind]

section

variable (h : Answering s n)

include h

theorem exec_bulkIn : exec (.bulkInToken n (s.node n).port.address) s = .next (answerBulkIn n (onBus n s)) :=
  (live_of_porst_eq_false h.1 _).trans (congrArg _ (onPacket_answering h (answerBulkIn n)))

theorem exec_ping : exec (.ping n (s.node n).port.address) s = .next (answerPing n (onBus n s)) :=
  (live_of_porst_eq_false h.1 _).trans (congrArg _ (onPacket_answering h (answerPing n)))

/-- The state in which a delivered packet is handed to the context (R132). -/
theorem exec_bulkInAck {k : Packet} (hk : (s.node n).port.pendingIn = some k) :
    exec (.bulkInAck n) s = .next (delivered n k.data.length
      ((onBus n s).updPort n fun q => { q with pendingIn := none, toggleIn := !q.toggleIn })) := by
  refine (live_of_porst_eq_false h.1 _).trans (congrArg _ ?_)
  simp only [ackBulkIn, hk, busActivity_awake (pullUp_of_answering h) h.2.1, setAnswer, onBus, updPort_updPort]

end

/-- An acknowledgement with nothing pending changes nothing (log entry 3). -/
theorem ackBulkIn_none (h : (s.node n).port.pendingIn = none) : ackBulkIn n s = s := by
  simp only [ackBulkIn, h]

/-! ## The answers to bulk IN tokens -/

section

variable (hs : (s.node n).port.state = .configured) (hhalt : (s.node n).port.haltIn = false) (hrecovery : (s.node n).port.recovery = false)

include hs hhalt hrecovery

theorem answerBulkIn_pending {k : Packet} (hk : (s.node n).port.pendingIn = some k) : answerBulkIn n s = setAnswer n (.data k) s := by
  have hconfigured : s.configured n = true := decide_eq_true hs
  simp only [answerBulkIn, hconfigured, hhalt, hrecovery, hk, Bool.false_eq_true, or_self, if_true, if_false]

variable (hpending : (s.node n).port.pendingIn = none) (hask : askForPacket n s = s)

include hpending hask

/-- Bytes that the context supplies are sent, and stay pending until they are acknowledged (R132). -/
theorem answerBulkIn_supplied {d : List Byte} (hd : supplied s n = some d) : answerBulkIn n s = s.updPort n fun q =>
    { q with answer := .data { toggle := q.toggleIn, data := d }, pendingIn := some { toggle := q.toggleIn, data := d } } := by
  have hconfigured : s.configured n = true := decide_eq_true hs
  simp only [answerBulkIn, hconfigured, hhalt, hrecovery, hpending, hask, hd, Bool.false_eq_true, or_self, if_true, if_false, setAnswer,
    updPort_updPort]
  exact updPort_congr rfl

/-- A context with nothing to give answers NAK (R132). -/
theorem answerBulkIn_nak (hd : supplied s n = none) : answerBulkIn n s = setAnswer n .nak s := by
  have hconfigured : s.configured n = true := decide_eq_true hs
  simp only [answerBulkIn, hconfigured, hhalt, hrecovery, hpending, hask, hd, Bool.false_eq_true, or_self, if_true, if_false]

end

/-- A halted endpoint, and one in recovery, answers STALL (R132). -/
theorem answerBulkIn_stall (hs : (s.node n).port.state = .configured)
    (h : (s.node n).port.haltIn = true ∨ (s.node n).port.recovery = true) : answerBulkIn n s = setAnswer n .stall s := by
  have hconfigured : s.configured n = true := decide_eq_true hs
  rw [answerBulkIn, if_pos hconfigured]
  exact if_pos h

/-- A context that does not read from the cache asks for no line (R158, R174). -/
theorem askForPacket_unread (h : (s.node n).ctx.phase ≠ .dataIn ∨ (s.node n).ctx.mode ≠ .read) : askForPacket n s = s :=
  if_neg fun e => h.elim (· e.1) (· e.2.1)

/-- A read that has asked for the line of its next byte waits for it (R174). -/
theorem askForPacket_asked (h : (s.node n).ctx.ask.map Ask.index = some (((s.node n).ctx.startByte + (s.node n).ctx.moved) / 4096)) :
    askForPacket n s = s := by
  unfold askForPacket
  dsimp only
  split
  · exact if_pos h
  · rfl

/-! ## The bytes that the context supplies -/

section

variable (hphase : (s.node n).ctx.phase = .dataIn)

include hphase

theorem supplied_composed (hmode : (s.node n).ctx.mode = .composed) : supplied s n =
    some (((s.node n).ctx.composed.drop (s.node n).ctx.moved).take (min (s.maxPacket n) ((s.node n).ctx.dn - (s.node n).ctx.moved))) := by
  simp only [supplied, hphase, hmode]

variable (hmode : (s.node n).ctx.mode = .read) (hresult : (s.node n).ctx.result = .passed)

include hmode hresult

theorem supplied_unready (hready : s.readyLine n = none) : supplied s n = none := by
  simp only [supplied, hphase, hmode, hresult, if_true, hready, Option.map_none]

/-- A read is given the bytes of its line from the next one on (R158). -/
theorem supplied_ready {l : Line} (hready : s.readyLine n = some l) : supplied s n = some ((l.content.drop
    (((s.node n).ctx.startByte + (s.node n).ctx.moved) % 4096)).take (min (s.maxPacket n) ((s.node n).ctx.dn - (s.node n).ctx.moved))) := by
  simp only [supplied, hphase, hmode, hresult, if_true, hready, Option.map_some]
  rfl

end

theorem supplied_status (hphase : (s.node n).ctx.phase = .status) : supplied s n = some (s.node n).ctx.statusBytes := by
  simp only [supplied, hphase]

/-- A context that sends nothing (R149). -/
theorem supplied_idle (h : (s.node n).ctx.phase = .expectCommand ∨ (s.node n).ctx.phase = .dataOut ∨ (s.node n).ctx.phase = .awaitHost) :
    supplied s n = none := by
  rcases h with h | h | h <;> simp only [supplied, h]

/-! ## The answers to bulk OUT packets and PING -/

theorem wouldTake_willing
    (h : (s.node n).ctx.phase = .expectCommand ∨ ((s.node n).ctx.phase = .dataOut ∧ (s.node n).ctx.mode = .discard)) :
    wouldTake s n = true := by
  rcases h with h | ⟨h, hmode⟩
  · simp only [wouldTake, h]
  · simp only [wouldTake, h, hmode]

theorem wouldTake_unwilling
    (h : (s.node n).ctx.phase = .status ∨ (s.node n).ctx.phase = .dataIn ∨ (s.node n).ctx.phase = .awaitHost) :
    wouldTake s n = false := by
  rcases h with h | h | h <;> simp only [wouldTake, h]

/-- A packet above the maximum packet size is not answered (R131). -/
theorem answerBulkOut_long {toggle : Bool} {data : List Byte} (h : s.maxPacket n < data.length) : answerBulkOut n toggle data s = s :=
  if_neg fun e => by omega

theorem answerBulkOut_stall {toggle : Bool} {data : List Byte} (hs : (s.node n).port.state = .configured)
    (hlen : data.length ≤ s.maxPacket n) (h : (s.node n).port.haltOut = true ∨ (s.node n).port.recovery = true) :
    answerBulkOut n toggle data s = setAnswer n .stall s := by
  have hconfigured : s.configured n = true := decide_eq_true hs
  rw [answerBulkOut, if_pos ⟨hconfigured, hlen⟩]
  exact if_pos h

/-- A packet with the toggle of the one before is acknowledged without effect (R133). -/
theorem answerBulkOut_repeated {toggle : Bool} {data : List Byte} (hs : (s.node n).port.state = .configured)
    (hlen : data.length ≤ s.maxPacket n) (hhalt : (s.node n).port.haltOut = false) (hrecovery : (s.node n).port.recovery = false)
    (htoggle : toggle ≠ (s.node n).port.toggleOut) : answerBulkOut n toggle data s = setAnswer n .ack s := by
  have hconfigured : s.configured n = true := decide_eq_true hs
  rw [answerBulkOut, if_pos ⟨hconfigured, hlen⟩]
  dsimp only
  rw [if_neg (by simp [hhalt, hrecovery]), if_pos htoggle]

/-- A context in a phase that takes no data takes none (R149). -/
theorem takeOut_unwilling {data : List Byte}
    (h : (s.node n).ctx.phase = .status ∨ (s.node n).ctx.phase = .dataIn ∨ (s.node n).ctx.phase = .awaitHost) :
    takeOut n data s = (false, s) := by
  rcases h with h | h | h <;> simp only [takeOut, h]

/-- Bytes of a refused command that are not its last are taken and discarded (R153, R160). -/
theorem takeOut_discards {data : List Byte} (hphase : (s.node n).ctx.phase = .dataOut) (hmode : (s.node n).ctx.mode = .discard)
    (hlen : data.length = s.maxPacket n) (hmore : (s.node n).ctx.moved + data.length < (s.node n).ctx.expected) :
    takeOut n data s = (true, s.updCtx n fun x => { x with moved := (s.node n).ctx.moved + data.length }) := by
  have hafter : (s.node n).ctx.movedAfter data.length = (s.node n).ctx.moved + data.length := by
    rw [Context.movedAfter]
    omega
  have hgoes : ¬((s.node n).ctx.moved + data.length = (s.node n).ctx.expected ∨ data.length < s.maxPacket n) := by omega
  simp only [takeOut, hphase, hmode, hafter, hgoes, decide_false, Bool.false_eq_true, if_false]

theorem answerPing_stall (hs : (s.node n).port.state = .configured)
    (h : (s.node n).port.haltOut = true ∨ (s.node n).port.recovery = true) : answerPing n s = setAnswer n .stall s := by
  have hconfigured : s.configured n = true := decide_eq_true hs
  rw [answerPing, if_pos hconfigured]
  exact if_pos h

/-- A PING is answered as a packet would be (R133). -/
theorem answerPing_eq (hs : (s.node n).port.state = .configured) (hhalt : (s.node n).port.haltOut = false)
    (hrecovery : (s.node n).port.recovery = false) :
    answerPing n s = setAnswer n (if wouldTake s n = true then .ack else .nak) s := by
  have hconfigured : s.configured n = true := decide_eq_true hs
  simp only [answerPing, hconfigured, hhalt, hrecovery, Bool.false_eq_true, or_self, if_true, if_false]
  split <;> rfl

/-! ## What a delivered packet does -/

/-- The delivery of the status wrapper ends the command (R162). -/
theorem delivered_status (h : (s.node n).ctx.phase = .status) (len : Nat) : delivered n len s = s.updCtx n Context.idle := by
  simp only [delivered, h]

/-- The delivery of bytes that are not the last of a composed answer moves it on (R158). -/
theorem delivered_composed {len : Nat} (hphase : (s.node n).ctx.phase = .dataIn) (hmode : (s.node n).ctx.mode = .composed)
    (hmore : (s.node n).ctx.moved + len ≠ (s.node n).ctx.dn) :
    delivered n len s = s.updCtx n fun x => { x with moved := (s.node n).ctx.moved + len } := by
  simp only [delivered, hphase, hmode, hmore, if_false]
  exact updCtx_congr rfl

/-- The delivery of the packet that closes a data phase gives the status (R158). -/
theorem delivered_closes {len : Nat} (hphase : (s.node n).ctx.phase = .dataIn) (hmode : (s.node n).ctx.mode = .zlp)
    (hask : (s.node n).ctx.ask = none) (hcommand : (s.node n).ctx.command ≠ none) : ((delivered n len s).node n).ctx.phase = .status := by
  obtain ⟨k, hk⟩ := Option.ne_none_iff_exists'.1 hcommand
  have hdetach : detach n (s.updCtx n fun x => { x with moved := x.moved + len }) = s.updCtx n fun x => { x with moved := x.moved + len } := by
    simp only [detach, updCtx_node_self, hask]
  simp only [delivered, hphase, hmode, hdetach]
  rw [enterStatus_ctx (k := k) (by rw [updCtx_node_self]; exact hk)]

/-- Settles O52: each answer is read off what the context supplies or takes. -/
theorem bulkPacketsMove : Obligations.BulkPacketsMove := by
  unfold Obligations.BulkPacketsMove
  intro s n h hs p x a answer size
  have hlive (f : State → State) : live f s = .next (f s) := live_of_porst_eq_false h.1 f
  have hport := onBus_port n s
  have hctx := onBus_ctx n s n
  have hstate : ((onBus n s).node n).port.state = .configured := by rw [hport]; exact hs
  have hroom : (onBus n s).maxPacket n = size := onBus_maxPacket n s
  have hset (y : UsbAnswer) : setAnswer n y (onBus n s) = answer y := rfl
  refine ⟨fun b hb => ⟨?_, ?_⟩, fun hstall => ?_, fun hhalt hrecovery => ?_, fun hpending => ?_, fun k hk => ?_,
    fun toggle data hlong => ?_, fun toggle data hlen => ⟨fun hstall => ⟨?_, ?_⟩, fun hhalt hrecovery => ?_⟩,
    fun hhalt hrecovery => ⟨fun hwill => ?_, fun hwill => ?_⟩⟩
  · exact (hlive _).trans (congrArg _ (onPacket_elsewhere h hb _))
  · exact (hlive _).trans (congrArg _ (onPacket_elsewhere h hb _))
  · exact (exec_bulkIn h).trans (congrArg _ (answerBulkIn_stall hstate (by rw [hport]; exact hstall)))
  · have hhalt' : ((onBus n s).node n).port.haltIn = false := by rw [hport]; exact hhalt
    have hrecovery' : ((onBus n s).node n).port.recovery = false := by rw [hport]; exact hrecovery
    have hgives (hpending : p.pendingIn = none) {d : List Byte} (hask : askForPacket n (onBus n s) = onBus n s)
        (hd : supplied (onBus n s) n = some d) := (exec_bulkIn h).trans (congrArg Host.Outcome.next
      (answerBulkIn_supplied hstate hhalt' hrecovery' (by rw [hport]; exact hpending) hask hd))
    have hnothing (hpending : p.pendingIn = none) (hask : askForPacket n (onBus n s) = onBus n s)
        (hd : supplied (onBus n s) n = none) := (exec_bulkIn h).trans (congrArg Host.Outcome.next
      (answerBulkIn_nak hstate hhalt' hrecovery' (by rw [hport]; exact hpending) hask hd))
    refine ⟨fun k hk => ?_, fun hpending hphase => ?_, fun hpending hphase hmode => ?_,
      fun hpending hphase hmode hresult hask => ⟨fun hready => ?_, fun l hready => ?_⟩, fun hpending hphase => ?_⟩
    · exact (exec_bulkIn h).trans (congrArg _ (answerBulkIn_pending hstate hhalt' hrecovery' (by rw [hport]; exact hk)))
    · exact (hgives hpending (askForPacket_unread (.inl (by rw [hctx, hphase]; decide))) (supplied_status (by rw [hctx]; exact hphase))).trans
        (by rw [hctx])
    · exact (hgives hpending (askForPacket_unread (.inr (by rw [hctx, hmode]; decide)))
        (supplied_composed (by rw [hctx]; exact hphase) (by rw [hctx]; exact hmode))).trans (by rw [hctx, hroom])
    · exact hnothing hpending (askForPacket_asked (by rw [hctx]; exact hask)) (supplied_unready (by rw [hctx]; exact hphase)
        (by rw [hctx]; exact hmode) (by rw [hctx]; exact hresult) ((onBus_readyLine n s).trans hready))
    · exact (hgives hpending (askForPacket_asked (by rw [hctx]; exact hask)) (supplied_ready (by rw [hctx]; exact hphase)
        (by rw [hctx]; exact hmode) (by rw [hctx]; exact hresult) ((onBus_readyLine n s).trans hready))).trans (by rw [hctx, hroom])
    · exact hnothing hpending (askForPacket_unread (.inl (by rw [hctx]; rcases hphase with e | e | e <;> (rw [e]; decide))))
        (supplied_idle (by rw [hctx]; exact hphase))
  · exact (hlive _).trans (congrArg _ (ackBulkIn_none hpending))
  · have hgiven : (((onBus n s).updPort n fun q => { q with pendingIn := none, toggleIn := !q.toggleIn }).node n).ctx = x :=
      (updPort_ctx ..).trans hctx
    refine ⟨fun hphase => ?_, fun hphase hmode hmore => ?_, fun hphase hmode hask hcommand => ?_⟩
    · rw [exec_bulkInAck h hk, delivered_status (by rw [hgiven]; exact hphase)]
      exact congrArg _ (updCtx_congr (by rw [hgiven]; rfl))
    · rw [exec_bulkInAck h hk, delivered_composed (by rw [hgiven]; exact hphase) (by rw [hgiven]; exact hmode)
        (by rw [hgiven]; exact hmore)]
      exact congrArg _ (updCtx_congr (by rw [hgiven]))
    · exact ⟨_, exec_bulkInAck h hk, delivered_closes (by rw [hgiven]; exact hphase) (by rw [hgiven]; exact hmode)
        (by rw [hgiven]; exact hask) (by rw [hgiven]; exact hcommand)⟩
  · exact (exec_bulkOut h ..).trans (congrArg _ (answerBulkOut_long (by rw [hroom]; exact hlong)))
  · exact (exec_bulkOut h ..).trans (congrArg _ (answerBulkOut_stall hstate (by rw [hroom]; exact hlen) (by rw [hport]; exact hstall)))
  · exact (exec_ping h).trans (congrArg _ (answerPing_stall hstate (by rw [hport]; exact hstall)))
  · have hhalt' : ((onBus n s).node n).port.haltOut = false := by rw [hport]; exact hhalt
    have hrecovery' : ((onBus n s).node n).port.recovery = false := by rw [hport]; exact hrecovery
    have hlen' : data.length ≤ (onBus n s).maxPacket n := by rw [hroom]; exact hlen
    have hoffer (htoggle : toggle = p.toggleOut) := (exec_bulkOut h toggle data).trans (congrArg Host.Outcome.next
      (answerBulkOut_eq hstate hlen' hhalt' hrecovery' (by rw [hport]; exact htoggle.symm)))
    refine ⟨fun htoggle => ?_, fun htoggle hphase => ?_, fun htoggle hphase hmode hfull hmore => ?_⟩
    · exact (exec_bulkOut h ..).trans (congrArg _
        (answerBulkOut_repeated hstate hlen' hhalt' hrecovery' (by rw [hport]; exact htoggle)))
    · rw [hoffer htoggle, takeOut_unwilling (by rw [hctx]; exact hphase)]
      rfl
    · rw [hoffer htoggle, takeOut_discards (by rw [hctx]; exact hphase) (by rw [hctx]; exact hmode) (by rw [hroom]; exact hfull)
        (by rw [hctx, hfull]; exact hmore), if_pos rfl, setAnswer, updPort_updPort, ← updPort_updCtx, updPort_updCtx, updPort_updCtx,
        hfull]
      refine congrArg Host.Outcome.next (congrArg (fun t => State.updPort t n _) (updCtx_congr ?_))
      rw [hctx]
  · refine (exec_ping h).trans (congrArg _ ?_)
    rw [answerPing_eq hstate (by rw [hport]; exact hhalt) (by rw [hport]; exact hrecovery), wouldTake_willing (by rw [hctx]; exact hwill),
      if_pos rfl, hset]
  · refine (exec_ping h).trans (congrArg _ ?_)
    rw [answerPing_eq hstate (by rw [hport]; exact hhalt) (by rw [hport]; exact hrecovery), wouldTake_unwilling (by rw [hctx]; exact hwill),
      if_neg Bool.false_ne_true, hset]

end Sys2Proof.Machine

/-! # The requests of endpoint 0 -/

namespace Sys2Proof.Machine

open Sys2Proof

variable {s : State} {n : Node} {v : Setup}

/-! ## A SETUP packet is taken -/

/-- A port that answers decides the request of a SETUP packet with the transfer before it abandoned (R135). -/
theorem onSetup_answering (h : Answering s n) (f : State → State) : onSetup n (s.node n).port.address f s = f (onSetupTaken n s) := by
  rw [onSetup, onPacket_answering h, setAnswer, updPort_updPort]
  rfl

theorem onSetupTaken_port (n : Node) (s : State) : ((onSetupTaken n s).node n).port = { (s.node n).port with
    idleSince := s.timebase, pendingAddress := none, control := none, answer := .ack } := by
  rw [onSetupTaken, updPort_node_self, onBus_port]

theorem onSetupTaken_ctx (n : Node) (s : State) : ((onSetupTaken n s).node n).ctx = (s.node n).ctx := by
  rw [onSetupTaken, updPort_ctx, onBus_ctx]

/-- Every control request has a code of its own, and the two of R141 are the class requests. -/
theorem requestOf_setup (r : ControlRequest) (u : SetupFields) :
    requestOf (r.setup u) = some r ∧ ((r.setup u).type = .classRequest ↔ r = .bulkReset ∨ r = .getMaxLun) := by
  constructor
  · cases r <;> rfl
  · cases r <;> simp [ControlRequest.setup, ControlRequest.type]

theorem otherInterface_iff : otherInterface v = true ↔ v.recipient = .iface ∧ v.index ≠ 0 := by
  simp only [otherInterface, Bool.and_eq_true, decide_eq_true_eq]

theorem setControl_node (n : Node) (c : Control) (s : State) :
    ((setControl n c s).node n).port = { (s.node n).port with control := some c } ∧ ((setControl n c s).node n).ctx = (s.node n).ctx := by
  rw [setControl, updPort_node_self]
  exact ⟨rfl, rfl⟩

/-! ## GET_DESCRIPTOR -/

section

variable {p : Port} {d : DescSet} (hd : p.desc = some d)

include hd

theorem descriptorFor_device (helse : ¬(v.recipient = .iface ∧ v.index ≠ 0)) (hv : v.value = 0x0100) :
    descriptorFor p v = some (d.device.set 7 64) := by
  have hother : otherInterface v ≠ true := fun e => helse (otherInterface_iff.1 e)
  have hvalue : v.value.toNat = 256 := by rw [hv]; rfl
  simp only [descriptorFor, hd, hother, hvalue]
  rfl

theorem descriptorFor_config (helse : ¬(v.recipient = .iface ∧ v.index ≠ 0)) (hv : v.value = 0x0200) :
    descriptorFor p v = some (patchConfig p.maxPacket d.config) := by
  have hother : otherInterface v ≠ true := fun e => helse (otherInterface_iff.1 e)
  have hvalue : v.value.toNat = 512 := by rw [hv]; rfl
  simp only [descriptorFor, hd, hother, hvalue]
  rfl

/-- A string entry is returned whatever the recipient, where it is not absent (R137, log entry 22). -/
theorem descriptorFor_string {k : Fin 4} (hv : v.value = BitVec.ofNat 16 (0x0300 + k)) :
    descriptorFor p v = if d.strings[k] = [] then none else some d.strings[k] := by
  have hvalue : v.value.toNat = 768 + k := by
    rw [hv, BitVec.toNat_ofNat]
    omega
  have htype : (768 + (k : Nat)) / 256 = 3 := by omega
  have hindex : (768 + (k : Nat)) % 256 = k := by omega
  simp [descriptorFor, hd, hvalue, htype, hindex, indexOf_val]

/-- Other types and entries are not answered (R137). -/
theorem descriptorFor_absent
    (h : v.value.toNat / 256 ∉ [1, 2, 3] ∨ (v.value.toNat / 256 ≤ 2 ∧ v.value.toNat % 256 ≠ 0) ∨ 3 < v.value.toNat % 256) :
    descriptorFor p v = none := by
  simp only [List.mem_cons, List.not_mem_nil, or_false] at h
  have hdevice : ¬(v.value.toNat / 256 = 1 ∧ v.value.toNat % 256 = 0) := by omega
  have hconfig : ¬(v.value.toNat / 256 = 2 ∧ v.value.toNat % 256 = 0) := by omega
  simp only [descriptorFor, hd, hdevice, hconfig, if_false]
  split
  · rfl
  · split
    · rw [indexOf_eq_none (by omega)]
    · rfl

end

/-- A request to another interface, but for a string entry, is not answered (R135). -/
theorem descriptorFor_elsewhere {p : Port} (helse : v.recipient = .iface ∧ v.index ≠ 0) (hv : v.value.toNat / 256 ≠ 3) :
    descriptorFor p v = none := by
  unfold descriptorFor
  split
  · rfl
  · exact if_pos ⟨otherInterface_iff.2 helse, hv⟩

theorem decideGetDescriptor_none (h : descriptorFor (s.node n).port v = none) : decideGetDescriptor n v s = stallRequest n v s := by
  rw [decideGetDescriptor, h]

theorem decideGetDescriptor_some {e : List Byte} (h : descriptorFor (s.node n).port v = some e) :
    decideGetDescriptor n v s = answerRequest n v e s := by rw [decideGetDescriptor, h]

/-! ## SET_ADDRESS -/

theorem decideSetAddress_stalls (h : (v.recipient = .iface ∧ v.index ≠ 0) ∨ 127 < v.value.toNat ∨ v.length ≠ 0 ∨
    (s.node n).port.state = .configured) : decideSetAddress n v s = stallRequest n v s :=
  if_pos (h.imp otherInterface_iff.2 (Or.imp id (Or.imp id decide_eq_true)))

theorem decideSetAddress_answers (helse : ¬(v.recipient = .iface ∧ v.index ≠ 0)) (hv : v.value.toNat ≤ 127) (hlen : v.length = 0)
    (hs : (s.node n).port.state ≠ .configured) : decideSetAddress n v s =
      answerRequest n v [] (s.updPort n fun p => { p with pendingAddress := some (v.value.truncate 7) }) := by
  have hgoes : ¬(otherInterface v = true ∨ 127 < v.value.toNat ∨ v.length ≠ 0 ∨ s.configured n = true) := by
    rintro (e | e | e | e)
    · exact helse (otherInterface_iff.1 e)
    · omega
    · exact e hlen
    · exact hs (of_decide_eq_true e)
  rw [decideSetAddress, if_neg hgoes, BitVec.ofNat_toNat]

/-! ## SET_CONFIGURATION and GET_CONFIGURATION -/

theorem decideSetConfiguration_stalls (h : (v.recipient = .iface ∧ v.index ≠ 0) ∨ 1 < v.value.toNat ∨ v.length ≠ 0 ∨
    (s.node n).port.state = .defaulted) : decideSetConfiguration n v s = stallRequest n v s :=
  if_pos (h.imp otherInterface_iff.2 id)

section

variable (helse : ¬(v.recipient = .iface ∧ v.index ≠ 0)) (hlen : v.length = 0) (hs : (s.node n).port.state ≠ .defaulted)

include helse hlen hs

/-- A SET_CONFIGURATION of an addressed port with value 0 or 1 is not stalled (R139). -/
theorem decideSetConfiguration_goes (hv : v.value.toNat ≤ 1) : decideSetConfiguration n v s =
    if v.value = 1 then answerRequest n v [] (configure n s)
    else if s.configured n then answerRequest n v [] (unconfigure n s) else answerRequest n v [] s := by
  refine if_neg ?_
  rintro (e | e | e | e)
  · exact helse (otherInterface_iff.1 e)
  · omega
  · exact e hlen
  · exact hs e

theorem decideSetConfiguration_configures (hv : v.value = 1) : decideSetConfiguration n v s = answerRequest n v [] (configure n s) :=
  (decideSetConfiguration_goes helse hlen hs (by rw [hv]; decide)).trans (if_pos hv)

theorem decideSetConfiguration_unconfigures (hv : v.value = 0) (hconf : (s.node n).port.state = .configured) :
    decideSetConfiguration n v s = answerRequest n v [] (unconfigure n s) := by
  have hconf' : s.configured n = true := decide_eq_true hconf
  rw [decideSetConfiguration_goes helse hlen hs (by rw [hv]; decide), if_neg (by rw [hv]; decide), if_pos hconf']

theorem decideSetConfiguration_stays (hv : v.value = 0) (hconf : (s.node n).port.state ≠ .configured) :
    decideSetConfiguration n v s = answerRequest n v [] s := by
  have hconf' : ¬s.configured n = true := fun e => hconf (of_decide_eq_true e)
  rw [decideSetConfiguration_goes helse hlen hs (by rw [hv]; decide), if_neg (by rw [hv]; decide), if_neg hconf']

end

/-- A port that is configured starts with clear toggles and halts and a cleared context (R139). -/
theorem configure_node (n : Node) (s : State) :
    ((configure n s).node n).port = { (s.node n).port with
      state := .configured, configuration := true, toggleIn := false, toggleOut := false, haltIn := false, haltOut := false,
      recovery := false, pendingIn := none, stagingBlocked := false } ∧
    ((configure n s).node n).ctx = { Context.reset with fwdTicket := (s.node n).ctx.fwdTicket } := by
  rw [configure, portChange_node, clearContext_port, clearContext_ctx, updPort_node_self]
  exact ⟨rfl, rfl⟩

theorem configure_detail (h : s.events.recs[(Source.node n .portChange).id].level ≠ 0) :
    (configure n s).events.recs[(Source.node n .portChange).id].lastDetail = 6 + 256 * (if (s.node n).port.high = true then 1 else 0) := by
  rw [configure, portChange_detail (by rw [level_of_levels (levels_clearContext ..), updPort_events]; exact h), clearContext_port,
    updPort_node_self]
  rfl

theorem unconfigure_node (n : Node) (s : State) :
    ((unconfigure n s).node n).port = { (s.node n).port with
      state := .addressed, configuration := false, haltIn := false, haltOut := false,
      recovery := false, pendingIn := none, stagingBlocked := false } ∧
    ((unconfigure n s).node n).ctx = { Context.reset with fwdTicket := (s.node n).ctx.fwdTicket } := by
  rw [unconfigure, portChange_node, clearContext_port, clearContext_ctx, updPort_node_self]
  exact ⟨rfl, rfl⟩

theorem decideGetConfiguration_stalls (h : (v.recipient = .iface ∧ v.index ≠ 0) ∨ (s.node n).port.state = .defaulted) :
    decideGetConfiguration n v s = stallRequest n v s := if_pos (h.imp otherInterface_iff.2 id)

theorem decideGetConfiguration_answers (helse : ¬(v.recipient = .iface ∧ v.index ≠ 0)) (hs : (s.node n).port.state ≠ .defaulted) :
    decideGetConfiguration n v s = answerRequest n v [if (s.node n).port.configuration = true then 1 else 0] s :=
  if_neg fun e => e.elim (fun e => helse (otherInterface_iff.1 e)) hs

/-! ## GET_STATUS -/

theorem decideGetStatus_none (h : statusFor s n v = none) : decideGetStatus n v s = stallRequest n v s := by rw [decideGetStatus, h]

theorem decideGetStatus_some {b : Bool} (h : statusFor s n v = some b) :
    decideGetStatus n v s = answerRequest n v [if b = true then 1 else 0, 0] s := by
  rw [decideGetStatus, h]
  rfl

theorem statusFor_device {d : DescSet} (hr : v.recipient = .device) (hd : (s.node n).port.desc = some d) :
    statusFor s n v = some ((d.config.getD 7 0).getLsbD 6) := by
  simp only [statusFor, hr, selfPowered, hd]

theorem statusFor_zero (hr : v.recipient = .endpoint) (hi : v.index = 0) : statusFor s n v = some false := by
  simp only [statusFor, hr, hi, if_true]

theorem statusFor_endpoint (hr : v.recipient = .endpoint) (hi : v.index ≠ 0) (hs : (s.node n).port.state = .configured) :
    statusFor s n v = (endpointOf v.index).map (s.node n).port.halted := by
  have hconfigured : s.configured n = true := decide_eq_true hs
  simp only [statusFor, hr, hi, hconfigured, if_true, if_false]

theorem statusFor_in (hr : v.recipient = .endpoint) (hi : v.index = 0x81) (hs : (s.node n).port.state = .configured) :
    statusFor s n v = some (s.node n).port.haltIn := by
  rw [statusFor_endpoint hr (by rw [hi]; decide) hs, hi]
  rfl

theorem statusFor_out (hr : v.recipient = .endpoint) (hi : v.index = 0x02) (hs : (s.node n).port.state = .configured) :
    statusFor s n v = some (s.node n).port.haltOut := by
  rw [statusFor_endpoint hr (by rw [hi]; decide) hs, hi]
  rfl

theorem statusFor_interface (hr : v.recipient = .iface) (hi : v.index = 0) (hs : (s.node n).port.state = .configured) :
    statusFor s n v = some false := by
  have hconfigured : s.configured n = true := decide_eq_true hs
  simp only [statusFor, hr, hi, hconfigured, and_self, if_true]

theorem endpointOf_none {i : BitVec 16} (h : i ≠ 0x81 ∧ i ≠ 0x02) : endpointOf i = none := by
  rw [endpointOf, if_neg h.1, if_neg h.2]

/-- The recipients whose status is not answered (R139). -/
theorem statusFor_unserved (h : v.recipient = .other ∨ (v.recipient = .iface ∧ (v.index ≠ 0 ∨ (s.node n).port.state ≠ .configured)) ∨
    (v.recipient = .endpoint ∧ v.index ≠ 0 ∧ ((v.index ≠ 0x81 ∧ v.index ≠ 0x02) ∨ (s.node n).port.state ≠ .configured))) :
    statusFor s n v = none := by
  rcases h with hr | ⟨hr, hrest⟩ | ⟨hr, hi, hrest⟩
  · simp only [statusFor, hr]
  · simp only [statusFor, hr]
    refine if_neg fun e => hrest.elim (fun hi => hi e.1) fun hs => hs (of_decide_eq_true e.2)
  · simp only [statusFor, hr, hi, if_false]
    split
    · rename_i hconfigured
      rcases hrest with hnone | hs
      · rw [endpointOf_none hnone, Option.map_none]
      · exact absurd (of_decide_eq_true hconfigured) hs
    · rfl

/-! ## SET_FEATURE and CLEAR_FEATURE -/

/-- Whether a feature request names the halt of an endpoint of a CONFIGURED port (R140). -/
def namesHalt (r : Recipient) (value : BitVec 16) (st : PortState) : Bool :=
  decide (r = .endpoint) && decide (value = 0) && decide (st = .configured)

theorem featureTarget_eq (s : State) (n : Node) (v : Setup) :
    featureTarget s n v = if namesHalt v.recipient v.value (s.node n).port.state = true then endpointOf v.index else none := by
  simp only [featureTarget, namesHalt, State.configured, Bool.and_eq_true, decide_eq_true_eq, and_assoc]

theorem featureTarget_none (h : namesHalt v.recipient v.value (s.node n).port.state = false ∨ (v.index ≠ 0x81 ∧ v.index ≠ 0x02)) :
    featureTarget s n v = none := by
  rw [featureTarget_eq]
  rcases h with h | h
  · exact if_neg (by rw [h]; decide)
  · rw [endpointOf_none h, ite_self]

section

variable (hnamed : namesHalt v.recipient v.value (s.node n).port.state = true)

include hnamed

theorem featureTarget_in (hi : v.index = 0x81) : featureTarget s n v = some .bulkIn := by
  rw [featureTarget_eq, if_pos hnamed, hi]
  rfl

theorem featureTarget_out (hi : v.index = 0x02) : featureTarget s n v = some .bulkOut := by
  rw [featureTarget_eq, if_pos hnamed, hi]
  rfl

end

theorem decideSetFeature_some {e : Endpoint} (h : featureTarget s n v = some e) :
    decideSetFeature n v s = answerRequest n v [] (setHalt n e true s) := by rw [decideSetFeature, h]

theorem decideSetFeature_none (h : featureTarget s n v = none) : decideSetFeature n v s = stallRequest n v s := by
  rw [decideSetFeature, h]

theorem decideClearFeature_none (h : featureTarget s n v = none) : decideClearFeature n v s = stallRequest n v s := by
  rw [decideClearFeature, h]

theorem decideClearFeature_some {e : Endpoint} (h : featureTarget s n v = some e) :
    decideClearFeature n v s = answerRequest n v [] (if (s.node n).port.recovery then s else clearHalt n e s) := by
  rw [decideClearFeature, h]

/-- The halt of 02H is cleared with its toggle, where the context does not wait for that (R132, R140). -/
theorem clearHalt_out (h : (s.node n).ctx.phase ≠ .haltThenStatus) :
    clearHalt n .bulkOut s = s.updPort n fun p => { p with haltOut := false, toggleOut := false } :=
  if_neg fun e => h (by rw [← e.1, updPort_ctx])

theorem enterStatus_port (n : Node) (s : State) : ((enterStatus n s).node n).port = (s.node n).port := by
  unfold enterStatus
  dsimp only
  split
  · rfl
  · rw [updCtx_port, State.updDrive, updNode_node_self]

/-- A clearing of the halt that the context waits for gives the status (R134, R156). -/
theorem clearHalt_in_node (hphase : (s.node n).ctx.phase = .haltThenStatus) (hhalted : (s.node n).ctx.halted = some .bulkIn)
    (hcommand : (s.node n).ctx.command ≠ none) :
    ((clearHalt n .bulkIn s).node n).port = { (s.node n).port with haltIn := false, toggleIn := false, pendingIn := none } ∧
      ((clearHalt n .bulkIn s).node n).ctx.phase = .status := by
  obtain ⟨k, hk⟩ := Option.ne_none_iff_exists'.1 hcommand
  have hback (t : State) (ht : (t.node n).ctx = (s.node n).ctx) (b : Bool) : (if b = true then handedBack n t else t) = t := by
    have hkept : handedBack n t = t := if_neg (by rw [ht, hphase]; simp)
    rw [hkept, ite_self]
  have hclear : clearHalt n .bulkIn s = enterStatus n (s.updPort n fun p => { p with haltIn := false, toggleIn := false, pendingIn := none }) := by
    simp only [clearHalt, hback _ (updPort_ctx ..)]
    exact if_pos (by rw [updPort_ctx]; exact ⟨hphase, hhalted⟩)
  rw [hclear, enterStatus_port, updPort_node_self, enterStatus_ctx (k := k) (by rw [updPort_ctx]; exact hk)]
  exact ⟨rfl, rfl⟩

/-! ## The class requests -/

section

variable (hs : (s.node n).port.state = .configured) (hr : v.recipient = .iface) (hi : v.index = 0) (hv : v.value = 0)

include hs hr hi hv

theorem decideBulkReset_answers (hlen : v.length = 0) : decideBulkReset n v s =
    answerRequest n v [] (clearContext n (s.updPort n fun p => { p with recovery := false, pendingIn := none })) :=
  if_pos ⟨decide_eq_true hs, hr, hi, hv, hlen⟩

theorem decideGetMaxLun_answers (hdir : v.dirIn = true) : decideGetMaxLun n v s = answerRequest n v [1] s :=
  if_pos ⟨decide_eq_true hs, hr, hi, hv, hdir⟩

end

/-- What a bulk reset leaves (R141, R151). -/
theorem bulkReset_node (n : Node) (s : State) :
    ((clearContext n (s.updPort n fun p => { p with recovery := false, pendingIn := none })).node n).port =
        { (s.node n).port with recovery := false, pendingIn := none, stagingBlocked := false } ∧
      ((clearContext n (s.updPort n fun p => { p with recovery := false, pendingIn := none })).node n).ctx =
        { Context.reset with fwdTicket := (s.node n).ctx.fwdTicket } := by
  rw [clearContext_port, clearContext_ctx, updPort_node_self]
  exact ⟨rfl, rfl⟩

theorem classRequests_stall (h : (s.node n).port.state ≠ .configured ∨ v.recipient ≠ .iface ∨ v.index ≠ 0 ∨ v.value ≠ 0) :
    decideBulkReset n v s = stallRequest n v s ∧ decideGetMaxLun n v s = stallRequest n v s := by
  have hfails : ¬(s.configured n = true ∧ v.recipient = .iface ∧ v.index = 0 ∧ v.value = 0) := by
    rintro ⟨hs, hr, hi, hv⟩
    exact h.elim (· (of_decide_eq_true hs)) (Or.rec (· hr) (Or.rec (· hi) (· hv)))
  exact ⟨if_neg fun ⟨hs, hr, hi, hv, _⟩ => hfails ⟨hs, hr, hi, hv⟩, if_neg fun ⟨hs, hr, hi, hv, _⟩ => hfails ⟨hs, hr, hi, hv⟩⟩

theorem decideBulkReset_long (h : v.length ≠ 0) : decideBulkReset n v s = stallRequest n v s := if_neg fun ⟨_, _, _, _, e⟩ => h e

theorem decideGetMaxLun_outward (h : v.dirIn = false) : decideGetMaxLun n v s = stallRequest n v s :=
  if_neg fun ⟨_, _, _, _, e⟩ => by rw [h] at e; cases e

/-- Settles O50, request by request. -/
theorem controlRequestsAreDecided : Obligations.ControlRequestsAreDecided := by
  unfold Obligations.ControlRequestsAreDecided
  intro s n u h p a base answered stalled ended named elsewhere
  have hrun (f : State → State) : live (onSetup n a f) s = .next (f base) :=
    (live_of_porst_eq_false h.1 _).trans (congrArg _ (onSetup_answering h f))
  have hport : (base.node n).port = { p with idleSince := s.timebase, pendingAddress := none, control := none, answer := .ack } :=
    onSetupTaken_port n s
  have hctx : (base.node n).ctx = (s.node n).ctx := onSetupTaken_ctx n s
  have hstate : (base.node n).port.state = p.state := by rw [hport]
  have hdesc : (base.node n).port.desc = p.desc := by rw [hport]
  have hlevel (i : Fin 52) : base.events.recs[i].level = s.events.recs[i].level := rfl
  refine ⟨fun v => hrun _, fun r => requestOf_setup r u, fun d hd => ⟨fun hv he => ?_, fun hv he => ?_, fun k hv => ?_, fun hv => ?_⟩,
    fun he hv => ?_, fun hbad => ?_, fun he hv hlen hs => ?_, fun hbad => ?_, fun he hv hlen hs => ?_, fun he hv hlen hs => ?_,
    fun he hv hlen hs => ?_, fun hbad => ?_, fun he hs => ?_, fun d hr hd => ?_, fun hr hi => ?_, fun hr hi hs => ?_, fun hr hi hs => ?_,
    fun hr hi hs => ?_, fun hbad => ?_, fun hbad => ⟨?_, ?_⟩, fun hn hi => ?_, fun hn hi => ?_, fun hn hi hrec => ?_,
    fun hn hi hrec hphase => ?_, fun hn hi hrec hphase hhalted hcommand => ?_, fun hs hr hi hv hlen => ?_, fun hbad => ⟨?_, ?_⟩,
    fun hlen => ?_, fun hdir => ?_, fun hs hr hi hv hdir => ?_⟩
  · exact (hrun _).trans (congrArg _ (decideGetDescriptor_some (descriptorFor_device (hdesc.trans hd) he hv)))
  · refine (hrun _).trans (congrArg _ ((decideGetDescriptor_some (descriptorFor_config (hdesc.trans hd) he hv)).trans ?_))
    rw [hport]
    rfl
  · refine (hrun _).trans (congrArg _ ?_)
    have hentry := descriptorFor_string (v := ControlRequest.getDescriptor.setup u) (hdesc.trans hd) hv
    by_cases habsent : d.strings[k] = []
    · rw [if_pos habsent] at hentry ⊢
      exact decideGetDescriptor_none hentry
    · rw [if_neg habsent] at hentry ⊢
      exact decideGetDescriptor_some hentry
  · exact (hrun _).trans (congrArg _ (decideGetDescriptor_none (descriptorFor_absent (hdesc.trans hd) hv)))
  · exact (hrun _).trans (congrArg _ (decideGetDescriptor_none (descriptorFor_elsewhere he hv)))
  · exact (hrun _).trans (congrArg _ (decideSetAddress_stalls (by rw [hstate]; exact hbad)))
  · exact (hrun _).trans (congrArg _ (decideSetAddress_answers he hv hlen (by rw [hstate]; exact hs)))
  · exact (hrun _).trans (congrArg _ (decideSetConfiguration_stalls (by rw [hstate]; exact hbad)))
  · obtain ⟨hport', hctx'⟩ := configure_node n base
    refine ⟨_, (hrun _).trans (congrArg _ (decideSetConfiguration_configures he hlen (by rw [hstate]; exact hs) hv)), ?_, ?_, fun hl => ?_⟩
    · rw [answerRequest, (setControl_node ..).1, hport']
    · rw [answerRequest, (setControl_node ..).2, hctx', hctx]
    · rw [answerRequest, setControl, updPort_events, configure_detail (s := base) (by rw [hlevel]; exact hl), hport]
  · obtain ⟨hport', hctx'⟩ := unconfigure_node n base
    refine ⟨_, (hrun _).trans (congrArg _ (decideSetConfiguration_unconfigures he hlen (by rw [hstate, hs]; decide) hv
      (by rw [hstate]; exact hs))), ?_, ?_⟩
    · rw [answerRequest, (setControl_node ..).1, hport']
    · rw [answerRequest, (setControl_node ..).2, hctx', hctx]
  · exact (hrun _).trans (congrArg _ (decideSetConfiguration_stays he hlen (by rw [hstate, hs]; decide) hv (by rw [hstate, hs]; decide)))
  · exact (hrun _).trans (congrArg _ (decideGetConfiguration_stalls (by rw [hstate]; exact hbad)))
  · refine (hrun _).trans (congrArg _ ((decideGetConfiguration_answers he (by rw [hstate]; exact hs)).trans ?_))
    rw [hport]
    rfl
  · exact (hrun _).trans (congrArg _ (decideGetStatus_some (statusFor_device hr (hdesc.trans hd))))
  · exact (hrun _).trans (congrArg _ (decideGetStatus_some (statusFor_zero hr hi)))
  · exact (hrun _).trans (congrArg _ (decideGetStatus_some ((statusFor_in hr hi (hstate.trans hs)).trans (by rw [hport]))))
  · exact (hrun _).trans (congrArg _ (decideGetStatus_some ((statusFor_out hr hi (hstate.trans hs)).trans (by rw [hport]))))
  · exact (hrun _).trans (congrArg _ (decideGetStatus_some (statusFor_interface hr hi (hstate.trans hs))))
  · exact (hrun _).trans (congrArg _ (decideGetStatus_none (statusFor_unserved (by rw [hstate]; exact hbad))))
  · exact (hrun _).trans (congrArg _ (decideSetFeature_none (featureTarget_none (by rw [hstate]; exact hbad))))
  · exact (hrun _).trans (congrArg _ (decideClearFeature_none (featureTarget_none (by rw [hstate]; exact hbad))))
  · exact (hrun _).trans (congrArg _ (decideSetFeature_some (featureTarget_in (by rw [hstate]; exact hn) hi)))
  · exact (hrun _).trans (congrArg _ (decideSetFeature_some (featureTarget_out (by rw [hstate]; exact hn) hi)))
  · have htarget : ∃ e, featureTarget base n (ControlRequest.clearFeature.setup u) = some e := hi.elim
      (fun hi => ⟨_, featureTarget_in (by rw [hstate]; exact hn) hi⟩) fun hi => ⟨_, featureTarget_out (by rw [hstate]; exact hn) hi⟩
    obtain ⟨e, he⟩ := htarget
    refine (hrun _).trans (congrArg _ ((decideClearFeature_some he).trans ?_))
    rw [if_pos (by rw [hport]; exact hrec)]
    rfl
  · refine (hrun _).trans (congrArg _ ((decideClearFeature_some (featureTarget_out (by rw [hstate]; exact hn) hi)).trans ?_))
    rw [if_neg (by rw [hport]; simp [hrec]), clearHalt_out (by rw [hctx]; exact hphase)]
    rfl
  · obtain ⟨hport', hphase'⟩ := clearHalt_in_node (s := base) (n := n) (by rw [hctx]; exact hphase) (by rw [hctx]; exact hhalted)
      (by rw [hctx]; exact hcommand)
    refine ⟨_, (hrun _).trans (congrArg _ ((decideClearFeature_some (featureTarget_in (by rw [hstate]; exact hn) hi)).trans
      (by rw [if_neg (by rw [hport]; simp [hrec])]))), ?_, ?_⟩
    · rw [answerRequest, (setControl_node ..).1, hport']
    · rw [answerRequest, (setControl_node ..).2, hphase']
  · obtain ⟨hport', hctx'⟩ := bulkReset_node n base
    refine ⟨_, (hrun _).trans (congrArg _ (decideBulkReset_answers (hstate.trans hs) hr hi hv hlen)), ?_, ?_⟩
    · rw [answerRequest, (setControl_node ..).1, hport']
    · rw [answerRequest, (setControl_node ..).2, hctx', hctx]
  · exact (hrun _).trans (congrArg _ (classRequests_stall (by rw [hstate]; exact hbad)).1)
  · exact (hrun _).trans (congrArg _ (classRequests_stall (by rw [hstate]; exact hbad)).2)
  · exact (hrun _).trans (congrArg _ (decideBulkReset_long hlen))
  · exact (hrun _).trans (congrArg _ (decideGetMaxLun_outward hdir))
  · exact (hrun _).trans (congrArg _ (decideGetMaxLun_answers (hstate.trans hs) hr hi hv hdir))

end Sys2Proof.Machine

/-! # Wrappers and their commands -/

namespace Sys2Proof.Machine

open Sys2Proof

variable {s : State} {n : Node} {k : Command} {op : Byte} {w : Wrapper}

/-! ## The command of a wrapper's bytes -/

/-- The command that a wrapper with an operation code becomes; `commandOf_wrapperBytes` says so. -/
def carried (w : Wrapper) (op : Byte) : Command :=
  { tag := w.tag, expected := w.expected.toNat, dirIn := w.flags.msb, lun := if w.lun = 1 then 1 else 0,
    block := (op :: w.rest.toList).take w.blockLen.toNat }

theorem toNat_lt_256_pow_four (x : Word32) : x.toNat < 256 ^ 4 := x.isLt

/-- The fixed part of a wrapper's bytes, behind its tag and its expected length. -/
theorem wrapperBytes_fields (w : Wrapper) (op : Byte) :
    (wrapperBytes w op).getD 12 0 = w.flags ∧ u8 (wrapperBytes w op) 13 = w.lun.toNat ∧ u8 (wrapperBytes w op) 14 = w.blockLen.toNat ∧
      (wrapperBytes w op).drop 15 = op :: w.rest.toList := ⟨rfl, rfl, rfl, rfl⟩

theorem wrapperBytes_length (w : Wrapper) (op : Byte) : (wrapperBytes w op).length = 31 := by
  simp [wrapperBytes, le]

theorem wrapperBytes_tag (w : Wrapper) (op : Byte) : w32 (wrapperBytes w op) 4 = w.tag := by
  have hfield := fieldAt_append_le (le 4 0x43425355) (le 4 w.expected.toNat ++ [w.flags, w.lun, w.blockLen, op] ++ w.rest.toList) 4
    w.tag.toNat (toNat_lt_256_pow_four _)
  have hbytes : wrapperBytes w op = le 4 0x43425355 ++ (le 4 w.tag.toNat ++
      (le 4 w.expected.toNat ++ [w.flags, w.lun, w.blockLen, op] ++ w.rest.toList)) := by
    simp only [wrapperBytes, List.append_assoc]
  have hword : BitVec.ofNat 32 w.tag.toNat = w.tag := by simp
  rw [w32, hbytes]
  exact (congrArg (BitVec.ofNat 32) hfield).trans hword

theorem wrapperBytes_expected (w : Wrapper) (op : Byte) : fieldAt (wrapperBytes w op) 8 4 = w.expected.toNat := by
  have hfield := fieldAt_append_le (le 4 0x43425355 ++ le 4 w.tag.toNat) ([w.flags, w.lun, w.blockLen, op] ++ w.rest.toList) 4
    w.expected.toNat (toNat_lt_256_pow_four _)
  have hbytes : wrapperBytes w op = le 4 0x43425355 ++ le 4 w.tag.toNat ++ (le 4 w.expected.toNat ++
      ([w.flags, w.lun, w.blockLen, op] ++ w.rest.toList)) := by
    simp only [wrapperBytes, List.append_assoc]
  rw [hbytes]
  exact hfield

/-- The bytes of a wrapper spell its command (R150, section 11.8). -/
theorem commandOf_wrapperBytes (w : Wrapper) (op : Byte) : commandOf (wrapperBytes w op) = carried w op := by
  obtain ⟨hflags, hlun, hlen, hblock⟩ := wrapperBytes_fields w op
  have hlun' : w.lun.toNat = 1 ↔ w.lun = 1 := ⟨fun e => BitVec.eq_of_toNat_eq e, fun e => by rw [e]; rfl⟩
  simp only [commandOf, wrapperBytes_tag, wrapperBytes_expected, hflags, wrapperLun, hlun, hlen, bytesAt, hblock, carried, hlun']

theorem blockLen_pos (hw : wrapperOk w op = true) : 0 < w.blockLen.toNat := by
  obtain ⟨-, -, hlen, -⟩ := wrapperBytes_fields w op
  simp only [wrapperOk, validWrapper, Bool.and_eq_true, decide_eq_true_eq, hlen] at hw
  obtain ⟨⟨-, hpos⟩, -⟩ := hw
  exact hpos

theorem blockLen_le (hw : wrapperOk w op = true) : w.blockLen.toNat ≤ 16 := by
  obtain ⟨-, -, hlen, -⟩ := wrapperBytes_fields w op
  simp only [wrapperOk, validWrapper, Bool.and_eq_true, decide_eq_true_eq, hlen] at hw
  obtain ⟨-, hle⟩ := hw
  exact hle

theorem block_length (hw : wrapperOk w op = true) : (carried w op).block.length = w.blockLen.toNat := by
  have := blockLen_le hw
  simp only [carried, List.length_take, List.length_cons, Vector.length_toList]
  omega

theorem command_op (hw : wrapperOk w op = true) : (carried w op).op = op := by
  obtain ⟨m, hm⟩ := Nat.exists_eq_add_of_lt (blockLen_pos hw)
  simp only [Command.op, carried, hm]
  rfl

/-- The bytes of a command's block behind its first are the wrapper's. -/
theorem block_getD {i : Nat} (hi : i + 1 < w.blockLen.toNat) : (carried w op).block.getD (i + 1) 0 = w.rest.toList.getD i 0 := by
  simp only [carried, List.getD_eq_getElem?_getD, List.getElem?_take, if_pos hi, List.getElem?_cons_succ]

theorem bytesAt_two {p : List Byte} {i : Nat} (h : i + 2 ≤ p.length) : bytesAt p i 2 = [p.getD i 0, p.getD (i + 1) 0] := by
  rw [bytesAt, List.drop_eq_getElem_cons (by omega), List.drop_eq_getElem_cons (by omega), List.getD_eq_getElem _ _ (by omega),
    List.getD_eq_getElem _ _ (by omega)]
  rfl

/-- The block of a command behind its operation code does not depend on it. -/
theorem command_lba (w : Wrapper) (op op' : Byte) : (carried w op).lba = (carried w op').lba ∧ (carried w op).blocks = (carried w op').blocks := by
  have hdrop (i : Nat) : (carried w op).block.drop (i + 1) = (carried w op').block.drop (i + 1) := by
    cases hb : w.blockLen.toNat <;> simp [carried, hb]
  exact ⟨congrArg (fun p => beNat (List.take 4 p)) (hdrop 1), congrArg (fun p => beNat (List.take 2 p)) (hdrop 6)⟩

/-! ## A wrapper is taken -/

/-- The context in which a command begins, with its drive's block size (R150, R152). -/
def State.begun (s : State) (n : Node) (k : Command) : Context :=
  { (s.node n).ctx.idle with command := some k, blockSize := (s.drive n k.lun).blockSize }

/-- The state in which a command begins. -/
def State.started (s : State) (n : Node) (k : Command) : State := (onBus n s).updCtx n fun _ => s.begun n k

/-- The state in which the port acknowledges the wrapper it has taken (R133). -/
def State.acknowledged (s : State) (n : Node) : State := s.updPort n fun q => { q with answer := .ack, toggleOut := !q.toggleOut }

section

variable {toggle : Bool} (h : TakesWrapper s n toggle)

include h

/-- A packet of a context that expects a command is handed to it whole (R133, R149). -/
theorem bulkOut_takes {data : List Byte} (hlen : data.length ≤ s.maxPacket n) :
    live (bulkOutOp n (s.node n).port.address toggle data) s = .next ((takeWrapper n data (onBus n s)).acknowledged n) := by
  obtain ⟨hans, hs, hhalt, hrecovery, htoggle, hphase⟩ := h
  have hport := onBus_port n s
  have htake : takeOut n data (onBus n s) = (true, takeWrapper n data (onBus n s)) := by
    simp only [takeOut, onBus_ctx, hphase]
  refine (live_of_porst_eq_false hans.1 _).trans (congrArg _ ((onPacket_answering hans _).trans ?_))
  rw [answerBulkOut_eq (by rw [hport]; exact hs) (by rw [onBus_maxPacket]; exact hlen) (by rw [hport]; exact hhalt)
    (by rw [hport]; exact hrecovery) (by rw [hport]; exact htoggle), htake, if_pos rfl, setAnswer, updPort_updPort]
  rfl

end

/-- The state in which a context has named its command, before it decides it (R150). -/
def State.named (s : State) (n : Node) (k : Command) : State := (onBus n s).updCtx n fun x => { x.idle with command := some k }

theorem named_drive (s : State) (n : Node) (k : Command) (u : Lun) : (s.named n k).drive n u = s.drive n u := by
  rw [State.named, State.drive, updCtx_drives]
  exact onBus_drive ..

theorem named_begins (s : State) (n : Node) (k : Command) :
    (s.named n k).updCtx n (fun x => { x with blockSize := ((s.named n k).drive n k.lun).blockSize }) = s.started n k := by
  rw [named_drive, State.named, updCtx_updCtx]
  refine updCtx_congr ?_
  rw [Function.comp, onBus_ctx, State.begun]

theorem takeWrapper_valid (hw : wrapperOk w op = true) :
    takeWrapper n (wrapperBytes w op) (onBus n s) = dispatch n (carried w op) (s.named n (carried w op)) := by
  have hvalid : validWrapper (wrapperBytes w op) = true := hw
  rw [takeWrapper, if_pos hvalid, commandOf_wrapperBytes]
  rfl

/-- The wrapper of a command of the table becomes that command (R150). -/
theorem exec_wrapper {toggle : Bool} (h : TakesWrapper s n toggle) (hw : wrapperOk w op = true) :
    exec (wrapperCommand n (s.node n).port.address toggle op w) s =
      .next ((dispatch n (carried w op) (s.named n (carried w op))).acknowledged n) := by
  have hrow : exec (wrapperCommand n (s.node n).port.address toggle op w) s =
      live (bulkOutOp n (s.node n).port.address toggle (wrapperBytes w op)) s := by
    unfold wrapperCommand
    split
    · rename_i e; rw [e]; rfl
    split
    · rename_i e; rw [e]; rfl
    split
    · rename_i e; rw [e]; rfl
    split
    · rename_i e; rw [e]; rfl
    split
    · rename_i e; rw [e]; rfl
    split
    · rename_i e; rw [e]; rfl
    · rfl
  have hsize : 31 ≤ s.maxPacket n := by
    rw [State.maxPacket, Port.maxPacket]
    split <;> omega
  rw [hrow, bulkOut_takes h (by rw [wrapperBytes_length]; exact hsize), takeWrapper_valid hw]

/-! ## The first decisions -/

theorem started_ctx (s : State) (n : Node) (k : Command) : ((s.started n k).node n).ctx = s.begun n k := by
  rw [State.started, updCtx_node_self]

theorem started_updCtx (s : State) (n : Node) (k : Command) (f : Context → Context) :
    (s.started n k).updCtx n f = (onBus n s).updCtx n fun _ => f (s.begun n k) := updCtx_updCtx ..

theorem started_drive (s : State) (n : Node) (k : Command) (u : Lun) : (s.started n k).drive n u = s.drive n u := by
  rw [State.started, State.drive, updCtx_drives]
  exact onBus_drive ..

/-- A block too short for an executed command is refused (R152). -/
theorem dispatch_short (hop : k.op ∈ executedOps) (hlen : k.block.length < requiredBlock k.op) :
    dispatch n k (s.named n k) = refuseAtStart n k senseInvalid (s.started n k) := by
  rw [← named_begins]
  exact if_pos ⟨hop, hlen⟩

section

variable (hlong : k.op ∈ executedOps → requiredBlock k.op ≤ k.block.length)

include hlong

/-- A command that needs a medium is refused without one (R152). -/
theorem dispatch_noMedium (hop : k.op ≠ 0x12 ∧ k.op ≠ 0x03) (himage : (s.drive n k.lun).image = none) :
    dispatch n k (s.named n k) = refuseAtStart n k senseNoMedium (s.started n k) := by
  rw [← named_begins, dispatch]
  rw [if_neg (fun e => by have := hlong e.1; omega), if_pos ⟨hop.1, hop.2, by rw [named_drive]; exact himage⟩]

/-- A change of medium is reported once (R152). -/
theorem dispatch_attention (hop : k.op ≠ 0x12 ∧ k.op ≠ 0x03) (himage : (s.drive n k.lun).image ≠ none)
    (hattention : (s.drive n k.lun).unitAttention = true) : dispatch n k (s.named n k) =
      refuseAtStart n k senseChanged ((s.started n k).updDrive n k.lun fun d => { d with unitAttention := false }) := by
  rw [← named_begins, dispatch]
  rw [if_neg (fun e => by have := hlong e.1; omega), if_neg (fun e => himage (by rw [← named_drive s n k]; exact e.2.2)),
    if_pos ⟨hop.1, hop.2, by rw [named_drive]; exact hattention⟩]

/-- A command with its medium, or one that needs none, is executed or forwarded (R152). -/
theorem dispatch_goes (hready : (k.op = 0x12 ∨ k.op = 0x03) ∨ (s.drive n k.lun).image ≠ none ∧ (s.drive n k.lun).unitAttention = false) :
    dispatch n k (s.named n k) =
      if k.op ∈ executedOps then decideTransfer n k (s.started n k) else startForward n k (s.started n k) := by
  rw [← named_begins, dispatch]
  rw [named_drive, if_neg (fun e => by have := hlong e.1; omega), if_neg, if_neg]
  · rintro ⟨h12, h03, hattention⟩
    rcases hready with e | ⟨-, e⟩
    · exact e.elim h12 h03
    · rw [e] at hattention
      cases hattention
  · rintro ⟨h12, h03, himage⟩
    rcases hready with e | ⟨e, -⟩
    · exact e.elim h12 h03
    · exact e himage

end

/-! ## Closed data phases -/

/-- A context whose data phase is closed at the start of its command (R153). -/
def Context.closed (x : Context) (k : Command) : Context :=
  if k.dirIn = true then { x with phase := .dataIn, mode := .zlp } else { x with phase := .dataOut, mode := .discard }

theorem closeAtStart_closed (h : 0 < k.expected) (n : Node) (s : State) : closeAtStart n k s = s.updCtx n (Context.closed · k) := by
  rw [closeAtStart, if_neg (by omega)]
  unfold Context.closed
  split <;> rfl

theorem refuseAtStart_closed (h : 0 < k.expected) (n : Node) (x : Sense) (s : State) :
    refuseAtStart n k x s = s.updCtx n fun c => { c with result := .failed x }.closed k := by
  rw [refuseAtStart, closeAtStart_closed h, updCtx_updCtx]
  rfl

/-! ## The transfer decisions -/

/-- A command with nothing to move closes its data phase (R155). -/
theorem decideTransfer_empty (hdn : deviceLength k (s.drive n k.lun) = 0) :
    decideTransfer n k s = closeAtStart n k (runEmpty n k (s.updCtx n fun x => { x with dn := 0 })) := by
  rw [decideTransfer]
  rw [if_pos hdn, hdn]

theorem decideTransfer_none (hdn : deviceLength k (s.drive n k.lun) ≠ 0) (he : k.expected = 0) : decideTransfer n k s =
    mediaError n .phase k.lun (enterStatus n (s.updCtx n fun x =>
      { x with dn := deviceLength k (s.drive n k.lun), result := .phaseError })) := by
  rw [decideTransfer]
  rw [if_neg hdn, if_pos he, updCtx_updCtx]
  rfl

theorem decideTransfer_halts (hdn : deviceLength k (s.drive n k.lun) ≠ 0) (he : 0 < k.expected)
    (hbad : opDirection k.op ≠ some k.dirIn ∨ k.expected < deviceLength k (s.drive n k.lun)) : decideTransfer n k s =
    mediaError n .phase k.lun (setHalt n k.endpoint true (s.updCtx n fun x =>
      { x with dn := deviceLength k (s.drive n k.lun), result := .phaseError, phase := .haltThenStatus, mode := .none,
               halted := some k.endpoint })) := by
  rw [decideTransfer]
  rw [if_neg hdn, if_neg (by omega), if_pos hbad, updCtx_updCtx]
  rfl

theorem decideTransfer_runs (hdn : deviceLength k (s.drive n k.lun) ≠ 0) (hdir : opDirection k.op = some k.dirIn)
    (he : deviceLength k (s.drive n k.lun) ≤ k.expected) :
    decideTransfer n k s = runExecuted n k (s.updCtx n fun x => { x with dn := deviceLength k (s.drive n k.lun) }) := by
  rw [decideTransfer]
  rw [if_neg hdn, if_neg (by omega), if_neg (by rw [hdir]; simp; omega)]

end Sys2Proof.Machine

/-! # The courses of commands -/

namespace Sys2Proof.Machine

open Sys2Proof

variable {s : State} {n : Node} {k : Command}

/-! ## Updates of a drive and its context -/

theorem updDrive_updDrive (s : State) (n : Node) (u : Lun) (f g : Drive → Drive) :
    (s.updDrive n u f).updDrive n u g = s.updDrive n u fun d => g (f d) := by
  simp [State.updDrive, State.updNode]

theorem updCtx_updCache (s : State) (n : Node) (f : Context → Context) (g : Cache → Cache) :
    (s.updCtx n f).updCache g = (s.updCache g).updCtx n f := rfl

theorem updCtx_drive (s : State) (n : Node) (f : Context → Context) (m : Node) (u : Lun) : (s.updCtx n f).drive m u = s.drive m u := by
  rw [State.drive, updCtx_drives, State.drive]

/-! ## Lines asked for -/

/-- A line that is held is hit: it is pinned and last in the order of use (R173, R174). -/
def State.hitLine (s : State) (n : Node) (u : Lun) (index : Nat) (l : Line) : State :=
  ((s.updDrive n u fun d => { d with hits := min 65535 (d.hits + 1) }).updCache fun c =>
    { c with lines := c.lines.eraseP (fun x => x.isFor n u (s.drive n u).generation index) ++ [{ l with pins := l.pins + 1 }] }).updCtx n
      fun x => { x with ask := some { index := index, generation := (s.drive n u).generation, state := .attached } }

section

variable {index : Nat} (hk : (s.node n).ctx.command = some k)

include hk

theorem askLine_hit {l : Line} (hl : s.findLine n k.lun (s.drive n k.lun).generation index = some l) : askLine n index s =
    if (s.node n).ctx.sequential = true ∧ index = (s.node n).ctx.lastLine then
      prefetchRun n k.lun s.cache.depth (index + 1) (s.hitLine n k.lun index l)
    else s.hitLine n k.lun index l := by
  rw [askLine, cmdLun_of_command hk]
  simp only [hl]
  rfl

/-- A read that is not sequential prefetches nothing (R174, R182). -/
theorem askLine_miss (hl : s.findLine n k.lun (s.drive n k.lun).generation index = none) (hseq : (s.node n).ctx.sequential = false) :
    askLine n index s = demandMiss n ((s.updDrive n k.lun fun d => { d with misses := min 65535 (d.misses + 1) }).updCtx n fun x =>
      { x with ask := some { index := index, generation := (s.drive n k.lun).generation, state := .waitingSlot } }) := by
  rw [askLine, cmdLun_of_command hk]
  simp only [hl, hseq, Bool.false_eq_true, false_and, if_false]

/-- A read attaches to the line that is created for it (R176). -/
theorem attachNew_attaches {a : Ask} (ha : (s.node n).ctx.ask = some a) (i : Fin 16) :
    Fetches (newLine s n k.lun a.index 1 i) i
      (s.updCtx n fun x => { x with ask := some { index := a.index, generation := (s.drive n k.lun).generation, state := .attached } })
      (attachNew n i s) := by
  have hindex : s.askIndex n = a.index := by rw [State.askIndex, ha]
  have hnew (f : Context → Context) : newLine (s.updCtx n f) n k.lun a.index 1 i = newLine s n k.lun a.index 1 i := by
    simp only [newLine, updCtx_drive]
  have hline := fetches_createLine n k.lun a.index 1 i (s.updCtx n fun x =>
    { x with ask := some { index := a.index, generation := (s.drive n k.lun).generation, state := .attached } })
  rw [hnew] at hline
  rw [attachNew, hindex, cmdLun_of_command hk]
  exact hline

end

/-- The state in which a slot and eight pages are the read's (R29, R176). -/
def State.slotHad (s : State) (n : Node) (i : Fin 16) : State :=
  (s.setSlotUse i (.reserved n)).updPool fun p => { p with free := p.free - 8 }

/-- A miss with a FREE slot and free pages creates its line at once (R29, R176). -/
theorem demandMiss_creates {i : Fin 16} (honline : s.link.online = .online) (hi : s.lowestFreeSlot = some i)
    (hwait : s.cache.slotWait = []) (hroom : s.cache.lines.length < s.cache.limit ∧ 8 ≤ s.pool.free) :
    demandMiss n s = attachNew n i (s.slotHad n i) := by
  have hgot : demandAlloc (s.setSlotUse i (.reserved n)) = .got (s.slotHad n i) := demandAlloc_of_free (s := s.setSlotUse i (.reserved n)) hroom
  have hallocate : allocateFor n i (s.setSlotUse i (.reserved n)) = attachNew n i (s.slotHad n i) := by rw [allocateFor, hgot]
  have hslots : (attachNew n i (s.slotHad n i)).cache.slotWait = [] := (attachNew_slotWait ..).trans hwait
  rw [demandMiss, if_neg (by rw [honline]; decide)]
  simp only [hi, hallocate, grantSlots_of_nil hslots]

/-! ## The course of each kind of command -/

theorem runExecuted_read (hop : k.op = 0x28) : runExecuted n k s = decideRead n k s := by
  rw [runExecuted, hop]
  rfl

theorem runExecuted_write (hop : k.op = 0x2A) : runExecuted n k s = decideWrite n k s := by
  rw [runExecuted, hop]
  rfl

theorem runExecuted_capacity (hop : k.op = 0x25) : runExecuted n k s = runReadCapacity n k s := by
  rw [runExecuted, hop]
  rfl

theorem runExecuted_sense (hop : k.op = 0x03) : runExecuted n k s = runRequestSense n k s := by
  rw [runExecuted, hop]
  rfl

theorem runExecuted_inquiry (hop : k.op = 0x12) : runExecuted n k s = runInquiry n k s := by
  rw [runExecuted, hop]
  rfl

/-- A write to lines that the cache does not hold leaves it as it is (R183). -/
theorem doomLines_none {p : Line → Bool} (h : ∀ l ∈ s.cache.lines, p l = false) : doomLines p s = s := by
  have hgone : (s.cache.lines.filter fun l => p l && decide (l.state = .valid)) = [] :=
    List.filter_eq_nil_iff.2 fun l hl => by rw [h l hl]; simp
  have hkept : (s.cache.lines.filter fun l => !(p l && decide (l.state = .valid))) = s.cache.lines :=
    List.filter_eq_self.2 fun l hl => by rw [h l hl]; rfl
  have hmap : (s.cache.lines.map fun l => if p l then l.doom else l) = s.cache.lines :=
    (List.map_congr_left fun l hl => if_neg (by rw [h l hl]; decide)).trans (List.map_id _)
  simp only [doomLines, hgone, List.isEmpty_nil, if_true, State.updCache, hkept, hmap]

/-- The link admits a first offer of a media notice (R9, R10). -/
theorem offerMedia_admitted (honline : s.link.online = .online) (hheld : s.link.held = false) (hwait : s.link.waiting = [])
    (hqueue : s.link.queue.length ≤ 28) (o : MediaOwner) : offerMedia o s = sendMedia o s := by
  have hroom : s.admits Config.mediaRoom = true := by
    have hfree : 4 ≤ s.freeEntries := by rw [State.freeEntries, Config.queueEntries]; omega
    simp only [State.admits, honline, hheld, Config.mediaRoom, hfree, decide_true, Bool.not_false, Bool.and_self]
  rw [offerMedia, if_pos]
  simp [hwait, hroom]

theorem updCtx_enqueueNotice (s : State) (n : Node) (f : Context → Context) (kind : Byte) (payload : List Byte) :
    (s.updCtx n f).enqueueNotice kind payload = (s.enqueueNotice kind payload).updCtx n f := rfl

/-- The state in which a forward has its ticket and its start time (R165). -/
def State.forwarding (s : State) (n : Node) : State :=
  s.updCtx n fun x =>
    { x with phase := .awaitHost, mode := .none, fwdTicket := x.fwdTicket + 1, fwdStart := s.timebase, fwdTimeout := s.cache.timeout,
             fwdState := .offered }

theorem beginForward_offers (honline : s.link.online = .online) : beginForward n s = offerMedia (.forward n) (s.forwarding n) :=
  if_neg (by rw [honline]; decide)

/-- A forward whose command is at hand is offered, and sent where the link admits it (R165). -/
theorem beginForward_sends (hk : (s.node n).ctx.command = some k) (honline : s.link.online = .online) (hheld : s.link.held = false)
    (hwait : s.link.waiting = []) (hqueue : s.link.queue.length ≤ 28) : beginForward n s =
      (s.enqueueNotice 0xE4 (fwdCmd n ((s.node n).ctx.fwdTicket + 1) k (s.node n).ctx.fwdBuffer)).updCtx n fun x =>
        { x with phase := .awaitHost, mode := .none, fwdTicket := x.fwdTicket + 1, fwdStart := s.timebase, fwdTimeout := s.cache.timeout,
                 fwdState := .sent } := by
  rw [beginForward_offers honline, offerMedia_admitted (s := s.forwarding n) honline hheld hwait hqueue]
  simp only [sendMedia, State.forwarding, updCtx_node_self, hk]
  rw [updCtx_enqueueNotice, updCtx_updCtx]
  rfl

end Sys2Proof.Machine

/-! # What wrappers come to -/

namespace Sys2Proof.Machine

open Sys2Proof

variable {s : State} {n : Node} {k : Command}

/-! ## The length of the data -/

theorem deviceLength_ready (d : Drive) (hop : k.op = 0x00) : deviceLength k d = 0 := by rw [deviceLength, hop]; rfl

theorem deviceLength_sense (d : Drive) (hop : k.op = 0x03) : deviceLength k d = min 18 (u8 k.block 4) := by rw [deviceLength, hop]; rfl

theorem deviceLength_inquiry (d : Drive) (hop : k.op = 0x12) : deviceLength k d = min 36 (beNat (bytesAt k.block 3 2)) := by
  rw [deviceLength, hop]; rfl

theorem deviceLength_capacity (d : Drive) (hop : k.op = 0x25) : deviceLength k d = 8 := by rw [deviceLength, hop]; rfl

theorem blockSize_image {d : Drive} {i : Image} (h : d.image = some i) : d.blockSize = i.block := by simp only [Drive.blockSize, h]

theorem capacity_image {d : Drive} {i : Image} (h : d.image = some i) : d.capacity = i.size / i.block := by simp only [Drive.capacity, h]

theorem deviceLength_blocks {d : Drive} {i : Image} (h : d.image = some i) (hop : k.op = 0x28 ∨ k.op = 0x2A) :
    deviceLength k d = k.blocks * i.block := by
  rw [deviceLength, blockSize_image h]
  rcases hop with hop | hop <;> (rw [hop]; rfl)

/-! ## Commands that are executed -/

/-- The state in which the length of an executed command's data is known (R155). -/
def State.sized (s : State) (n : Node) (k : Command) : State :=
  (onBus n s).updCtx n fun _ => { s.begun n k with dn := deviceLength k (s.drive n k.lun) }

theorem sized_updCtx (s : State) (n : Node) (k : Command) (f : Context → Context) : (s.sized n k).updCtx n f =
    (onBus n s).updCtx n fun _ => f { s.begun n k with dn := deviceLength k (s.drive n k.lun) } := updCtx_updCtx ..

theorem sized_drive (s : State) (n : Node) (k : Command) (u : Lun) : (s.sized n k).drive n u = s.drive n u :=
  (updCtx_drive ..).trans (onBus_drive ..)

section

variable (hexec : k.op ∈ executedOps) (hlong : requiredBlock k.op ≤ k.block.length)
  (hready : (k.op = 0x12 ∨ k.op = 0x03) ∨ (s.drive n k.lun).image ≠ none ∧ (s.drive n k.lun).unitAttention = false)

include hexec hlong hready

theorem dispatch_executed : dispatch n k (s.named n k) = decideTransfer n k (s.started n k) :=
  (dispatch_goes (fun _ => hlong) hready).trans (if_pos hexec)

/-- A command whose direction and length fit runs (R155, R157). -/
theorem dispatch_runs (hdn : deviceLength k (s.drive n k.lun) ≠ 0) (hdir : opDirection k.op = some k.dirIn)
    (he : deviceLength k (s.drive n k.lun) ≤ k.expected) : dispatch n k (s.named n k) = runExecuted n k (s.sized n k) := by
  rw [dispatch_executed hexec hlong hready, decideTransfer_runs (by rw [started_drive]; exact hdn) hdir (by rw [started_drive]; exact he),
    started_drive, started_updCtx]
  rfl

end

/-- A command that runs with bytes composed for it (R157, R163). -/
theorem runComposed_sized (data : List Byte) (s : State) (n : Node) (k : Command) : runComposed n data (s.sized n k) =
    (onBus n s).updCtx n fun _ => { s.begun n k with
      dn := deviceLength k (s.drive n k.lun), phase := .dataIn, mode := .composed, composed := data } := sized_updCtx ..

theorem runRequestSense_sized (s : State) (n : Node) (k : Command) : runRequestSense n k (s.sized n k) =
    ((onBus n s).updDrive n k.lun fun d => { d with sense := none }).updCtx n fun _ => { s.begun n k with
      dn := deviceLength k (s.drive n k.lun), phase := .dataIn, mode := .composed,
      composed := (senseBytes (s.drive n k.lun).sense).take (deviceLength k (s.drive n k.lun)) } := by
  rw [runRequestSense, sized_drive, runComposed, State.sized, updCtx_updDrive, updCtx_updCtx]
  rfl

theorem runInquiry_sized {ds : DescSet} (hd : (s.node n).port.desc = some ds) : runInquiry n k (s.sized n k) =
    (onBus n s).updCtx n fun _ => { s.begun n k with
      dn := deviceLength k (s.drive n k.lun), phase := .dataIn, mode := .composed,
      composed := ds.inquiry[k.lun].take (deviceLength k (s.drive n k.lun)) } := by
  have hrecord : inquiryRecord (s.sized n k) n k.lun = ds.inquiry[k.lun] := by
    have hdesc : ((s.sized n k).node n).port.desc = some ds := by rw [State.sized, updCtx_port, onBus_port]; exact hd
    simp only [inquiryRecord, hdesc]
  rw [runInquiry, sized_drive, hrecord, runComposed_sized]

theorem runReadCapacity_sized {i : Image} (hi : (s.drive n k.lun).image = some i) : runReadCapacity n k (s.sized n k) =
    (onBus n s).updCtx n fun _ => { s.begun n k with
      dn := deviceLength k (s.drive n k.lun), phase := .dataIn, mode := .composed,
      composed := be 4 (i.size / i.block - 1) ++ be 4 i.block } := by
  rw [runReadCapacity, sized_drive, runComposed_sized, capacityBytes, capacity_image hi, blockSize_image hi]

theorem refused_sized (h : 0 < k.expected) (x : Sense) (s : State) (n : Node) : refuseAtStart n k x (s.sized n k) =
    (onBus n s).updCtx n fun _ => { s.begun n k with dn := deviceLength k (s.drive n k.lun), result := .failed x }.closed k := by
  rw [refuseAtStart_closed h, sized_updCtx]

/-- A TEST_UNIT_READY with no data phase gives its status at once (R155, R162). -/
theorem closeAtStart_started (hop : k.op = 0x00) (he : k.expected = 0) (s : State) (n : Node) : closeAtStart n k (s.started n k) =
    ((onBus n s).updDrive n k.lun fun d => { d with sense := none }).updCtx n fun _ => { s.begun n k with
      phase := .status, statusBytes := statusWrapper k.tag 0 0 } := by
  have hcommand : ((s.started n k).node n).ctx.command = some k := by rw [started_ctx]; rfl
  have hdrive : (fun d : Drive => d.afterStatus k.op ((s.started n k).node n).ctx.blockSize ((s.started n k).node n).ctx.moved
      ((s.started n k).node n).ctx.result) = fun d => { d with sense := none } := by
    rw [started_ctx, hop]
    rfl
  rw [closeAtStart, if_pos he, enterStatus_of_command hcommand, hdrive, State.started, updCtx_updDrive, updCtx_updCtx]
  refine updCtx_congr ?_
  simp only [Function.comp, he]
  rfl

/-! ## READ(10) and WRITE(10) -/

section

variable {i : Image} (hi : (s.drive n k.lun).image = some i)

include hi

theorem outOfRange_iff : outOfRange k (s.drive n k.lun) = true ↔ i.size / i.block < k.lba + k.blocks := by
  rw [outOfRange, decide_eq_true_eq, capacity_image hi]

/-- A READ(10) past the end is refused (R157). -/
theorem decideRead_pastEnd (hop : k.op = 0x28) (he : 0 < k.expected) (hend : i.size / i.block < k.lba + k.blocks) :
    decideRead n k (s.sized n k) = (onBus n s).updCtx n fun _ =>
      { s.begun n k with dn := k.blocks * i.block, result := .failed senseRange }.closed k := by
  rw [decideRead, sized_drive, if_pos ((outOfRange_iff hi).2 hend), refused_sized he, deviceLength_blocks hi (.inl hop)]

theorem decideRead_runs (hend : k.lba + k.blocks ≤ i.size / i.block) : decideRead n k (s.sized n k) = runRead n k (s.sized n k) := by
  rw [decideRead, sized_drive, if_neg (fun e => by have := (outOfRange_iff hi).1 e; omega)]

theorem decideWrite_protected (hop : k.op = 0x2A) (he : 0 < k.expected) (hend : k.lba + k.blocks ≤ i.size / i.block) (hw : i.writable = false) :
    decideWrite n k (s.sized n k) = (onBus n s).updCtx n fun _ =>
      { s.begun n k with dn := k.blocks * i.block, result := .failed senseProtected }.closed k := by
  rw [decideWrite, sized_drive, if_neg (fun e => by have := (outOfRange_iff hi).1 e; omega), hi, if_pos (by simp [hw]), refused_sized he,
    deviceLength_blocks hi (.inr hop)]

/-- A WRITE(10) that overlaps no line enters DATA_OUT (R157, R183). -/
theorem decideWrite_runs (hop : k.op = 0x2A) (hend : k.lba + k.blocks ≤ i.size / i.block) (hw : i.writable = true) (honline : s.link.online = .online)
    (hlines : ∀ l ∈ s.cache.lines, ¬(l.node = n ∧ l.lun = k.lun)) :
    decideWrite n k (s.sized n k) = (onBus n s).updCtx n fun _ => { s.begun n k with
      dn := k.blocks * i.block, phase := .dataOut, mode := .write, running := true, startByte := k.lba * i.block } := by
  have honline' : (s.sized n k).link.online = .online := honline
  rw [decideWrite, sized_drive, if_neg (fun e => by have := (outOfRange_iff hi).1 e; omega), hi, if_neg (by simp [hw]),
    if_neg (by rw [honline']; decide), runWrite, sized_drive, blockSize_image hi, sized_updCtx, deviceLength_blocks hi (.inr hop)]
  refine doomLines_none fun l hl => ?_
  have hother : l.ofDrive n k.lun = false := by
    rw [Line.ofDrive, Bool.and_eq_false_iff]
    rcases not_and_or.1 (hlines l hl) with e | e
    · exact .inl (beq_eq_false_iff_ne.2 e)
    · exact .inr (beq_eq_false_iff_ne.2 e)
  rw [hother, Bool.false_and, Bool.false_and, Bool.false_and]

end

/-- The place of a read's first and last line (R157, R174). -/
def Command.firstLine (k : Command) (i : Image) : Nat := k.lba * i.block / 4096

def Command.lastLine (k : Command) (i : Image) : Nat := (k.lba * i.block + k.blocks * i.block - 1) / 4096

/-- Whether a read goes on where the one before it on its drive ended (R182). -/
def Drive.continues (d : Drive) (first : Nat) : Bool := decide (d.lastRead = some first ∨ d.lastRead.map (· + 1) = some first)

/-- The state in which a read asks for its first line (R157, R174). -/
def State.reading (s : State) (n : Node) (k : Command) (i : Image) : State :=
  ((onBus n s).updDrive n k.lun fun d => { d with lastRead := some (k.lastLine i) }).updCtx n fun _ => { s.begun n k with
    dn := k.blocks * i.block, phase := .dataIn, mode := .read, running := true, startByte := k.lba * i.block,
    lastLine := k.lastLine i, sequential := (s.drive n k.lun).continues (k.firstLine i) }

section

variable {i : Image} (hi : (s.drive n k.lun).image = some i) (hop : k.op = 0x28)

include hi hop

theorem runRead_asks : runRead n k (s.sized n k) = askLine n (k.firstLine i) (s.reading n k i) := by
  have hseq : (match (s.drive n k.lun).lastRead with
      | none => false
      | some r => decide (k.firstLine i = r ∨ k.firstLine i = r + 1)) = (s.drive n k.lun).continues (k.firstLine i) := by
    rw [Drive.continues]
    cases (s.drive n k.lun).lastRead <;> simp [eq_comm]
  rw [runRead]
  simp only [sized_drive, blockSize_image hi, deviceLength_blocks hi (.inl hop)]
  rw [State.sized, updCtx_updDrive, updCtx_updCtx, deviceLength_blocks hi (.inl hop), State.reading, ← hseq]
  rfl

end

/-! ## The first line of a read -/

theorem reading_command (s : State) (n : Node) (k : Command) (i : Image) : ((s.reading n k i).node n).ctx.command = some k := by
  rw [State.reading, updCtx_node_self]
  rfl

theorem reading_drive (s : State) (n : Node) (k : Command) (i : Image) :
    (s.reading n k i).drive n k.lun = { s.drive n k.lun with lastRead := some (k.lastLine i) } := by
  rw [State.reading, updCtx_drive, updDrive_drive_self, onBus_drive]

theorem reading_sequential (s : State) (n : Node) (k : Command) (i : Image) :
    ((s.reading n k i).node n).ctx.sequential = (s.drive n k.lun).continues (k.firstLine i) ∧
      ((s.reading n k i).node n).ctx.lastLine = k.lastLine i := by
  rw [State.reading, updCtx_node_self]
  exact ⟨rfl, rfl⟩

/-- The state of a read whose first line is held (R173, R174). -/
def State.readHit (s : State) (n : Node) (k : Command) (i : Image) (l : Line) : State :=
  (((onBus n s).updDrive n k.lun fun d => { d with hits := min 65535 (d.hits + 1), lastRead := some (k.lastLine i) }).updCache fun q =>
    { q with lines := q.lines.eraseP (fun x => x.isFor n k.lun (s.drive n k.lun).generation (k.firstLine i)) ++
      [{ l with pins := l.pins + 1 }] }).updCtx n fun _ => { s.begun n k with
    dn := k.blocks * i.block, phase := .dataIn, mode := .read, running := true, startByte := k.lba * i.block,
    lastLine := k.lastLine i, sequential := (s.drive n k.lun).continues (k.firstLine i),
    ask := some { index := k.firstLine i, generation := (s.drive n k.lun).generation, state := .attached } }

theorem reading_hitLine (s : State) (n : Node) (k : Command) (i : Image) (l : Line) :
    (s.reading n k i).hitLine n k.lun (k.firstLine i) l = s.readHit n k i l := by
  rw [State.hitLine, reading_drive, State.reading, updCtx_updDrive, updDrive_updDrive, updCtx_updCache, updCtx_updCtx]
  rfl

/-- A read whose first line is held hits it, and may prefetch (R173, R174, R182). -/
theorem reading_hits {l : Line} {i : Image} (hl : s.findLine n k.lun (s.drive n k.lun).generation (k.firstLine i) = some l) :
    askLine n (k.firstLine i) (s.reading n k i) =
      if (s.drive n k.lun).continues (k.firstLine i) = true ∧ k.firstLine i = k.lastLine i then
        prefetchRun n k.lun s.cache.depth (k.firstLine i + 1) (s.readHit n k i l)
      else s.readHit n k i l := by
  obtain ⟨hseq, hlast⟩ := reading_sequential s n k i
  have hfound : (s.reading n k i).findLine n k.lun ((s.reading n k i).drive n k.lun).generation (k.firstLine i) = some l := by
    rw [reading_drive]
    exact hl
  rw [askLine_hit (reading_command ..) hfound, hseq, hlast, reading_hitLine]
  rfl

theorem lowestFreeSlot_of_cache {t : State} (h : t.cache = s.cache) : t.lowestFreeSlot = s.lowestFreeSlot := by
  rw [State.lowestFreeSlot, h, State.lowestFreeSlot]

/-- The state of a read that has missed its first line (R174). -/
def State.missed (s : State) (n : Node) (k : Command) (i : Image) : State :=
  ((s.reading n k i).updDrive n k.lun fun d => { d with misses := min 65535 (d.misses + 1) }).updCtx n fun x =>
    { x with ask := some { index := k.firstLine i, generation := (s.drive n k.lun).generation, state := .waitingSlot } }

theorem missed_blocks (s : State) (n : Node) (k : Command) (i : Image) :
    (s.missed n k i).cache = s.cache ∧ (s.missed n k i).pool = s.pool ∧ (s.missed n k i).link = s.link := by
  simp only [State.missed, State.reading, onBus, updCtx_cache, updDrive_cache, updPort_cache, updCtx_pool, updDrive_pool, updPort_pool,
    updCtx_link, updDrive_link, updPort_link, and_self]

theorem reading_misses {i : Image} {slot : Fin 16} (hl : s.findLine n k.lun (s.drive n k.lun).generation (k.firstLine i) = none)
    (hseq : (s.drive n k.lun).continues (k.firstLine i) = false) (honline : s.link.online = .online) (hslot : s.lowestFreeSlot = some slot)
    (hwait : s.cache.slotWait = []) (hroom : s.cache.lines.length < s.cache.limit ∧ 8 ≤ s.pool.free) :
    askLine n (k.firstLine i) (s.reading n k i) = attachNew n slot ((s.missed n k i).slotHad n slot) := by
  have hfound : (s.reading n k i).findLine n k.lun ((s.reading n k i).drive n k.lun).generation (k.firstLine i) = none := by
    rw [reading_drive]
    exact hl
  rw [askLine_miss (reading_command ..) hfound ((reading_sequential ..).1.trans hseq), reading_drive]
  obtain ⟨hcache, hpool, hlink⟩ := missed_blocks s n k i
  have hslot' : (s.missed n k i).lowestFreeSlot = some slot := (lowestFreeSlot_of_cache hcache).trans hslot
  exact demandMiss_creates (s := s.missed n k i) (by rw [hlink]; exact honline) hslot' (by rw [hcache]; exact hwait)
    (by rw [hcache, hpool]; exact hroom)

/-- What the miss leaves of the drive, the context and the port (R173, R174). -/
theorem missed_node (s : State) (n : Node) (k : Command) (i : Image) :
    ((s.missed n k i).node n).port = ((onBus n s).node n).port ∧
      (s.missed n k i).drive n k.lun = { s.drive n k.lun with
        misses := min 65535 ((s.drive n k.lun).misses + 1), lastRead := some (k.lastLine i) } ∧
      ((s.missed n k i).node n).ctx = { s.begun n k with
        dn := k.blocks * i.block, phase := .dataIn, mode := .read, running := true, startByte := k.lba * i.block,
        lastLine := k.lastLine i, sequential := (s.drive n k.lun).continues (k.firstLine i),
        ask := some { index := k.firstLine i, generation := (s.drive n k.lun).generation, state := .waitingSlot } } := by
  rw [State.missed]
  refine ⟨?_, ?_, ?_⟩
  · rw [updCtx_port, updDrive_port, State.reading, updCtx_port, updDrive_port]
  · rw [updCtx_drive, updDrive_drive_self, reading_drive]
  · rw [updCtx_node_self, updDrive_ctx, State.reading, updCtx_node_self]

theorem slotHad_node (s : State) (n : Node) (i : Fin 16) (m : Node) : (s.slotHad n i).node m = s.node m := rfl

theorem slotHad_drive (s : State) (n : Node) (i : Fin 16) (m : Node) (u : Lun) : (s.slotHad n i).drive m u = s.drive m u := rfl

theorem slotHad_blocks (s : State) (n : Node) (i : Fin 16) : (s.slotHad n i).cache.lines = s.cache.lines ∧
    (s.slotHad n i).cache.slots[i].ticket = s.cache.slots[i].ticket ∧ (s.slotHad n i).pool.free = s.pool.free - 8 := by
  have hslot := congrArg FetchSlot.ticket (slot_updSlot s i fun x => { x with use := .reserved n })
  exact ⟨rfl, hslot, rfl⟩

/-- What a read leaves that has created its first line (R173 to R176). -/
theorem miss_fetches (s : State) (n : Node) (k : Command) (i : Image) (slot : Fin 16) :
    ((attachNew n slot ((s.missed n k i).slotHad n slot)).node n).port = ((onBus n s).node n).port ∧
      ((attachNew n slot ((s.missed n k i).slotHad n slot)).node n).ctx = { s.begun n k with
        dn := k.blocks * i.block, phase := .dataIn, mode := .read, running := true, startByte := k.lba * i.block,
        lastLine := k.lastLine i, sequential := (s.drive n k.lun).continues (k.firstLine i),
        ask := some { index := k.firstLine i, generation := (s.drive n k.lun).generation, state := .attached } } ∧
      (attachNew n slot ((s.missed n k i).slotHad n slot)).drive n k.lun = { s.drive n k.lun with
        misses := min 65535 ((s.drive n k.lun).misses + 1), lastRead := some (k.lastLine i) } ∧
      (attachNew n slot ((s.missed n k i).slotHad n slot)).cache.lines = s.cache.lines ++
        [{ node := n, lun := k.lun, generation := (s.drive n k.lun).generation, index := k.firstLine i, state := .fetching slot,
           chunks := Vector.replicate 8 none, pins := 1 }] ∧
      (attachNew n slot ((s.missed n k i).slotHad n slot)).cache.slots[slot].ticket = s.cache.slots[slot].ticket + 1 ∧
      (attachNew n slot ((s.missed n k i).slotHad n slot)).pool.free = s.pool.free - 8 := by
  obtain ⟨hport, hdrive, hctx⟩ := missed_node s n k i
  obtain ⟨hcache, hpool, -⟩ := missed_blocks s n k i
  obtain ⟨hlines, hticket, hfree⟩ := slotHad_blocks (s.missed n k i) n slot
  have hnew := attachNew_attaches (s := (s.missed n k i).slotHad n slot) (k := k) (n := n) (by rw [slotHad_node, hctx]; rfl)
    (by rw [slotHad_node, hctx]) slot
  have hnode := hnew.node n
  refine ⟨?_, ?_, ?_, ?_, ?_, ?_⟩
  · rw [hnode, updCtx_port, slotHad_node, hport]
  · rw [hnode, updCtx_node_self, slotHad_node, hctx, slotHad_drive, hdrive]
  · rw [State.drive, hnode, updCtx_drives, slotHad_node, ← State.drive, hdrive]
  · rw [hnew.lines, updCtx_cache, hlines, hcache, newLine, slotHad_drive, hdrive]
  · rw [hnew.ticket, updCtx_cache, hticket, hcache]
  · rw [hnew.pool, updCtx_pool, hfree, hpool]

theorem acknowledged_port (s : State) (n : Node) :
    ((s.acknowledged n).node n).port = { (s.node n).port with answer := .ack, toggleOut := !(s.node n).port.toggleOut } := by
  rw [State.acknowledged, updPort_node_self]

theorem acknowledged_ctx (s : State) (n : Node) : ((s.acknowledged n).node n).ctx = (s.node n).ctx := updPort_ctx ..

theorem acknowledged_drive (s : State) (n m : Node) (u : Lun) : (s.acknowledged n).drive m u = s.drive m u := by
  rw [State.acknowledged, State.drive, updPort_drives, State.drive]

end Sys2Proof.Machine

/-! # The wrappers of the table -/

namespace Sys2Proof.Machine

open Sys2Proof

variable {s : State} {n : Node} {op : Byte} {w : Wrapper} {toggle : Bool}

/-- A packet that is no wrapper halts both endpoints and sets the recovery flag (R150). -/
theorem takeWrapper_invalid {data : List Byte} (hdata : validWrapper data = false) (t : State) : takeWrapper n data t =
    latch (.node n .mediaError) (1 + 256 * (if (data.getD 13 0) = 1 then 1 else 0))
      ((t.updPort n fun q => { q with haltIn := true, haltOut := true, recovery := true }).updCtx n fun x =>
        { Context.reset with fwdTicket := x.fwdTicket, filling := x.filling, phase := .recovery }) := by
  have hlun : ((wrapperLun data : Lun) : Nat) = if data.getD 13 0 = 1 then 1 else 0 := by
    have hone : u8 data 13 = 1 ↔ data.getD 13 0 = 1 := ⟨fun e => BitVec.eq_of_toNat_eq e, fun e => by rw [u8, e]; rfl⟩
    rw [wrapperLun]
    by_cases e : data.getD 13 0 = 1
    · rw [if_pos (hone.2 e), if_pos e]
      rfl
    · rw [if_neg (fun e' => e (hone.1 e')), if_neg e]
      rfl
  rw [takeWrapper, if_neg (by rw [hdata]; decide), mediaError, hlun]
  rfl

theorem exec_invalidWrapper (h : TakesWrapper s n toggle) {data : List Byte} (hlen : data.length ≤ s.maxPacket n) :
    exec (.invalidWrapper n (s.node n).port.address toggle data) s = .next ((takeWrapper n data (onBus n s)).acknowledged n) := by
  exact bulkOut_takes h hlen

theorem requiredBlock_le (op : Byte) : requiredBlock op ≤ 10 := by
  unfold requiredBlock
  split <;> omega

theorem allocation_byte (hlen : 6 ≤ w.blockLen.toNat) : u8 (carried w op).block 4 = (w.rest.toList.getD 3 0).toNat :=
  congrArg BitVec.toNat (block_getD (i := 3) (by omega))

/-! ## The blocks of executed commands -/

section

variable (hw : wrapperOk w op = true)

include hw

theorem block_long {m : Nat} (hlen : m ≤ w.blockLen.toNat) (hreq : requiredBlock op ≤ m) :
    requiredBlock (carried w op).op ≤ (carried w op).block.length := by
  rw [command_op hw, block_length hw]
  omega

theorem allocation_field (hlen : 6 ≤ w.blockLen.toNat) : beNat (bytesAt (carried w op).block 3 2) =
    256 * (w.rest.toList.getD 2 0).toNat + (w.rest.toList.getD 3 0).toNat := by
  rw [bytesAt_two (by rw [block_length hw]; omega), block_getD (i := 2) (by omega), block_getD (i := 3) (by omega)]
  simp only [beNat, leNat, List.reverse_cons, List.reverse_nil, List.nil_append, List.singleton_append]
  omega

end

/-! ## The kinds of commands -/

theorem statusWrapper_clean (tag : Word32) : statusWrapper tag 0 0 = le 4 0x53425355 ++ le 4 tag.toNat ++ [0, 0, 0, 0, 0] := by
  rw [statusWrapper, List.append_assoc]
  rfl

theorem wrapperCommand_forwarded (hop : op ∉ executedOps) (addr : BitVec 7) :
    wrapperCommand n addr toggle op w = .forwardedCommand n addr toggle op w := by
  simp only [executedOps, List.mem_cons, List.not_mem_nil, or_false, not_or] at hop
  obtain ⟨h0, h1, h2, h3, h4, h5⟩ := hop
  simp only [wrapperCommand, h0, h1, h2, h3, h4, h5, if_false]

/-- A drive with a medium whose change has been reported is ready (R152). -/
abbrev ReadyDrive (s : State) (n : Node) (u : Lun) (i : Image) : Prop :=
  (s.drive n u).image = some i ∧ (s.drive n u).unitAttention = false

section

variable {k : Command}

/-- TEST_UNIT_READY has nothing to move (R155, R163). -/
theorem dispatch_testUnitReady (hop : k.op = 0x00) (hlong : requiredBlock k.op ≤ k.block.length)
    (hready : (s.drive n k.lun).image ≠ none ∧ (s.drive n k.lun).unitAttention = false) :
    dispatch n k (s.named n k) = closeAtStart n k (s.started n k) := by
  have hempty (t : State) : runEmpty n k t = t := if_neg (by rw [hop]; decide)
  rw [dispatch_executed (by rw [hop]; decide) hlong (.inr hready), decideTransfer_empty (deviceLength_ready _ hop), hempty, started_updCtx]
  rfl

theorem dispatch_requestSense (hop : k.op = 0x03) (hlong : requiredBlock k.op ≤ k.block.length) (hdir : k.dirIn = true) {m : Nat}
    (hm : min 18 (u8 k.block 4) = m) (hpos : 0 < m) (he : m ≤ k.expected) : dispatch n k (s.named n k) =
      ((onBus n s).updDrive n k.lun fun d => { d with sense := none }).updCtx n fun _ =>
        { s.begun n k with dn := m, phase := .dataIn, mode := .composed, composed := (senseBytes (s.drive n k.lun).sense).take m } := by
  have hdn : deviceLength k (s.drive n k.lun) = m := (deviceLength_sense _ hop).trans hm
  rw [dispatch_runs (by rw [hop]; decide) hlong (.inl (.inr hop)) (by omega) (by rw [hop, hdir]; rfl) (by omega), runExecuted_sense hop,
    runRequestSense_sized, hdn]

theorem dispatch_inquiry (hop : k.op = 0x12) (hlong : requiredBlock k.op ≤ k.block.length) (hdir : k.dirIn = true) {ds : DescSet}
    (hds : (s.node n).port.desc = some ds) {m : Nat} (hm : min 36 (beNat (bytesAt k.block 3 2)) = m) (hpos : 0 < m) (he : m ≤ k.expected) :
    dispatch n k (s.named n k) = (onBus n s).updCtx n fun _ =>
      { s.begun n k with dn := m, phase := .dataIn, mode := .composed, composed := ds.inquiry[k.lun].take m } := by
  have hdn : deviceLength k (s.drive n k.lun) = m := (deviceLength_inquiry _ hop).trans hm
  rw [dispatch_runs (by rw [hop]; decide) hlong (.inl (.inl hop)) (by omega) (by rw [hop, hdir]; rfl) (by omega), runExecuted_inquiry hop,
    runInquiry_sized hds, hdn]

section

variable {i : Image} (hlong : requiredBlock k.op ≤ k.block.length) (hready : ReadyDrive s n k.lun i)

include hlong hready

theorem dispatch_ready_executed (hexec : k.op ∈ executedOps) : dispatch n k (s.named n k) = decideTransfer n k (s.started n k) :=
  dispatch_executed hexec hlong (.inr ⟨by rw [hready.1]; simp, hready.2⟩)

theorem dispatch_ready_runs (hexec : k.op ∈ executedOps) (hdn : deviceLength k (s.drive n k.lun) ≠ 0)
    (hdir : opDirection k.op = some k.dirIn) (he : deviceLength k (s.drive n k.lun) ≤ k.expected) :
    dispatch n k (s.named n k) = runExecuted n k (s.sized n k) :=
  dispatch_runs hexec hlong (.inr ⟨by rw [hready.1]; simp, hready.2⟩) hdn hdir he

theorem dispatch_readCapacity (hop : k.op = 0x25) (hdir : k.dirIn = true) (he : 8 ≤ k.expected) : dispatch n k (s.named n k) =
    (onBus n s).updCtx n fun _ => { s.begun n k with
      dn := 8, phase := .dataIn, mode := .composed, composed := be 4 (i.size / i.block - 1) ++ be 4 i.block } := by
  have hdn : deviceLength k (s.drive n k.lun) = 8 := deviceLength_capacity _ hop
  rw [dispatch_ready_runs hlong hready (by rw [hop]; decide) (by omega) (by rw [hop, hdir]; rfl) (by omega), runExecuted_capacity hop,
    runReadCapacity_sized hready.1, hdn]

/-- A READ_CAPACITY that expects no byte is a phase error without a halt (R155). -/
theorem dispatch_readCapacity_none (hop : k.op = 0x25) (he : k.expected = 0) :
    ((dispatch n k (s.named n k)).node n).ctx.phase = .status ∧ ((dispatch n k (s.named n k)).node n).ctx.result = .phaseError := by
  have hdn (d : Drive) : deviceLength k d = 8 := deviceLength_capacity d hop
  rw [dispatch_ready_executed hlong hready (by rw [hop]; decide), decideTransfer_none (by rw [hdn]; decide) he, mediaError, latch_node,
    enterStatus_ctx (k := k) (by rw [updCtx_node_self, started_ctx]; rfl), updCtx_node_self]
  exact ⟨rfl, rfl⟩

/-- A READ_CAPACITY that expects less than its eight bytes halts the endpoint (R155). -/
theorem dispatch_readCapacity_short (hop : k.op = 0x25) (hdir : k.dirIn = true) (hpos : 0 < k.expected) (he : k.expected < 8) :
    ((dispatch n k (s.named n k)).node n).ctx.phase = .haltThenStatus ∧
      ((dispatch n k (s.named n k)).node n).ctx.halted = some .bulkIn ∧ ((dispatch n k (s.named n k)).node n).port.haltIn = true := by
  have hdn (d : Drive) : deviceLength k d = 8 := deviceLength_capacity d hop
  have hend : k.endpoint = .bulkIn := if_pos hdir
  rw [dispatch_ready_executed hlong hready (by rw [hop]; decide), decideTransfer_halts (by rw [hdn]; decide) hpos
    (.inr (by rw [hdn]; exact he)), mediaError, latch_node, setHalt, updPort_node_self, updCtx_node_self, hend]
  exact ⟨rfl, rfl, rfl⟩

section

variable (hcount : 0 < k.blocks) (hblock : 0 < i.block) (he : k.blocks * i.block ≤ k.expected)

include hcount hblock he

/-- READ(10) and WRITE(10) in their direction are decided by their range (R157). -/
theorem dispatch_blocks (hop : k.op = 0x28 ∨ k.op = 0x2A) (hdir : opDirection k.op = some k.dirIn) :
    dispatch n k (s.named n k) = runExecuted n k (s.sized n k) := by
  have hdn : deviceLength k (s.drive n k.lun) = k.blocks * i.block := deviceLength_blocks hready.1 hop
  have hpos : 0 < k.blocks * i.block := Nat.mul_pos hcount hblock
  exact dispatch_ready_runs hlong hready (by rcases hop with e | e <;> (rw [e]; decide)) (by omega) hdir (by omega)

theorem dispatch_read (hop : k.op = 0x28) (hdir : k.dirIn = true) : dispatch n k (s.named n k) = decideRead n k (s.sized n k) := by
  rw [dispatch_blocks hlong hready hcount hblock he (.inl hop) (by rw [hop, hdir]; rfl), runExecuted_read hop]

theorem dispatch_write (hop : k.op = 0x2A) (hdir : k.dirIn = false) : dispatch n k (s.named n k) = decideWrite n k (s.sized n k) := by
  rw [dispatch_blocks hlong hready hcount hblock he (.inr hop) (by rw [hop, hdir]; rfl), runExecuted_write hop]

/-- A READ(10) within the drive asks for its first line (R157, R174). -/
theorem dispatch_read_asks (hop : k.op = 0x28) (hdir : k.dirIn = true) (hend : k.lba + k.blocks ≤ i.size / i.block) :
    dispatch n k (s.named n k) = askLine n (k.firstLine i) (s.reading n k i) := by
  rw [dispatch_read hlong hready hcount hblock he hop hdir, decideRead_runs hready.1 hend, runRead_asks hready.1 hop]

end

end

section

variable {i : Image} (hready : ReadyDrive s n k.lun i)

include hready

theorem dispatch_forwarded (hexec : k.op ∉ executedOps) : dispatch n k (s.named n k) = startForward n k (s.started n k) :=
  (dispatch_goes (fun e => absurd e hexec) (.inr ⟨by rw [hready.1]; simp, hready.2⟩)).trans (if_neg hexec)

/-- A forward that takes data waits for it (R165). -/
theorem dispatch_forward_out (hexec : k.op ∉ executedOps) (hdir : k.dirIn = false) (hpos : 0 < k.expected) :
    dispatch n k (s.named n k) = (onBus n s).updCtx n fun _ => { s.begun n k with phase := .dataOut, mode := .forward } := by
  rw [dispatch_forwarded hready hexec, startForward, if_neg, started_updCtx]
  rintro (e | e)
  · omega
  · rw [hdir] at e
    cases e

/-- A forward that reads is sent where the link admits it (R165). -/
theorem dispatch_forward_in (hexec : k.op ∉ executedOps) (hdir : k.dirIn = true) (honline : s.link.online = .online)
    (hheld : s.link.held = false) (hwait : s.link.waiting = []) (hqueue : s.link.queue.length ≤ 28) :
    dispatch n k (s.named n k) =
      ((onBus n s).enqueueNotice 0xE4 (fwdCmd n ((s.node n).ctx.fwdTicket + 1) k [])).updCtx n fun _ => { s.begun n k with
        phase := .awaitHost, fwdTicket := (s.node n).ctx.fwdTicket + 1, fwdStart := s.timebase, fwdTimeout := s.cache.timeout,
        fwdState := .sent } := by
  rw [dispatch_forwarded hready hexec, startForward, if_pos (.inr hdir),
    beginForward_sends (s := s.started n k) (k := k) (by rw [started_ctx]; rfl) honline hheld hwait hqueue, started_ctx, State.started,
    updCtx_enqueueNotice, updCtx_updCtx]
  rfl

end

/-- The FWD_CMD of a command that reads carries no data (R165, section 11.4). -/
theorem fwdCmd_reads (n : Node) (ticket : Byte) (hdir : k.dirIn = true) : fwdCmd n ticket k [] =
    [BitVec.ofNat 8 n, BitVec.ofNat 8 k.lun, ticket, BitVec.ofNat 8 k.block.length]
      ++ (k.block ++ List.replicate 16 0).take 16 ++ le 4 k.expected ++ [1, 0, 0] := by
  simp only [fwdCmd, hdir, List.append_nil, List.append_assoc]
  rfl

end

end Sys2Proof.Machine

/-! # Every wrapper of the table -/

namespace Sys2Proof.Machine

open Sys2Proof

/-- Settles O54: each kind of command reaches the phase that its decisions give. -/
theorem wrappersAreDispatched : Obligations.WrappersAreDispatched := by
  unfold Obligations.WrappersAreDispatched
  refine ⟨fun s n toggle data h hdata hlen => ?_, ?_⟩
  · rw [exec_invalidWrapper h hlen, takeWrapper_invalid hdata]
    rfl
  intro s n toggle w h a fin lun d e cmd ctx closed block alloc goes
  have hrun (op : Byte) (hw : wrapperOk w op = true) {t : State} (ht : dispatch n (carried w op) (s.named n (carried w op)) = t) :
      goes op t := (exec_wrapper h hw).trans (congrArg (fun t => Host.Outcome.next (fin t)) ht)
  refine ⟨fun op hw hexec he hshort => ?_, fun op hw hlen h12 h03 he himage => ?_, fun op hw hlen h12 h03 he himage hattention => ?_,
    fun hw hlen himage hattention => ⟨fun he => ?_, fun he => ?_⟩, fun hw hlen hdir hpos he => ?_,
    fun hw hlen hdir ds hds => ?_, fun i hi hattention hlen => ⟨fun hw hdir he => ?_, fun hw he => ?_, fun hw hdir hpos he => ?_,
      ?_, fun op hw hexec => ⟨fun hdir he => ?_, fun hdir honline hheld hwait hqueue => ?_⟩⟩⟩
  · have hop := command_op hw
    refine hrun op hw ((dispatch_short (by rw [hop]; exact hexec) (by rw [hop, block_length hw]; exact hshort)).trans ?_)
    rw [refuseAtStart_closed he, started_updCtx]
    rfl
  · have hop := command_op hw
    refine hrun op hw ((dispatch_noMedium (fun _ => block_long hw hlen (requiredBlock_le op)) (by rw [hop]; exact ⟨h12, h03⟩) himage).trans ?_)
    rw [refuseAtStart_closed he, started_updCtx]
    rfl
  · have hop := command_op hw
    refine hrun op hw ((dispatch_attention (fun _ => block_long hw hlen (requiredBlock_le op)) (by rw [hop]; exact ⟨h12, h03⟩) himage
      hattention).trans ?_)
    rw [refuseAtStart_closed he, State.started, updCtx_updDrive, updCtx_updCtx]
    rfl
  · have hop := command_op hw
    refine hrun 0x00 hw ((dispatch_testUnitReady hop (block_long hw hlen (by decide)) ⟨himage, hattention⟩).trans ?_)
    rw [closeAtStart_started hop he, statusWrapper_clean]
    rfl
  · have hop := command_op hw
    refine hrun 0x00 hw ((dispatch_testUnitReady hop (block_long hw hlen (by decide)) ⟨himage, hattention⟩).trans ?_)
    rw [closeAtStart_closed he, started_updCtx]
    rfl
  · refine hrun 0x03 hw (dispatch_requestSense (command_op hw) (block_long hw hlen (by decide)) hdir (m := min 18 alloc)
      (by rw [allocation_byte hlen]) (by omega) he)
  · intro len hpos he
    refine hrun 0x12 hw (dispatch_inquiry (command_op hw) (block_long hw hlen (by decide)) hdir hds (m := len)
      (by rw [allocation_field hw hlen]) hpos he)
  · exact hrun 0x25 hw (dispatch_readCapacity (block_long hw hlen (by decide)) ⟨hi, hattention⟩ (command_op hw) hdir he)
  · obtain ⟨hphase, hresult⟩ := dispatch_readCapacity_none (k := carried w 0x25) (block_long hw hlen (by decide)) ⟨hi, hattention⟩
      (command_op hw) he
    exact ⟨_, exec_wrapper h hw, by rw [acknowledged_ctx]; exact hphase, by rw [acknowledged_ctx]; exact hresult⟩
  · obtain ⟨hphase, hhalted, hhalt⟩ := dispatch_readCapacity_short (k := carried w 0x25) (block_long hw hlen (by decide)) ⟨hi, hattention⟩
      (command_op hw) hdir hpos he
    exact ⟨_, exec_wrapper h hw, by rw [acknowledged_ctx]; exact hphase, by rw [acknowledged_ctx]; exact hhalted,
      by rw [acknowledged_port]; exact hhalt⟩
  · intro lba count start hcount hblock he
    obtain ⟨hlba, hblocks⟩ := command_lba w 0x2A 0x28
    have hpos : 0 < e := Nat.lt_of_lt_of_le (Nat.mul_pos hcount hblock) he
    have hready : ReadyDrive s n lun i := ⟨hi, hattention⟩
    have hlong (op : Byte) (hw : wrapperOk w op = true) : requiredBlock (carried w op).op ≤ (carried w op).block.length :=
      block_long hw hlen (requiredBlock_le op)
    have hcount' : 0 < (carried w 0x2A).blocks := by rw [hblocks]; exact hcount
    have he' : (carried w 0x2A).blocks * i.block ≤ (carried w 0x2A).expected := by rw [hblocks]; exact he
    refine ⟨fun hw hdir hend => ?_, fun hw hdir hend hlast honline hwaiting hslots hlimit hfree hnone slot hslot => ?_,
      fun hw hdir hend l => ?_, fun hw hdir hend hwritable => ?_, fun hw hdir hend hwritable honline hlines => ?_⟩
    · have hop := command_op hw
      refine hrun 0x28 hw ((dispatch_read (hlong _ hw) hready hcount hblock he hop hdir).trans ?_)
      rw [decideRead_pastEnd (k := carried w 0x28) hi hop hpos hend]
      rfl
    · have hop := command_op hw
      have hfresh : (s.drive n (carried w 0x28).lun).continues ((carried w 0x28).firstLine i) = false := by
        have hnoRead : (s.drive n (carried w 0x28).lun).lastRead = none := hlast
        rw [Drive.continues, hnoRead]
        simp
      have ⟨_, _, _, _, htoggle, _⟩ := h
      obtain ⟨hport, hctx, hdrive, hlines, hticket, hpages⟩ := miss_fetches s n (carried w 0x28) i slot
      refine ⟨_, (exec_wrapper h hw).trans (congrArg (fun t => Host.Outcome.next (State.acknowledged t n))
        ((dispatch_read_asks (hlong _ hw) hready hcount hblock he hop hdir hend).trans
          (reading_misses hnone hfresh honline hslot hslots ⟨hlimit, hfree⟩))), ?_, ?_, ?_, ?_, hlines, hticket, hpages⟩
      · rw [acknowledged_port]
      · rw [acknowledged_port, hport, onBus_port, htoggle]
      · rw [acknowledged_ctx, hctx, hfresh]
        rfl
      · exact (acknowledged_drive ..).trans hdrive
    · intro first last sequential hl hit
      refine hrun 0x28 hw ((dispatch_read_asks (hlong _ hw) hready hcount hblock he (command_op hw) hdir hend).trans ?_)
      refine (reading_hits (k := carried w 0x28) (i := i) hl).trans ?_
      by_cases hgo : sequential = true ∧ first = last
      · have hprefetch : prefetchRun n lun s.cache.depth (first + 1) hit = prefetchRun n lun s.cache.depth (last + 1) hit := by rw [hgo.2]
        exact (if_pos hgo).trans (hprefetch.trans (if_pos hgo).symm)
      · exact (if_neg hgo).trans (if_neg hgo).symm
    · have hop := command_op hw
      refine hrun 0x2A hw ((dispatch_write (hlong _ hw) hready hcount' hblock he' hop hdir).trans ?_)
      rw [decideWrite_protected (k := carried w 0x2A) hi hop hpos (by rw [hlba, hblocks]; exact hend) hwritable, hblocks]
      rfl
    · have hop := command_op hw
      refine hrun 0x2A hw ((dispatch_write (hlong _ hw) hready hcount' hblock he' hop hdir).trans ?_)
      rw [decideWrite_runs (k := carried w 0x2A) hi hop (by rw [hlba, hblocks]; exact hend) hwritable honline hlines, hblocks, hlba]
      rfl
  · rw [← wrapperCommand_forwarded hexec]
    have hop := command_op hw
    exact hrun op hw (dispatch_forward_out ⟨hi, hattention⟩ (by rw [hop]; exact hexec) hdir he)
  · rw [← wrapperCommand_forwarded hexec]
    have hop := command_op hw
    refine hrun op hw ((dispatch_forward_in ⟨hi, hattention⟩ (by rw [hop]; exact hexec) hdir honline hheld hwait hqueue).trans ?_)
    rw [fwdCmd_reads _ _ hdir]
    rfl

end Sys2Proof.Machine
